-- ==== Sys2Proof/Word.lean ====
section
/-! DEFINITION. The word types of the block and their plainest arithmetic.

Register fields, counters, addresses and times are natural numbers cut to their width where they
are stored; the general registers of a bobbin (R297) are bit vectors of 64 bits, because the
bobbin's ALU (R308) treats them as bits. -/

namespace Sys2Proof

/-- A general register of a bobbin thread (R297). -/
abbrev Word64 := BitVec 64

/-- One byte of a frame or of a memory. -/
abbrev Byte := BitVec 8

/-- `x` cut to `n` bits. -/
def trunc (n x : Nat) : Nat := x % 2 ^ n

theorem trunc_lt (n x : Nat) : trunc n x < 2 ^ n := Nat.mod_lt _ (Nat.two_pow_pos n)

theorem trunc_of_lt {n x : Nat} (h : x < 2 ^ n) : trunc n x = x := Nat.mod_eq_of_lt h

end Sys2Proof
end

