-- ==== Sys2Proof/Syntax.lean ====
section
/-! DEFINITION. The commands of the block: one constructor for each row of spec/opcode_table.json, with the
operands that the model gives it (the table names none): the unit concerned, a value written, the
bytes of a frame, a time. Times are Sampler times in quarter nanoseconds. -/

namespace Sys2Proof

/-- A memory error found on use: the memory, the entry (of a rule memory the word), and whether it cannot be corrected (R202, R220, R222,
R258, R292, R372, R397), or an error of a pipeline (Table 16.2: `state` false for its control path). -/
inductive MemErr where
  | pattern (entry : Nat) (uncorr : Bool)
  | selection (entry : Nat) (uncorr : Bool)
  | rule (word : Nat) (uncorr : Bool)
  | ruleCounter (counter : Nat)
  | filet (loc : Nat) (uncorr : Bool)
  | context (index : Nat) (uncorr : Bool)
  | skeinEntry (space entry : Nat)
  | policer (index : Nat) (uncorr : Bool)
  | policerCounter (index k : Nat)
  | cell (cell : Nat) (uncorr : Bool)
  | link (frame pos : Nat) (uncorr : Bool)
  | descriptor (frame : Nat) (uncorr : Bool)
  | queueEntry (queue pos index : Nat) (uncorr : Bool)
  | cellState (cell : Nat) (uncorr : Bool)
  | group (group : Nat) (uncorr : Bool)
  | pipeline (state : Bool)
  deriving DecidableEq, Repr

/-- How a piece of a received frame ends: more follows, the FCS of the frame as a number (first byte least
significant), or an error block or error control character (Table 5.1, row 1). -/
inductive RxTail where
  | more
  | fcs (w : Nat)
  | codeErr
  deriving DecidableEq, Repr

/-- A memory error that a bobbin meets on use (R305, R340): in local memory, in the instruction store or in the
window map; `uncorr` false when it is corrected. -/
inductive BobErr where
  | ok
  | mem (uncorr : Bool)
  | store (uncorr : Bool)
  | win (uncorr : Bool)
  deriving DecidableEq, Repr

/-- What Announce messages, beacons or SMP_UTC_SW say of UTC (R424): the offset as 16 bits, whether it is valid,
and the leaps announced. -/
structure UtcNews where
  offset : Nat
  valid : Bool
  leap61 : Bool
  leap59 : Bool
  deriving DecidableEq, Repr

/-- What the firmware concludes for a domain from a PTP message by the profiles of Table 13.4: the state of the
domain, its slave port, the grandmaster with its clockClass, identity and timeTraceable, the offset measured
(domain time minus voted time, in quarter ns), the mean path delay, and UTC from the Announce messages. -/
structure PtpNews where
  state : Nat
  slave : Nat
  gmClass : Nat
  gm : Nat
  traceable : Bool
  offset : Option Int
  mpd : Nat
  utc : Option UtcNews
  deriving DecidableEq, Repr

/-- A member as the manager knows it (Table 14.8, space 1): the stitch of its last STATUS, and the stitch at
which it joins or leaves. -/
structure Member where
  uid : Nat := 0
  capable : Bool := false
  lag : Nat := 0
  depth : Nat := 0
  state : Nat := 0
  parent : Nat := 0
  lastCid : Nat := 0
  seen : Nat := 0
  change : Nat := 0
  prio : Nat := 0
  deriving DecidableEq, Repr

/-- A system commit (R459): its CID, target, groups, decision stitch, MAXLAG, records, the acknowledgements and
refusals that have come, and on a member how far it is: records staged, acknowledged, seen armed; and the stitch period that it brings (R45). -/
structure SysCommit where
  cid : Nat := 0
  target : Nat := 0
  groups : Nat := 0
  maxLag : Nat := 0
  records : List (List Nat) := []
  acks : List Nat := []
  refusals : List Nat := []
  staged : Bool := false
  acked : Bool := false
  seen : Bool := false
  period : Option Nat := none
  deriving DecidableEq, Repr

/-- What the active manager keeps up to date at its standby (R441): members and pending system commits. -/
structure AldCopy where
  members : List (Nat × Member)
  commits : List SysCommit
  deriving DecidableEq, Repr

/-- What the boot ROM finds of a firmware copy in the flash (R568): an accepted format version, a vendor signature
that verifies, its SVN, and the hashes of the owner keys whose endorsements it carries. -/
structure FlashCopy where
  format : Bool
  vendor : Bool
  svn : Nat
  endorsed : List (List Nat)
  deriving DecidableEq, Repr

/-- What a boot finds outside the block: copies A and B of the firmware, and the strap ALD_MGR_SEL (R438). -/
structure BootPins where
  copyA : FlashCopy
  copyB : FlashCopy
  mgrSel : Bool
  deriving DecidableEq, Repr

/-- How a fuse burn ends (R566): verified, or failed after the second read-back with the bits that did burn. -/
inductive Burn where
  | ok
  | failed (bits : List Nat)
  deriving DecidableEq, Repr

/-- Which plane accesses a register (R35). -/
inductive Plane where
  | host
  | mgmt
  deriving DecidableEq, Repr

/-- One stored copy of an RWV field as an upset left it (R106): the bits that differ from the value
written, and whether its parity is bad. -/
structure VoteCopy where
  flip : Nat := 0
  bad : Bool := false
  deriving DecidableEq, Repr

/-- The three copies of an RWV field (R106); without upsets all three hold the value written. -/
structure Vote where
  a : VoteCopy := {}
  b : VoteCopy := {}
  c : VoteCopy := {}
  deriving DecidableEq, Repr

/-- How an access that R83 does not accept is malformed: a read of more than one DW, a read with all byte enables
clear, a read with some clear, or a write that is too long or has a byte enable clear. -/
inductive BadAccess where
  | longRead
  | zeroRead
  | partRead
  | write
  /-- An aligned read of two DW. -/
  | twoRead
  /-- An aligned write of two DW, low DW first. -/
  | twoWrite (lo hi : Nat)
  deriving DecidableEq, Repr

/-- The commands. -/
inductive Instr where
  /-- COLD_RESET (R550). Power-on with every rail in regulation resets the whole device, including the always-on domain, and boots the firmware. -/
  | coldReset (b : BootPins)
  /-- WARM_RESET (R550). RESET_N held low for at least 1 µs, or a thermal trip, resets everything except the always-on domain. -/
  | warmReset (b : BootPins)
  /-- POWER_LOSS (R582). All rails fall together, as on card removal; DRAM contents are lost and the next start is a cold reset. -/
  | powerLoss (bs : List Nat)
  /-- FIRMWARE_READY (R551). The firmware starts answering after a reset and READY is set. -/
  | firmwareReady
  /-- PERST_ASSERT (R550). PERST# gives a fundamental reset of the PCIe endpoint and acts as a function-level reset of function 0. -/
  | perstAssert
  /-- PERST_DEASSERT (R547). Deassertion of PERST# is always a wake source and ends PCIE_WAKE_N. -/
  | perstDeassert (ledger : Nat)
  /-- THERMAL_TRIP (R538). A tile held at or above 115 °C for 1 ms drives THERM_TRIP_N low, idles the lanes and holds the device in warm reset. -/
  | thermalTrip
  /-- STITCH_BOUNDARY (R56). Sampler time, or a hoop's replica of it, reaches a multiple of the period; the stitch count increments and the fixed boundary steps run. -/
  | stitchBoundary (errs : List (Nat × MemErr))
  /-- COMMIT_CLOSE (R50). The commit window closes 256 ns before the boundary; pages latch their shadows and check them against their block rules. -/
  | commitClose
  /-- SOFT_RESET_DONE (R552). The soft reset completes within 1 ms and SOFT_STATE returns to 0. -/
  | softResetDone
  /-- REGISTER_WRITE (R13). A write to a register without behaviour of its own stores RW, RWS or RWV values, clears W1C bits and discards management-owned bits. -/
  | registerWrite (a : Nat) (v : Nat) (pl : Plane) (parity : Bool)
  /-- SPLIT_HI_WRITE (R117). A write of the _HI half of a split RW value passes the whole 64-bit value to the block. -/
  | splitHiWrite (a : Nat) (v : Nat) (pl : Plane)
  /-- MALFORMED_ACCESS (R83). A BAR access of a length or byte-enable pattern that the device does not accept is refused and sets BAD_ACCESS. -/
  | malformedAccess (a : Nat) (k : BadAccess)
  /-- UNMAPPED_ACCESS (R85). An access to an unmapped address reads 0 or is discarded, and sets UNMAPPED in the Global page. -/
  | unmappedAccess (a : Nat) (write : Bool)
  /-- COMMIT_GO (R101). A write of COMMIT_GO requests an untargeted or targeted commit of the page's group, replacing any pending request. -/
  | commitGo (a : Nat) (atEn : Bool) (at16 : Nat)
  /-- COMMIT_CANCEL (R101). A write of COMMIT_CANCEL cancels the group's pending commit if it reaches the sequencer before the close. -/
  | commitCancel (a : Nat) (atEn : Bool) (at16 : Nat)
  /-- IND_CTRL_WRITE (R111). A write of PAGE_IND_CTRL clears ERR, discards staged words and read snapshots, and selects space, step and direction. -/
  | indCtrlWrite (a : Nat) (space : Nat) (step : Nat) (dir : Bool)
  /-- IND_ADDR_WRITE (R112). A write of PAGE_IND_ADDR sets the word index and, in the read direction, starts a fetch. -/
  | indAddrWrite (a : Nat) (w : Nat)
  /-- IND_DATA_READ (R112). A read of PAGE_IND_DATA returns the fetched word, advances ADDR and starts the next fetch, or pops a FIFO. -/
  | indDataRead (a : Nat)
  /-- IND_DATA_WRITE (R113). A write of PAGE_IND_DATA stages or writes a word at ADDR and advances ADDR, or fails when DIR is 0. -/
  | indDataWrite (a : Nat) (w : Nat)
  /-- IND_FETCH_DONE (R114). A fetch completes, snapshotting the whole entry, or fails and sets ERR and IND_ERROR. -/
  | indFetchDone (a : Nat) (errs : List MemErr)
  /-- IND_WRITE_DONE (R113). A buffered indirect entry write lands whole in its space. -/
  | indWriteDone (a : Nat)
  /-- CROSSING_DELIVER (R120). An RW value or event that was crossing clock domains reaches its block, the pending counter saturating at 255. -/
  | crossingDeliver (a : Nat)
  /-- SCRUB_VISIT (R107). The scrubber visits an RWV field, repairing a bad copy or declaring VOTE_LOST. -/
  | scrubVisit (a : Nat) (lo : Nat) (active : Bool) (u : Vote)
  /-- CNT_CLR (R176). A write of 1 to CNT_CLR clears the page's live counters. -/
  | cntClr (a : Nat)
  /-- FENCE_REQ (R513). A write of FENCE_REQ fences the unit of a page, or is discarded where the page cannot be fenced. -/
  | fenceReq (a : Nat)
  /-- FENCE_RELEASE (R513). A write of RELEASE requests the end of a unit's fence, with the effect that its chapter gives. -/
  | fenceRelease (a : Nat)
  /-- HOOP_RESET_DONE (R515). The hoop reset performed by a hoop RELEASE completes within 10 ms and the hoop restarts acquisition. -/
  | hoopResetDone (h : Nat)
  /-- PERIOD_REQ (R45). A write of REQ_GO submits a new stitch period, which the firmware accepts as pending or refuses with a REASON. -/
  | periodReq (ns : Nat)
  /-- SIGNAL_RISE (R137). After 10 µs of energy above threshold SIGNAL rises and the lane starts acquisition. -/
  | signalRise (l : Nat)
  /-- SIGNAL_FALL (R137). After 2 µs without energy SIGNAL falls, ending clock recovery and setting LOS while the lane carries traffic. -/
  | signalFall (l : Nat)
  /-- CDR_LOCK_ACQUIRED (R138). Clock recovery locks during lane acquisition. -/
  | cdrLockAcquired (l : Nat)
  /-- CDR_LOCK_LOST (R138). Clock recovery loses lock; CDR_UNLOCK is set and lock is retried. -/
  | cdrLockLost (l : Nat)
  /-- ADAPT_COMPLETE (R138). Receiver adaptation first completes without link training and ADAPT_DONE is set. -/
  | adaptComplete (l : Nat) (limit : Bool)
  /-- TRAIN_DONE (R138). Link training ends with TRAIN_STATE 2 and ADAPT_DONE is set. -/
  | trainDone (l : Nat)
  /-- TRAIN_FAIL (R138). Link training fails within its clause timers; TRAIN_FAIL is set. -/
  | trainFail (l : Nat)
  /-- TRAIN_RESTART (R138). 10 ms after a training failure, link training restarts. -/
  | trainRestart (l : Nat)
  /-- TRAIN_STEP_REQUEST (R134). The partner's training requests a tap step, which is applied or refused beyond the limits with EQ_LIMIT. -/
  | trainStepRequest (l : Nat) (tap : Nat) (up : Bool)
  /-- TX_TAP_STEP (R142). Every 1,024 symbols the transmitter moves each tap one unit towards a newly committed value. -/
  | txTapStep (l : Nat)
  /-- STUFF_INSERT (R130). A run of 24 identical symbols makes the lane insert a stuff symbol, holding the link layer when the debt is 64. -/
  | stuffInsert (l : Nat) (bs : List Nat) (repaid : Nat)
  /-- STUFF_DISCARD (R131). The receiver discards the symbol after 24 identical symbols, counting a stuff violation when it equals the run level. -/
  | stuffDiscard (l : Nat) (xs : List Nat)
  /-- QUIET_ENTRY (R144). After IDLE_100NS of fill only, an Aladotra lane with LPM 1 enters QUIET; the link layer has
  offered nothing but fill for `ns`. -/
  | quietEntry (l ns : Nat)
  /-- QUIET_EXIT (R145). A symbol offered by the link layer makes a QUIET lane send a training burst. -/
  | quietExit (l : Nat)
  /-- QUIET_EXIT_BOUNDARY (R145). A QUIET lane starts its exit on its own in time to be ready before the beacon of the next boundary. -/
  | quietExitBoundary (l : Nat)
  /-- QUIET_MAX_EXIT (R145). After 1 ms in QUIET the lane exits. -/
  | quietMaxExit (l : Nat)
  /-- BURST_END (R146). A training burst ends; a receiver that has not relocked sets BURST_FAIL and restarts from CDR lock. -/
  | burstEnd (l : Nat) (relocked : Bool)
  /-- CHK_SYNC_ACQUIRED (R149). After 64 error-free bits the pattern checker synchronises. -/
  | chkSyncAcquired (l : Nat) (xs : List Nat)
  /-- CHK_SYNC_LOST (R149). More than 128 errors in 1,024 bits drop checker sync, hold the counters and resynchronise. -/
  | chkSyncLost (l : Nat) (xs : List Nat)
  /-- CHK_CLR (R149). A write of CHK_CLR clears the checker counters. -/
  | chkClr (l : Nat)
  /-- EVT_CLR (R152). A write of EVT_CLR clears LAN_EVENT_COUNT. -/
  | evtClr (l : Nat)
  /-- INJ_ONE (R151). A write of INJ_ONE injects one bit error at the selected target. -/
  | injOne (l : Nat)
  /-- INJECT_PERIODIC (R151). Every 2^INJ_RATE bits an error is injected at the selected target. -/
  | injectPeriodic (l : Nat)
  /-- LINK_UP (R155). All conditions of lock hold on every lane and LINK_UP rises; an Aladotra link enters HELLO. -/
  | linkUp (n : Nat) (t : Nat)
  /-- LINK_DOWN (R156). LINK_UP falls; the frame in reception ends as a code error, the frame in transmission is cut off and pause timers clear. -/
  | linkDown (n : Nat) (t : Nat) (hiBer : Bool)
  /-- FEC_UNLOCK (R158). The RS-FEC loses codeword lock and FEC_UNLOCK is set. -/
  | fecUnlock (n : Nat) (t : Nat)
  /-- REMOTE_FAULT_RX (R155). Remote fault is received; the port sends idle, starts no frame and sets RFAULT. -/
  | remoteFaultRx (n : Nat)
  /-- RX_FRAME (R159). A frame is received, its cells written into the Reseau, checked as Table 5.1 gives and counted in one receive counter. -/
  | rxFrame (n : Nat) (t : Nat) (b : List Nat) (tail : RxTail) (overrun : Bool) (fec : List Nat)
  /-- PAUSE_RX (R164). An accepted pause frame loads the timer of every class. -/
  | pauseRx (n : Nat) (t : Nat) (q : Nat)
  /-- PFC_RX (R164). An accepted PFC frame loads the timers of the classes enabled in it and in RX_CLASS_EN. -/
  | pfcRx (n : Nat) (t : Nat) (vec : Nat) (times : List Nat)
  /-- PAUSE_TIMER_EXPIRY (R164). A class pause timer reaches 0 and the class is no longer held. -/
  | pauseTimerExpiry (n : Nat) (c : Nat) (t : Nat)
  /-- PAUSE_WD_FIRE (R167). A class held for WD_US is released and its pause frames are ignored for IGN_US. -/
  | pauseWdFire (n : Nat) (c : Nat) (t : Nat)
  /-- PAUSE_WD_IGNORE_END (R167). The watchdog ignore time ends and accepted frames hold the class again. -/
  | pauseWdIgnoreEnd (n : Nat) (c : Nat) (t : Nat)
  /-- PAUSE_HOLD_REQUEST (R390). The traffic manager requests a hold of a class because its account HOLD is set, and the MAC sends pause or PFC. -/
  | pauseHoldRequest (n : Nat) (c : Nat) (t : Nat)
  /-- PAUSE_RELEASE_REQUEST (R390). The traffic manager requests a release of a class, and the MAC sends one release frame. -/
  | pauseReleaseRequest (n : Nat) (c : Nat) (t : Nat)
  /-- PAUSE_REPEAT (R168). While a hold persists the port resends its pause or PFC frame every TX_QUANTA/2 quanta. -/
  | pauseRepeat (n : Nat) (t : Nat)
  /-- WAKE_PATTERN_MATCH (R174). The wake-pattern detector matches a frame, sends a wake request and sets WAKE. -/
  | wakePatternMatch (n : Nat) (b : List Nat) (ledger : Nat)
  /-- INGRESS_LOOKUP (R39). A frame takes a header slot and is parsed, selected, scanned, classified, looked up in the Filet and tracked by the Skein under one epoch. -/
  | ingressLookup (f : Nat) (t : Nat) (len : Option Nat) (errs : List MemErr)
  /-- ENQUEUE (R348). A frame's lookup result reaches the Reseau and the frame is enqueued, mirrored and checked for duplicates. -/
  | enqueue (f : Nat) (t : Nat)
  /-- MC_REPLICATE (R352). A multicast or flooded frame is replicated into entries for the member ports. -/
  | mcReplicate (src : Nat) (errs : List MemErr)
  /-- TX_OPPORTUNITY (R377). A port can start a frame and the traffic manager chooses one eligible queue head. -/
  | txOpportunity (p : Nat) (t : Nat) (errs : List MemErr)
  /-- TX_FRAME_COMPLETE (R345). The transmitter sends a frame's last byte, counts it, keeps any stamp and gives up its reference. -/
  | txFrameComplete (n : Nat) (t : Nat) (errs : List MemErr)
  /-- HOLD_EVALUATE (R359). At least every 1,024 clocks the HOLD of every account is evaluated. -/
  | holdEvaluate
  /-- INTERNAL_SOURCE_RESUME (R361). An internal source waiting for a cell, or for HOLD to clear, resumes. -/
  | internalSourceResume (src : Nat) (c : Nat)
  /-- MIRROR_COPY (R366). A mirror engine builds a copy once the frame's tail is stored. -/
  | mirrorCopy (k : Nat) (t : Nat)
  /-- RECIRC_FEED (R350). The recirculation feed reads a frame into the ingress pipeline of hoop 4p. -/
  | recircFeed (p : Nat) (t : Nat)
  /-- AUDIT_PASS_END (R370). A buffer audit pass ends; findings are logged and corrected when RECLAIM_EN is 1. -/
  | auditPassEnd
  /-- GATE_EDGE (R385). A gate list entry ends and the gates of the next entry take force. -/
  | gateEdge (p : Nat) (t : Nat)
  /-- GATE_LIST_START (R386). A pending gate list reaches its start time and comes into force. -/
  | gateListStart (p : Nat) (t : Nat)
  /-- GL_SYNC_DONE (R386). The gate list copy-back completes and GL_SYNC clears. -/
  | glSyncDone (p : Nat)
  /-- POLICER_REFRESH (R396). A background refresh adds tokens to every valid policer. -/
  | policerRefresh (t : Nat)
  /-- PRK_SYNC_DONE (R200). The Pricking shadow copy after an apply completes and SYNC_BUSY clears. -/
  | prkSyncDone (h : Nat)
  /-- CLS_RETIRE (R210). Block-map command RETIRE sets RET_PEND on a LIVE block. -/
  | clsRetire (p : Nat) (k : Nat)
  /-- CLS_UNSTAGE (R210). Block-map command UNSTAGE frees a STAGED block at once. -/
  | clsUnstage (p : Nat) (k : Nat)
  /-- CLS_KEEP (R210). Block-map command KEEP clears RET_PEND at once. -/
  | clsKeep (p : Nat) (k : Nat)
  /-- LEARN_EVENT_ARRIVAL (R239). A learn event reaches the sequencer and is held, discarded when full, or released at once when late. -/
  | learnEventArrival (k : Nat) (t : Nat)
  /-- LEARN_RELEASE (R239). Sampler time reaches an event's arrival time plus 2,000 ns and it is released to all panels. -/
  | learnRelease (t : Nat)
  /-- LEARN_APPLY (R240). A panel applies a released learn event, inserting, refreshing, moving or discarding. -/
  | learnApply (p : Nat) (errs : List MemErr)
  /-- FIL_SEARCH (R247). Command SEARCH returns the entry of a key. -/
  | filSearch (p : Nat) (errs : List MemErr)
  /-- FIL_NEXT (R248). Command NEXT returns the next valid entry that passes the filters. -/
  | filNext (p : Nat) (errs : List MemErr)
  /-- FIL_INSERT (R249). Command INSERT stages a user-class entry. -/
  | filInsert (p : Nat) (errs : List MemErr)
  /-- FIL_DELETE (R250). Command DELETE stages the removal of an entry or frees a staged add. -/
  | filDelete (p : Nat) (errs : List MemErr)
  /-- FLUSH_BY_PORT (R251). Command FLUSH_BY_PORT stages the removal of entries pointing at a port. -/
  | flushByPort (p : Nat) (errs : List MemErr)
  /-- FIL_DISCARD_STAGED (R253). Command DISCARD_STAGED withdraws every staged change of the page. -/
  | filDiscardStaged (p : Nat) (errs : List MemErr)
  /-- FIL_CLEANUP_DONE (R254). The post-apply rewrite of latched entries completes and CLEANUP clears. -/
  | filCleanupDone (p : Nat)
  /-- FIL_CMD_RESUME (R254). A changing command that waited for the apply and cleanup starts. -/
  | filCmdResume (p : Nat) (errs : List MemErr)
  /-- SKN_SEARCH (R290). Command SEARCH copies a flow's image from cache or home bucket. -/
  | sknSearch (h : Nat) (err : Bool)
  /-- SKN_READ (R290). Command READ copies a DRAM record to the command buffer. -/
  | sknRead (h : Nat) (err : Bool)
  /-- SKN_UPDATE (R290). Command UPDATE stages the masked field groups of a flow. -/
  | sknUpdate (h : Nat)
  /-- SKN_EVICT (R290). Command EVICT stages an eviction with REASON 3. -/
  | sknEvict (h : Nat)
  /-- SKN_PIN (R290). Command PIN stages PINNED for a flow. -/
  | sknPin (h : Nat)
  /-- SKN_UNPIN (R290). Command UNPIN stages the clearing of PINNED. -/
  | sknUnpin (h : Nat)
  /-- SKN_DISCARD_STAGED (R290). Command DISCARD_STAGED withdraws every staged Skein change. -/
  | sknDiscardStaged (h : Nat)
  /-- SKN_OVERLAY_MERGE (R291). A staged change is merged into context, pending flow or DRAM record, or dropped as UPD_LOST. -/
  | sknOverlayMerge (h : Nat)
  /-- WORK_DISPATCH (R300). A free work thread takes a frame or Skein event and starts its handler. -/
  | workDispatch (b : Nat) (t : Nat)
  /-- FRAME_QUEUE_ADMIT (R300). A frame waiting in the Reseau enters a bobbin's frame queue when room appears. -/
  | frameQueueAdmit (b : Nat)
  /-- ADD (R308). ALU add. -/
  | bobAdd (b : Nat) (t : Nat) (at4 : Nat) (e : BobErr)
  /-- SUB (R308). ALU subtract. -/
  | bobSub (b : Nat) (t : Nat) (at4 : Nat) (e : BobErr)
  /-- AND (R308). ALU bitwise and. -/
  | bobAnd (b : Nat) (t : Nat) (at4 : Nat) (e : BobErr)
  /-- OR (R308). ALU bitwise or. -/
  | bobOr (b : Nat) (t : Nat) (at4 : Nat) (e : BobErr)
  /-- XOR (R308). ALU bitwise exclusive or. -/
  | bobXor (b : Nat) (t : Nat) (at4 : Nat) (e : BobErr)
  /-- SHL (R308). ALU shift left by rs2. -/
  | bobShl (b : Nat) (t : Nat) (at4 : Nat) (e : BobErr)
  /-- SHR (R308). ALU logical shift right by rs2. -/
  | bobShr (b : Nat) (t : Nat) (at4 : Nat) (e : BobErr)
  /-- SAR (R308). ALU arithmetic shift right by rs2. -/
  | bobSar (b : Nat) (t : Nat) (at4 : Nat) (e : BobErr)
  /-- MUL (R308). Multiply, low 64 bits. -/
  | bobMul (b : Nat) (t : Nat) (at4 : Nat) (e : BobErr)
  /-- MULHU (R308). Unsigned multiply, high 64 bits. -/
  | bobMulhu (b : Nat) (t : Nat) (at4 : Nat) (e : BobErr)
  /-- MIN (R308). Signed minimum. -/
  | bobMin (b : Nat) (t : Nat) (at4 : Nat) (e : BobErr)
  /-- MAX (R308). Signed maximum. -/
  | bobMax (b : Nat) (t : Nat) (at4 : Nat) (e : BobErr)
  /-- MINU (R308). Unsigned minimum. -/
  | bobMinu (b : Nat) (t : Nat) (at4 : Nat) (e : BobErr)
  /-- MAXU (R308). Unsigned maximum. -/
  | bobMaxu (b : Nat) (t : Nat) (at4 : Nat) (e : BobErr)
  /-- SLT (R308). Signed set-less-than. -/
  | bobSlt (b : Nat) (t : Nat) (at4 : Nat) (e : BobErr)
  /-- SLTU (R308). Unsigned set-less-than. -/
  | bobSltu (b : Nat) (t : Nat) (at4 : Nat) (e : BobErr)
  /-- POPCNT (R308). Population count. -/
  | bobPopcnt (b : Nat) (t : Nat) (at4 : Nat) (e : BobErr)
  /-- BSWAP (R308). Byte swap. -/
  | bobBswap (b : Nat) (t : Nat) (at4 : Nat) (e : BobErr)
  /-- ADDI (R308). Add immediate. -/
  | bobAddi (b : Nat) (t : Nat) (at4 : Nat) (e : BobErr)
  /-- ANDI (R308). And with zero-extended immediate. -/
  | bobAndi (b : Nat) (t : Nat) (at4 : Nat) (e : BobErr)
  /-- ORI (R308). Or with zero-extended immediate. -/
  | bobOri (b : Nat) (t : Nat) (at4 : Nat) (e : BobErr)
  /-- XORI (R308). Exclusive or with zero-extended immediate. -/
  | bobXori (b : Nat) (t : Nat) (at4 : Nat) (e : BobErr)
  /-- SHIFTI_SHL (R308). SHIFTI selector 0: shift left by an immediate amount. -/
  | bobShiftiShl (b : Nat) (t : Nat) (at4 : Nat) (e : BobErr)
  /-- SHIFTI_SHR (R308). SHIFTI selector 1: logical shift right by an immediate amount. -/
  | bobShiftiShr (b : Nat) (t : Nat) (at4 : Nat) (e : BobErr)
  /-- SHIFTI_SAR (R308). SHIFTI selector 2: arithmetic shift right by an immediate amount. -/
  | bobShiftiSar (b : Nat) (t : Nat) (at4 : Nat) (e : BobErr)
  /-- LUI (R308). Load upper immediate. -/
  | bobLui (b : Nat) (t : Nat) (at4 : Nat) (e : BobErr)
  /-- INSI (R308). Insert an immediate into a 16-bit lane of rd. -/
  | bobInsi (b : Nat) (t : Nat) (at4 : Nat) (e : BobErr)
  /-- BEQ (R308). Branch if equal. -/
  | bobBeq (b : Nat) (t : Nat) (at4 : Nat) (e : BobErr)
  /-- BNE (R308). Branch if not equal. -/
  | bobBne (b : Nat) (t : Nat) (at4 : Nat) (e : BobErr)
  /-- BLT (R308). Branch if signed less. -/
  | bobBlt (b : Nat) (t : Nat) (at4 : Nat) (e : BobErr)
  /-- BGE (R308). Branch if signed greater or equal. -/
  | bobBge (b : Nat) (t : Nat) (at4 : Nat) (e : BobErr)
  /-- BLTU (R308). Branch if unsigned less. -/
  | bobBltu (b : Nat) (t : Nat) (at4 : Nat) (e : BobErr)
  /-- BGEU (R308). Branch if unsigned greater or equal. -/
  | bobBgeu (b : Nat) (t : Nat) (at4 : Nat) (e : BobErr)
  /-- JAL (R308). Jump and link into g31. -/
  | bobJal (b : Nat) (t : Nat) (at4 : Nat) (e : BobErr)
  /-- JR (R308). Jump to register plus immediate, linking into rd. -/
  | bobJr (b : Nat) (t : Nat) (at4 : Nat) (e : BobErr)
  /-- LD (R308). Load 64 bits from local memory. -/
  | bobLd (b : Nat) (t : Nat) (at4 : Nat) (e : BobErr)
  /-- LW (R308). Load 32 bits, zero-extended, from local memory. -/
  | bobLw (b : Nat) (t : Nat) (at4 : Nat) (e : BobErr)
  /-- SD (R308). Store 64 bits to local memory. -/
  | bobSd (b : Nat) (t : Nat) (at4 : Nat) (e : BobErr)
  /-- SW (R308). Store 32 bits to local memory. -/
  | bobSw (b : Nat) (t : Nat) (at4 : Nat) (e : BobErr)
  /-- LDI (R308). Load a word from the instruction store. -/
  | bobLdi (b : Nat) (t : Nat) (at4 : Nat) (e : BobErr)
  /-- HLD (R306). Load eight bytes from the frame header buffer or a metadata slot. -/
  | bobHld (b : Nat) (t : Nat) (at4 : Nat) (e : BobErr)
  /-- HST (R306). Store eight bytes into the frame header buffer. -/
  | bobHst (b : Nat) (t : Nat) (at4 : Nat) (e : BobErr)
  /-- INSTALL (R284). Install a pending flow into its context, with a record, a merge or NONE. -/
  | bobInstall (b : Nat) (t : Nat) (at4 : Nat) (e : BobErr)
  /-- CTXRD (R309). Copy a context image to local memory. -/
  | bobCtxrd (b : Nat) (t : Nat) (at4 : Nat) (e : BobErr)
  /-- CTXWR (R309). Write selected fields of a context at once. -/
  | bobCtxwr (b : Nat) (t : Nat) (at4 : Nat) (e : BobErr)
  /-- CTXEVICT (R309). Evict a flow with REASON 3. -/
  | bobCtxevict (b : Nat) (t : Nat) (at4 : Nat) (e : BobErr)
  /-- FSEARCH (R309). Search this panel's Filet for a key. -/
  | bobFsearch (b : Nat) (t : Nat) (at4 : Nat) (e : BobErr)
  /-- FLEARN (R310). Raise a learn event from a bobbin. -/
  | bobFlearn (b : Nat) (t : Nat) (at4 : Nat) (e : BobErr)
  /-- PCHARGE (R393). Charge a policer with a byte count. -/
  | bobPcharge (b : Nat) (t : Nat) (at4 : Nat) (e : BobErr)
  /-- PREAD (R400). Copy a policer's configuration and state to local memory. -/
  | bobPread (b : Nat) (t : Nat) (at4 : Nat) (e : BobErr)
  /-- TABLE_OP_COMPLETE (R309). A table operation's result is written to rd and its thread becomes ready. -/
  | tableOpComplete (b : Nat) (t : Nat)
  /-- DRD (R317). Issue a DRAM read against a token into local memory. -/
  | bobDrd (b : Nat) (t : Nat) (at4 : Nat) (e : BobErr)
  /-- DWR (R317). Issue a DRAM write against a token from local memory. -/
  | bobDwr (b : Nat) (t : Nat) (at4 : Nat) (e : BobErr)
  /-- DRAM_ISSUE_ACCEPTED (R317). A DRD or DWR that waited for channel queue room is accepted and its token becomes ISSUED. -/
  | dramIssueAccepted (b : Nat) (t : Nat) (at4 : Nat) (e : BobErr)
  /-- DRD_COMPLETE (R318). A DRAM read lands in local memory and its token becomes DONE, or fences the bobbin on an uncorrectable error. -/
  | drdComplete (b : Nat) (i : Nat) (err : Bool) (e : BobErr)
  /-- DWR_COMPLETE (R318). A DRAM write becomes visible and its token becomes DONE. -/
  | dwrComplete (b : Nat) (i : Nat)
  /-- DAWAIT (R319). Wait for a token to be DONE and free it. -/
  | bobDawait (b : Nat) (t : Nat) (at4 : Nat) (e : BobErr)
  /-- DATEST (R319). Return a token's state without changing it. -/
  | bobDatest (b : Nat) (t : Nat) (at4 : Nat) (e : BobErr)
  /-- TIME_NS (R308). TIME selector 0 returns Sampler time in ns. -/
  | bobTimeNs (b : Nat) (t : Nat) (at4 : Nat) (e : BobErr)
  /-- TIME_STITCH (R308). TIME selector 1 returns the stitch count. -/
  | bobTimeStitch (b : Nat) (t : Nat) (at4 : Nat) (e : BobErr)
  /-- TIME_PHASE (R308). TIME selector 2 returns ns since the last boundary. -/
  | bobTimePhase (b : Nat) (t : Nat) (at4 : Nat) (e : BobErr)
  /-- TIME_EPOCH (R308). TIME selector 3 returns the commit epoch. -/
  | bobTimeEpoch (b : Nat) (t : Nat) (at4 : Nat) (e : BobErr)
  /-- TIME_STATUS (R415). TIME selector 4 returns the time status word and STEP_SEQ. -/
  | bobTimeStatus (b : Nat) (t : Nat) (at4 : Nat) (e : BobErr)
  /-- FWD (R311). A frame handler forwards its frame to the enqueue with optional port and class. -/
  | bobFwd (b : Nat) (t : Nat) (at4 : Nat) (e : BobErr)
  /-- DROP (R311). A frame handler discards its frame. -/
  | bobDrop (b : Nat) (t : Nat) (at4 : Nat) (e : BobErr)
  /-- NEW (R313). Build and enqueue a new frame from local memory. -/
  | bobNew (b : Nat) (t : Nat) (at4 : Nat) (e : BobErr)
  /-- END (R320). End a work item or thread 0 run, freeing tokens once reads are done. -/
  | bobEnd (b : Nat) (t : Nat) (at4 : Nat) (e : BobErr)
  /-- YIELD (R323). Thread 0 yields, and the work threads are restored. -/
  | bobYield (b : Nat) (t : Nat) (at4 : Nat) (e : BobErr)
  /-- RDPERF (R337). Read a performance counter, or get 0 and PERF_DENIED. -/
  | bobRdperf (b : Nat) (t : Nat) (at4 : Nat) (e : BobErr)
  /-- RDID (R308). Read the bobbin and thread number. -/
  | bobRdid (b : Nat) (t : Nat) (at4 : Nat) (e : BobErr)
  /-- ILLEGAL_INSTRUCTION (R308). An undefined opcode, function or selector faults the bobbin. -/
  | illegalInstruction (b : Nat) (t : Nat) (at4 : Nat) (e : BobErr)
  /-- THREAD0_OVERRUN (R324). Thread 0's run reaches BUDGET and is pre-empted as an overrun. -/
  | thread0Overrun (b : Nat)
  /-- BOB_RELEASE_EFFECT (R329). A bobbin RELEASE takes effect once no token is ISSUED, clearing registers, tokens and work areas. -/
  | bobReleaseEffect (b : Nat)
  /-- SEG_RETIRE (R330). Segment-map command RETIRE sets RET_PEND on a LIVE segment. -/
  | segRetire (h : Nat) (k : Nat)
  /-- SEG_UNSTAGE (R330). Segment-map command UNSTAGE frees a STAGED segment. -/
  | segUnstage (h : Nat) (k : Nat)
  /-- SEG_KEEP (R330). Segment-map command KEEP clears RET_PEND. -/
  | segKeep (h : Nat) (k : Nat)
  /-- PERF_CLR (R336). A write of CLR sets all eight bobbin performance counters to 0. -/
  | perfClr (b : Nat)
  /-- PERF_COUNTER_WRAP (R336). A performance counter wraps from 2^48 − 1 to 0 and sets PERF_WRAP. -/
  | perfCounterWrap (b : Nat) (n : Nat)
  /-- VOTE_COMPARE (R407). Every 1 µs the voter compares each channel with the voted time and fences a diverging channel. -/
  | voteCompare (edges : List (Nat × Nat)) (devs : List Int) (hold : Int) (ok : Nat) (aon : Nat) (ppb : Nat)
  /-- CLOCK_LOST (R408). A channel input shows no edge for four periods and the channel is fenced. -/
  | clockLost (i : Nat)
  /-- CHANNEL_REJOIN (R409). A released channel that stayed within DIV_THR/2 for 1 s returns to the vote. -/
  | channelRejoin (i : Nat)
  /-- SERVO_ACQUIRE (R411). After at least 8 offset measurements the servo steps time once and locks. -/
  | servoAcquire (t : Nat)
  /-- SOURCE_LOST (R410). The steering source is lost and the servo switches domain or enters HOLDOVER. -/
  | sourceLost (src : Nat) (t : Nat)
  /-- SOURCE_REGAINED (R410). A source is regained and the servo locks by rate only. -/
  | sourceRegained (src : Nat) (t : Nat)
  /-- HOLDOVER_TRACE_EXPIRY (R413). HOLD_TRACE_S seconds after leaving lock, TRACEABLE falls. -/
  | holdoverTraceExpiry (t : Nat)
  /-- SWITCH_REQ (R414). A write of SWITCH_REQ switches to the other domain when it is locked. -/
  | switchReq (t : Nat)
  /-- AUTO_REVERT (R414). The primary domain has stayed locked for PRIM_HOLD_S and the servo returns to it. -/
  | autoRevert (t : Nat)
  /-- SWITCH_SETTLED (R414). After a domain switch the offset falls below 1 ns and SWITCHING clears. -/
  | switchSettled (off : Int)
  /-- REACQ (R410). A write of REACQ returns the servo to FREE. -/
  | reacq (t : Nat)
  /-- LATCH (R404). A write of LATCH copies the Sampler time into the latch registers. -/
  | latch (t : Nat)
  /-- REPLICA_REFRESH (R416). Every 256 ns the Sampler refreshes each hoop replica. -/
  | replicaRefresh (t : Nat) (missed : List Nat)
  /-- PTP_MESSAGE_RX (R423). The firmware processes a trapped PTP message for its domain's servo and best master selection. -/
  | ptpMessageRx (j : Nat) (c : Nat) (t : Nat) (news : PtpNews)
  /-- LEAP_APPLY (R425). At the change instant of an announced leap, U changes and LEAP_APPLIED is set. -/
  | leapApply (t : Nat)
  /-- CAPTURE_EDGE (R426). An enabled edge on an event input is stamped into the capture FIFO, or lost when full. -/
  | captureEdge (i : Nat) (t : Nat) (rising : Bool)
  /-- PULSE_EDGE (R427). A pulse output reaches its next edge time and starts a pulse. -/
  | pulseEdge (i : Nat) (t : Nat)
  /-- IRIG_B_SECOND (R429). At each second an IRIG-B output starts a new 100-bit frame. -/
  | irigBSecond (i : Nat) (t : Nat)
  /-- HIGH_CLR (R437). A write of HIGH_CLR clears the timestamp FIFO high-water mark. -/
  | highClr (h : Nat)
  /-- MANAGER_ELECTION (R440). A manager-capable device 1 s in LISTEN or ISOLATED without beacons of its system becomes active manager. -/
  | managerElection (t : Nat)
  /-- ALD_LINK_FRAME_RX (R446). A link frame is checked for header CRC, system tag, type, loop and sequence. -/
  | aldLinkFrameRx (n : Nat) (t : Nat) (pre line : List Nat) (overrun : Bool) (fec : List Nat)
  /-- HELLO_RX (R448). A HELLO cell gives the peer's identity, SYS_ID and PROTO. -/
  | helloRx (n : Nat) (sys : Nat) (proto : Nat) (uid : Nat) (peer : Nat) (pair : Bool)
  /-- PROBE_SEND (R450). Every PROBE_DIV stitches, or every stitch in HELLO, a PROBE is sent. -/
  | probeSend (n : Nat) (t : Nat)
  /-- PROBE_RX (R450). A received PROBE is answered with a PROBE_RESP carrying t2 and t3. -/
  | probeRx (n : Nat) (t : Nat)
  /-- PROBE_RESP_RX (R450). A PROBE_RESP completes a delay exchange and updates DELAY or sets DELAY_JUMP. -/
  | probeRespRx (n : Nat) (t : Nat)
  /-- BEACON_RX (R451). A beacon is received, its content held and, from the parent, used to steer time. -/
  | beaconRx (n : Nat) (t : Nat) (lower : Bool) (copy : Option AldCopy)
  /-- JOIN_REQ_SEND (R455). A device steering from source 3 sends JOIN_REQ once its offset is within ±20 ns. -/
  | joinReqSend (t : Nat)
  /-- JOIN_REQ (R456). The manager admits or refuses a joining device. -/
  | joinReq (n : Nat) (uid : Nat) (proto : Nat) (lastCid : Nat) (capable : Bool) (prio : Nat)
  /-- JOIN_GRANT (R455). A joining device receives its member number and join stitch. -/
  | joinGrant (n : Nat) (uid : Nat) (refused : Bool) (member : Nat) (sj : Nat)
  /-- STATUS_SEND (R458). Every STATUS_DIV stitches a member sends a STATUS cell. -/
  | statusSend
  /-- STATUS_RX (R458). The manager records a member's STATUS cell. -/
  | statusRx (n : Nat) (member : Nat) (state : Nat) (lag : Nat) (depth : Nat) (parent : Nat) (lastCid : Nat) (prio : Nat)
  /-- MEMBER_ABSENT (R458). No STATUS from a member for ABSENT intervals marks it ABSENT. -/
  | memberAbsent (m : Nat)
  /-- LEAVE_REQ (R457). A write of LEAVE_REQ sends a LEAVE cell. -/
  | leaveReq
  /-- LEAVE (R457). The manager receives a LEAVE cell and answers with a leave stitch. -/
  | leave (n : Nat) (member : Nat) (sl : Option Nat)
  /-- SC_REQUEST (R459). A write of ALD_SC_REQ GO requests a system commit, which the manager distributes or refuses. -/
  | scRequest
  /-- SC_DIST (R460). A member receives a system commit, stages its records and holds a targeted commit. -/
  | scDist (n : Nat) (c : SysCommit)
  /-- SC_ACK_WRITE (R461). A write of ALD_SC_ACK GO acknowledges a commit. -/
  | scAckWrite
  /-- SC_ACK (R461). The manager receives an acknowledgement or refusal of a commit. -/
  | scAck (n : Nat) (member : Nat) (cid : Nat) (refuse : Bool)
  /-- TSYNC (R464). A member receives resynchronisation records and stages them. -/
  | tsync (n : Nat) (dst : Nat) (records : List (List Nat)) (last : Bool) (cid : Nat) (sa : Nat)
  /-- MGR_LOST (R465). The standby misses the content of a manager stitch beyond MISS_TOL and declares the manager lost. -/
  | mgrLost (t : Nat)
  /-- TAKEOVER_ACTIVE (R466). The standby takes the active role and sends TAKEOVER. -/
  | takeoverActive (t : Nat)
  /-- TAKEOVER (R466). A member receives TAKEOVER and relays it once. -/
  | takeover (n : Nat) (member : Nat)
  /-- HANDOVER_START (R469). A returned manager has been standby for REVERT_S and the active manager sends HANDOVER. -/
  | handoverStart (t : Nat)
  /-- HANDOVER (R469). A member receives HANDOVER naming the handover stitch. -/
  | handover (n : Nat) (dst : Nat) (sh : Nat)
  /-- TX_DOORBELL (R485). A transmit doorbell write makes the engine re-read its entry and may arm the interrupt. -/
  | txDoorbell (f : Nat) (q : Nat) (w : Nat)
  /-- RX_DOORBELL (R485). A receive doorbell write makes the engine re-read its entry and may arm the interrupt. -/
  | rxDoorbell (f : Nat) (q : Nat) (w : Nat)
  /-- QP_ENABLE (R480). A write of NDL_QP_ENABLE checks and turns on a queue pair. -/
  | qpEnable (f : Nat) (hi : Bool) (w : Nat)
  /-- TX_ENTRY_FETCHED (R487). A transmit entry read returns; the engine takes an owned send, waits, or finds a malformed entry. -/
  | txEntryFetched (f : Nat) (q : Nat) (ws : List Nat) (err : Option Nat)
  /-- SEND_ENTER (R488). A send's bytes are read and it enters the data plane, segmented or direct. -/
  | sendEnter (f : Nat) (q : Nat) (t : Nat) (b : List Nat) (err : Option Nat)
  /-- TX_COMPLETION (R490). The device writes a send's completion and returns its entries, after any stamp outcome. -/
  | txCompletion (f : Nat) (q : Nat) (t : Nat) (err : Option Nat)
  /-- RX_DELIVERY (R496). A CPU-port frame is written to a Floss buffer and receive entries. -/
  | rxDelivery (k : Nat) (c : Nat) (t : Nat) (own : Bool) (own2 : Bool) (err : Option Nat)
  /-- FLS_FREE (R500). A write of a free word returns a buffer handle or decrements a share slot. -/
  | flsFree (f : Nat) (w : Nat)
  /-- MOD_TIMER_EXPIRY (R506). MOD_US passes for an armed interrupt source and its MSI-X message is sent. -/
  | modTimerExpiry (f : Nat) (q : Nat) (rx : Bool) (t : Nat)
  /-- IRQ0_REARM (R522). A write of IRQ0_REARM resends vector 0 while its condition holds. -/
  | irq0Rearm (f : Nat)
  /-- FUNCTION_LEVEL_RESET (R494). An FLR turns off the function's queues, clears its fence and store, and abandons deliveries. -/
  | functionLevelReset (f : Nat)
  /-- ATS_TRANSLATION_COMPLETE (R503). An ATS translation returns; the transfer proceeds, parks with a page request, or fences the function. -/
  | atsTranslationComplete (f : Nat) (q : Nat) (m : Nat) (addr : Nat) (alloc : Nat) (rx : Bool) (ok : Bool) (pri : Bool)
  /-- PAGE_REQUEST_RESPONSE (R503). A page request group response resumes a parked queue or fences the function. -/
  | pageRequestResponse (f : Nat) (q : Nat) (rx : Bool) (ok : Bool)
  /-- ATS_INVALIDATE (R505). An ATS Invalidate Request is answered once no request uses the translation. -/
  | atsInvalidate
  /-- SURPRISE_DOWN (R507). The PCIe link goes down unexpectedly; queues halt and SURPRISE_DOWN is set. -/
  | surpriseDown
  /-- CE_RATE_CHECK (R517). Each second a DDR channel's correctable errors are compared with CE_LIMIT. -/
  | ceRateCheck (c : Nat) (n : Nat)
  /-- DDR_PHY_FAILURE (R517). A DDR PHY or training failure fences the channel. -/
  | ddrPhyFailure (c : Nat)
  /-- SPARE_COPY_DONE (R518). The copy of a fenced channel to the spare completes: the copier has passed the lines below
  `lines`, of which `bad` gave an uncorrectable error; below 4,194,304 it still runs. -/
  | spareCopyDone (lines : Nat) (bad : List Nat)
  /-- D2D_CRC_FAIL (R529). A die-to-die transfer fails its CRC and is replayed, with 16 failures causing a retrain. -/
  | d2dCrcFail (p : Nat) (again : Bool)
  /-- D2D_RETRAIN_DONE (R530). The die-to-die port completes a retraining. -/
  | d2dRetrainDone (p : Nat)
  /-- D2D_DESKEW (R530). Every 1 µs the port corrects its skew, setting DESKEW_LIMIT at the end of its range. -/
  | d2dDeskew (p : Nat) (skew : Nat) (limit : Bool) (t : Nat)
  /-- FW_RESTART (R523). An uncorrectable error in management-core memory restarts the firmware. -/
  | fwRestart
  /-- AVS_ACK (R533). The regulator reports the requested voltage reached and the level sequence continues. -/
  | avsAck (p : Nat)
  /-- AVS_TIMEOUT (R534). No acknowledgement within AVS_TIMEOUT_US; the request is resent or AVS_FAIL ends the sequence. -/
  | avsTimeout (p : Nat) (t : Nat)
  /-- SENSOR_SCAN (R536). Every 1 ms tile temperatures and voltages are read and pairs beyond limits throttle a panel. -/
  | sensorScan (t : Nat) (temps : List Int) (volts : List Nat)
  /-- THROTTLE_STEP (R536). 10 ms after a lowering, a pair still beyond its limit lowers the panel further. -/
  | throttleStep (p : Nat) (t : Nat)
  /-- THROTTLE_RECOVER (R536). Every 100 ms within limits the throttle level rises one step. -/
  | throttleRecover (p : Nat) (t : Nat)
  /-- H1_ENTRY_ATTEMPT (R539). A hoop idle for IDLE_US starts an H1 entry handshake. -/
  | h1EntryAttempt (h : Nat) (t : Nat)
  /-- H2_IDLE_ENTRY (R541). A hoop in H1 for H2_IDLE_MS starts an H2 entry. -/
  | h2IdleEntry (h : Nat) (t : Nat)
  /-- H2_REQ (R541). A write of H2_REQ starts an H2 entry. -/
  | h2Req (h : Nat)
  /-- HANDSHAKE_ANSWER (R543). A block of the entry handshake agrees and stops, or refuses; the last agreement completes the entry. -/
  | handshakeAnswer (u : Nat) (t : Nat)
  /-- HANDSHAKE_TIMEOUT (R543). A block fails to answer in time, which counts as a refusal with code 15. -/
  | handshakeTimeout (u : Nat)
  /-- WAKE_REQ (R540). A write of WAKE_REQ wakes a hoop from H1 or H2. -/
  | wakeReq (h : Nat)
  /-- HOOP_H1_WAKE (R540). A frame at or for a hoop in H1 wakes it. -/
  | hoopH1Wake (h : Nat) (queued : Bool) (t : Nat)
  /-- H2_POWER_UP_DONE (R542). A hoop's power island comes up, reloads its replica and applies due commits. -/
  | h2PowerUpDone (h : Nat) (t : Nat)
  /-- H2_POWER_UP_TIMEOUT (R542). A power island not up within 50 µs fences the hoop with DETAIL 4. -/
  | h2PowerUpTimeout (h : Nat)
  /-- HOOP_PAD_RELEASE (R542). A write of PAD_RELEASE releases a hoop's lane pads and starts acquisition. -/
  | hoopPadRelease (h : Nat)
  /-- D3HOT_ENTRY (R545). Function 0 placed in D3hot with D3_ARM set starts the D3 handshake. -/
  | d3hotEntry (pme : Bool) (t : Nat)
  /-- PME_TURN_OFF (R545). After a successful handshake, PME_Turn_Off is answered and the device enters D3. -/
  | pmeTurnOff
  /-- SMBUS_WAKE_MATCH (R548). An SMBus address byte matches WAKE_ADDR in D3 and starts the wake. -/
  | smbusWakeMatch (k : Nat) (addr : Nat) (ledger : Nat)
  /-- GPIO_WAKE (R547). An enabled GPIO changes level in D3 and starts the wake. -/
  | gpioWake (pin : Nat) (ledger : Nat)
  /-- WAKE_TIMER (R547). The sleep ledger reaches PWR_WAKE_AT and starts the wake. -/
  | wakeTimer (ledger : Nat)
  /-- DEVICE_PAD_RELEASE (R549). A write of PAD_RELEASE in PWR_D3_CTRL releases held device pads. -/
  | devicePadRelease
  /-- SOFT_RESET_REQUEST (R552). A write of GLB_SOFT_RST GO schedules an untargeted or targeted soft reset. -/
  | softResetRequest (atEn : Bool) (at16 : Nat)
  /-- TRANSITION (R559). Mordant OP 1 burns a life-cycle bit and warm-resets the device into the new state. -/
  | transition (b : Burn) (pins : BootPins)
  /-- ROLE (R565). Mordant OP 2 burns a role bit and warm-resets the device. -/
  | role (b : Burn) (pins : BootPins)
  /-- KEY_INIT (R564). Mordant OP 3 programs owner key slot 0. -/
  | keyInit (b : Burn)
  /-- KEY_ROTATE (R569). Mordant OP 4 programs the next owner key slot. -/
  | keyRotate (b : Burn) (copyA : FlashCopy) (copyB : FlashCopy)
  /-- ARB_ADVANCE (R565). Mordant OP 5 advances the anti-rollback counter. -/
  | arbAdvance (b : Burn) (copyA : FlashCopy) (copyB : FlashCopy)
  /-- LANE_FUSE (R565). Mordant OP 6 burns a new lane polarity and remap generation. -/
  | laneFuse (b : Burn)
  /-- DEBUG_GRANT (R562). Mordant OP 7 opens debug access until the next reset. -/
  | debugGrant
  /-- FLASH_WRITE (R570). Mordant OP 8 writes 1,024 bytes to the boot flash outside the running copy. -/
  | flashWrite
  /-- REBOOT (R564). Mordant OP 9 reboots the device. -/
  | reboot (pins : BootPins)
  /-- DEBUG_KEY (R564). Mordant OP 10 programs the owner debug key. -/
  | debugKey (b : Burn)
  /-- REMOTE_FAULT_END (R155). The port stops receiving remote fault, RFAULT in PAGE_STATUS clears and the port may start frames again. -/
  | remoteFaultEnd (n : Nat)
  /-- SHAPER_CREDIT_ZERO (R389). The credit of a shaped class rises back to 0, which makes its queue eligible, and the port chooses a frame in that clock. -/
  | shaperCreditZero (p : Nat) (c : Nat) (t : Nat)
  /-- PULSE_WIDTH_END (R427). WIDTH ns after its leading edge, a pulse output returns to its idle level. -/
  | pulseWidthEnd (i : Nat) (t : Nat)
  /-- PTP_MESSAGE_SEND (R423). At each of its message intervals, the firmware sends a Sync, Delay_Req, Announce or peer-delay message from port 1031, with a kept transmit stamp. -/
  | ptpMessageSend (j : Nat) (n : Nat) (kind : Nat) (t : Nat) (b : List Nat)
  /-- PCIE_LINK_RETURN (R507). The PCIe link comes back after a surprise down; SD_FLUSH discarding stops and the functions stand as after a function-level reset of function 0. -/
  | pcieLinkReturn
  /-- FW_RESTART_DONE (R523). The firmware restart completes within 50 ms, the Sampler leaves its forced holdover and waiting Aladotra control cells are answered. -/
  | fwRestartDone
  /-- SUPPLY_RAIL_FALL (R582). A single supply rail falls while VAON stays up, for example in D3, so the retained state is lost and the next start is a cold reset. -/
  | supplyRailFall (bs : List Nat)
  deriving DecidableEq, Repr

end Sys2Proof
end

