-- ==== Sys2Proof/Decode.lean ====
section
/-! DEFINITION. The opcode table gives no row any bits: a command reaches the block as an event or an access, not as an
encoded word. -/

namespace Sys2Proof

/-- The command that a word spells by the table's bits: no row of the table has bits, so no word spells one. -/
def decodeTableWord (_nbits _w : Nat) : Option Instr := none

end Sys2Proof
end

