-- ==== Sys2Proof/Config.lean ====
section
/-! DEFINITION. What an implementation fixes and the free values: opaque constants, so that no proof can see
what they are and every statement holds whatever they are. -/

namespace Sys2Proof.Config

/-- A value that the spec leaves open: the `n`-th value drawn at the place `site`. The places are
listed in the assumption log. -/
opaque free (site n : Nat) : Nat

/-- PAGE_VER of the page at a BAR0 base (R93): MAJOR in bits 15:8, MINOR in bits 7:0. -/
opaque pageVersion (base : Nat) : Nat

/-- The fused identity of the device: DEV_UID, 64 bits (Table 14.7). -/
opaque devUid : Nat

/-- The fused silicon stepping STEP, 8 bits (R5). -/
opaque step : Nat

/-- The fused VARIANT, 4 bits: 0 is KJ-SZ2048-M, 1 KJ-SZ2048-W, 2 KJ-SZ2048-MX (R5). -/
opaque variant : Nat

/-- PROTO, the protocol version of the firmware, 4 bits (Table 14.7). -/
opaque proto : Nat

/-- The parity bit of an IRIG-B frame for the number of ones before it (IEEE C37.118.1, which R429 names and
does not give). -/
opaque irigParity (ones : Nat) : Nat

/-- The sign bit that an IRIG-B frame gives a time offset, for an offset that is negative or not. -/
opaque irigSign (negative : Bool) : Nat

/-- The fused voltage offset VTRIM of a panel in steps of 5 mV, 0 to 10 (R532). -/
opaque vtrim (panel : Nat) : Nat

/-- Whether a signature of ECDSA P-384 with SHA-384 verifies (R563): the hash of the public key, the words signed, the
words of the signature. -/
opaque signatureOk (keyHash signed sig : List Nat) : Bool

/-- Bit `n` of the test pattern SSPRQ, which R148 names and does not give. -/
opaque ssprq (n : Nat) : Nat

/-- Where 64 bits stand in SSPRQ, latest lowest; none where they are not of it. -/
opaque ssprqPhase (last : Nat) : Option Nat

/-- The hash of the vendor key, fixed at manufacture (R568). -/
opaque vendorKey : List Nat

/-- The low 32 bits of the SHA-384 of a request buffer (Table 18.6). -/
opaque requestHash (words : List Nat) : Nat

end Sys2Proof.Config
end

