-- ==== Sys2Proof/Machine/Bits.lean ====
section
/-! DEFINITION. Bit fields, signed numbers and byte orders (R9, R10, R11) over natural numbers. -/

namespace Sys2Proof.Machine

/-- Bits `hi` to `lo` of `w` (R9). -/
def bits (w hi lo : Nat) : Nat := w / 2 ^ lo % 2 ^ (hi + 1 - lo)

/-- Bit `i` of `w`. -/
def bit (w i : Nat) : Bool := w / 2 ^ i % 2 == 1

/-- 1 for true. -/
def b2n (b : Bool) : Nat := if b then 1 else 0

/-- `w` with its bits `lo` up to `lo + n - 1` replaced by `v`. -/
def setBits (w lo n v : Nat) : Nat :=
  w / 2 ^ (lo + n) * 2 ^ (lo + n) + v % 2 ^ n * 2 ^ lo + w % 2 ^ lo

/-- `w` with bit `i` set or cleared. -/
def setBit (w i : Nat) (b : Bool) : Nat := setBits w i 1 (b2n b)

/-- The `n`-bit number `x` read as signed. -/
def signed (n x : Nat) : Int := if x % 2 ^ n < 2 ^ (n - 1) then (x % 2 ^ n : Nat) else (x % 2 ^ n : Nat) - 2 ^ n

/-- A signed number as `n` bits, wrapping. -/
def unsigned (n : Nat) (i : Int) : Nat := (i % (2 ^ n : Nat)).toNat

/-- A signed number as `n` bits, saturating. -/
def satSigned (n : Nat) (i : Int) : Nat :=
  unsigned n (if i < -(2 ^ (n - 1) : Nat) then -(2 ^ (n - 1) : Nat)
    else if (2 ^ (n - 1) : Nat) - 1 < i then (2 ^ (n - 1) : Nat) - 1 else i)

/-- `x`, but no more than `m`: a saturating count. -/
def sat (m x : Nat) : Nat := if m < x then m else x

/-- Bytes read as one number, the first byte most significant (the order of the wire, R11). -/
def beNat (bs : List Nat) : Nat := bs.foldl (fun a b => a * 256 + b % 256) 0

/-- Bytes read as one number, the first byte least significant (R11). -/
def leNat : List Nat → Nat
  | [] => 0
  | b :: bs => b % 256 + 256 * leNat bs

/-- `n` bytes of `x`, least significant first. -/
def leBytes : Nat → Nat → List Nat
  | 0, _ => []
  | n + 1, x => x % 256 :: leBytes n (x / 256)

/-- `n` bytes of `x`, most significant first. -/
def beBytes (n x : Nat) : List Nat := (leBytes n x).reverse

/-- `n` items of a list from position `i`. -/
def slice {α : Type} (xs : List α) (i n : Nat) : List α := (xs.drop i).take n

/-- The byte at position `i`, 0 beyond the end. -/
def byteAt (bs : List Nat) (i : Nat) : Nat := bs.getD i 0 % 256

/-- The 16-bit number at position `i`, in wire order. -/
def be16 (bs : List Nat) (i : Nat) : Nat := byteAt bs i * 256 + byteAt bs (i + 1)

/-- The 32-bit number at position `i`, in wire order. -/
def be32 (bs : List Nat) (i : Nat) : Nat := be16 bs i * 65536 + be16 bs (i + 2)

/-- A list with position `i` replaced. -/
def listSet {α : Type} (xs : List α) (i : Nat) (x : α) : List α := xs.set i x

/-- Words of 32 bits from a number, least significant first. -/
def leWords : Nat → Nat → List Nat
  | 0, _ => []
  | n + 1, x => x % 2 ^ 32 :: leWords n (x / 2 ^ 32)

/-- The number that words of 32 bits spell, least significant first. -/
def wordsNat : List Nat → Nat
  | [] => 0
  | w :: ws => w % 2 ^ 32 + 2 ^ 32 * wordsNat ws

/-- The number of set bits among the lowest `n`. -/
def popCount : Nat → Nat → Nat
  | 0, _ => 0
  | n + 1, x => x % 2 + popCount n (x / 2)

/-- The positions of the set bits among the lowest `n`, rising. -/
def setBitsOf (n x : Nat) : List Nat := (List.range n).filter (fun i => bit x i)

/-- Insertion into a list kept by a rising key. -/
def insertBy {α : Type} (key : α → Nat) (x : α) : List α → List α
  | [] => [x]
  | y :: ys => if key x < key y then x :: y :: ys else y :: insertBy key x ys

/-- The list without repeats, first places kept. -/
def dedup (xs : List Nat) : List Nat :=
  xs.foldl (fun acc x => if acc.contains x then acc else acc ++ [x]) []

/-- The reflected CRC of a byte under a 32-bit polynomial, `n` bit steps. -/
def crcSteps (poly : Nat) : Nat → Nat → Nat
  | 0, c => c
  | n + 1, c => crcSteps poly n (if c % 2 = 1 then (c / 2) ^^^ poly else c / 2)

/-- The IEEE 802.3 CRC-32 of bytes. -/
def crc32 (bs : List Nat) : Nat :=
  (bs.foldl (fun c b => crcSteps 0xEDB8_8320 8 (c ^^^ (b % 256))) 0xFFFF_FFFF) ^^^ 0xFFFF_FFFF

end Sys2Proof.Machine
end

