-- ==== Sys2Proof/Machine/Coding.lean ====
section
/-! DEFINITION. The codings of the lanes as pure functions (chapter 4): Gray mapping and precoding (R123, R127), the
scrambler and descrambler of Aladotra coding (R129), RS(544,514) and the distribution of its symbols over lanes (R128),
and the test patterns (R148). -/

namespace Sys2Proof.Machine

/-! ### Gray mapping and precoding (R123, R127) -/

/-- The PAM4 level of two bits, the first sent first (IEEE 802.3). -/
def grayLevel (a b : Nat) : Nat := if a = 0 then b else 3 - b

/-- The two bits of a PAM4 level, the first sent first. -/
def grayBits (x : Nat) : List Nat := [x / 2 % 2, (x + x / 2) % 2]

/-- The levels of bits in pairs. -/
def grayLevels : List Nat → List Nat
  | a :: b :: r => grayLevel (a % 2) (b % 2) :: grayLevels r
  | _ => []

/-- The symbols of bits at a RATE: NRZ up to 2, Gray-coded PAM4 above (Table 4.1). -/
def modulate (rate : Nat) (bs : List Nat) : List Nat := if rate ≤ 2 then bs.map (· % 2) else grayLevels bs

/-- The bits of symbols at a RATE. -/
def demodulate (rate : Nat) (xs : List Nat) : List Nat := if rate ≤ 2 then xs.map (· % 2) else xs.flatMap grayBits

/-- The precoder 1/(1+D) over PAM4 levels: each level sent is the level given less the level sent before, modulo 4; with
the last level sent. -/
def precode : Nat → List Nat → List Nat × Nat
  | p, [] => ([], p)
  | p, g :: gs =>
    let x := (g + 4 - p % 4) % 4
    let r := precode x gs
    (x :: r.1, r.2)

/-- The inverse of precoding, 1 + D, from the level received before. -/
def unprecode : Nat → List Nat → List Nat
  | _, [] => []
  | p, x :: xs => (x + p) % 4 :: unprecode x xs

/-! ### The scrambler of Aladotra coding (R129) -/

/-- One bit through the scrambler: the state holds the last 58 bits sent, the latest in bit 0. -/
def scrambleBit (st d : Nat) : Nat × Nat :=
  let o := d ^^^ (st / 2 ^ 38 % 2) ^^^ (st / 2 ^ 57 % 2)
  (o, (st * 2 + o) % 2 ^ 58)

/-- One bit through the descrambler: the state holds the last 58 bits received. -/
def unscrambleBit (st b : Nat) : Nat × Nat :=
  (b ^^^ (st / 2 ^ 38 % 2) ^^^ (st / 2 ^ 57 % 2), (st * 2 + b) % 2 ^ 58)

/-- A byte, least significant bit first, through one or the other: the byte that comes out and the state. -/
def codeByte (step : Nat → Nat → Nat × Nat) (st b : Nat) : Nat × Nat :=
  (List.range 8).foldl (fun r i => let x := step r.2 (b / 2 ^ i % 2); (r.1 + x.1 % 2 * 2 ^ i, x.2)) (0, st)

/-- Bytes through one or the other. -/
def codeBytes (step : Nat → Nat → Nat × Nat) : Nat → List Nat → List Nat × Nat
  | st, [] => ([], st)
  | st, b :: bs =>
    let x := codeByte step st b
    let r := codeBytes step x.2 bs
    (x.1 :: r.1, r.2)

/-- The scrambled bytes and the scrambler's state after them. -/
def scramble (st : Nat) (bs : List Nat) : List Nat × Nat := codeBytes scrambleBit st bs

/-- The recovered bytes and the descrambler's state after them. -/
def unscramble (st : Nat) (bs : List Nat) : List Nat × Nat := codeBytes unscrambleBit st bs

/-- The scrambler's state when a link starts: all ones. -/
def scrambleStart : Nat := 2 ^ 58 - 1

/-! ### RS(544,514) (R128; the code is that of IEEE 802.3 Clause 91) -/

/-- A product in GF(2^10) of the polynomial x^10 + x^3 + 1; the fuel counts the bits of the second factor. -/
def gfMulN : Nat → Nat → Nat → Nat
  | 0, _, _ => 0
  | n + 1, a, b =>
    let r := gfMulN n (if 1024 ≤ 2 * a then (2 * a) ^^^ 0x409 else 2 * a) (b / 2)
    if b % 2 = 1 then a ^^^ r else r

/-- A product in GF(2^10). -/
def gfMul (a b : Nat) : Nat := gfMulN 10 a b

/-- The powers of the primitive element 2. -/
def gfPow : Nat → Nat
  | 0 => 1
  | n + 1 => gfMul (gfPow n) 2

/-- A polynomial, highest coefficient first, times (x - r). -/
def polyTimes (p : List Nat) (r : Nat) : List Nat :=
  List.zipWith (· ^^^ ·) (p ++ [0]) (0 :: p.map (gfMul r))

/-- The generator polynomial: the product of (x - 2^j) for j from 0 to 29. -/
def rsGenerator : List Nat := (List.range 30).foldl (fun p j => polyTimes p (gfPow j)) [1]

/-- The 30 parity symbols of message symbols, first symbol first: the remainder of division by the generator. -/
def rsParity (msg : List Nat) : List Nat :=
  msg.foldl (fun r m =>
    let q := m ^^^ r.headD 0
    List.zipWith (· ^^^ ·) (r.drop 1 ++ [0]) (rsGenerator.tail.map (gfMul q))) (List.replicate 30 0)

/-- A codeword: 514 message symbols and their parity. -/
def rsEncode (msg : List Nat) : List Nat := msg ++ rsParity msg

/-- Bits in groups of ten, the first bit of a symbol its least significant. -/
def fecSymbols (bs : List Nat) : List Nat :=
  (List.range (bs.length / 10)).map (fun i => (List.range 10).foldl (fun n k => n + bs.getD (10 * i + k) 0 % 2 * 2 ^ k) 0)

/-- FEC symbols over `w` lanes, round-robin from the lowest (Table 4.3). -/
def overLanes (w : Nat) (xs : List Nat) : List (List Nat) :=
  (List.range w).map (fun k => ((List.range xs.length).filter (fun i => i % w == k)).map (fun i => xs.getD i 0))

/-- The bits of bytes, least significant first. -/
def byteBits (bs : List Nat) : List Nat := bs.flatMap (fun b => (List.range 8).map (fun i => b / 2 ^ i % 2))

/-! ### Test patterns (R148, Table 4.5) -/

/-- Where a pattern stands: the last bits, latest lowest, and the bits given. -/
structure PatSt where
  last : Nat := 0
  pos : Nat := 0
  deriving DecidableEq, Repr

/-- The taps of the pseudo-random patterns: a bit is the sum of those so many places before it. -/
def patTaps : Nat → List Nat
  | 0 => [7, 6]
  | 1 => [9, 5]
  | 2 => [13, 12, 2, 1]
  | 3 => [15, 14]
  | 4 => [23, 18]
  | 5 => [31, 28]
  | _ => []

/-- The order of a pseudo-random pattern; 0 for the others. -/
def patOrder (code : Nat) : Nat := (patTaps code).headD 0

/-- The next bit of a pattern at a RATE, with USER[63:0]. The square wave is 8 symbols high and 8 low. -/
def patBit (rate code user : Nat) (x : PatSt) : Nat :=
  match code with
  | 6 => Config.ssprq x.pos % 2
  | 7 => if rate ≤ 2 then b2n (decide (x.pos % 16 < 8)) else b2n (decide (x.pos % 32 < 16) && x.pos % 2 == 0)
  | 8 => user / 2 ^ (x.pos % 64) % 2
  | _ => (patTaps code).foldl (fun n k => n + x.last / 2 ^ (k - 1)) 0 % 2

/-- The pattern after a bit. -/
def patNext (x : PatSt) (b : Nat) : PatSt := { last := (x.last * 2 + b % 2) % 2 ^ 64, pos := x.pos + 1 }

/-- `n` bits of a pattern, and where it then stands. -/
def patTake (rate code user : Nat) : Nat → PatSt → List Nat × PatSt
  | 0, x => ([], x)
  | n + 1, x =>
    let b := patBit rate code user x
    let r := patTake rate code user n (patNext x b)
    (b :: r.1, r.2)

/-- Where a pattern starts: the bits before the first of a pseudo-random one are open, but not all 0. -/
def patStart (code l : Nat) : PatSt :=
  let k := patOrder code
  { last := if k = 0 then 0 else Config.free 18 l % (2 ^ k - 1) + 1 }

/-- The number of bits after which a fixed pattern repeats; 0 where it is none. -/
def patPeriod (rate : Nat) : Nat → Nat
  | 7 => if rate ≤ 2 then 16 else 32
  | 8 => 64
  | _ => 0

/-- What a checker holds (R149): the pattern as it predicts it, consecutive good bits while it seeks, the bits seen, and
while it is synchronised the bits compared and those of the last 1,024 that were in error. -/
structure ChkSt where
  pat : PatSt := {}
  good : Nat := 0
  seen : Nat := 0
  cmp : Nat := 0
  bad : List Nat := []
  deriving DecidableEq, Repr

/-- Where a fixed pattern stands after 64 bits that agree with it, none where they do not; those of SSPRQ are open. -/
def patPhase (rate code user last : Nat) : Option Nat :=
  if code = 6 then Config.ssprqPhase last
  else (List.range (patPeriod rate code)).find? (fun ph =>
    (patTake rate code user 64 { pos := ph }).2.last == last % 2 ^ 64)

/-- A checker that seeks takes a bit: it is synchronised after 64 consecutive error-free bits. A pseudo-random pattern is
predicted from the bits received before. -/
def chkSeek (rate code user : Nat) (x : ChkSt) (b : Nat) : ChkSt × Bool :=
  let k := patOrder code
  let pat := patNext x.pat b
  if k ≠ 0 then
    let good := if k ≤ x.seen && patBit rate code user x.pat == b % 2 && x.pat.last % 2 ^ k != 0 then x.good + 1 else 0
    ({ x with pat := pat, seen := x.seen + 1, good := good }, decide (64 ≤ good))
  else if x.seen + 1 < 64 then ({ x with pat := pat, seen := x.seen + 1 }, false)
  else match patPhase rate code user pat.last with
    | some ph => ({ x with pat := { pat with pos := ph + 64 }, seen := x.seen + 1 }, true)
    | none => ({ x with pat := pat, seen := x.seen + 1 }, false)

/-- A synchronised checker compares a bit: whether it is in error, and whether more than 128 of the last 1,024 are. -/
def chkCompare (rate code user : Nat) (x : ChkSt) (b : Nat) : ChkSt × Bool × Bool :=
  let want := patBit rate code user x.pat
  let err := want != b % 2
  let bad := (if err then x.bad ++ [x.cmp] else x.bad).filter (fun i => decide (x.cmp < i + 1024))
  ({ x with pat := patNext x.pat want, cmp := x.cmp + 1, bad := bad }, err, decide (128 < bad.length))

end Sys2Proof.Machine
end

