-- ==== Sys2Proof/Machine/Fields.lean ====
section
/-! DEFINITION. The register fields of the block's pages (R13, R89), one definition per field, with
its place, its access code and its reset value, written from the field tables of the chapters.

A field is stored by its own address, so that the word of a register is the sum of its fields; a
reserved bit (RSV) is no field, reads 0 and discards writes (R14). A read-only value split over a
_LO and a _HI register is one field of its whole width. -/

namespace Sys2Proof.Machine

/-- The access codes of a field (R13). -/
inductive Access where
  | ro | rw | rws | rwv | w1c | wo
  deriving DecidableEq, Repr

/-- A register field: the byte offset of its register in the page, its lowest bit there, its width,
its access code, its reset value and whether the management plane owns it (R96). -/
structure Field where
  off : Nat
  lo : Nat
  width : Nat
  access : Access
  reset : Nat
  owned : Bool
  deriving DecidableEq, Repr

namespace Fld

/-! ### HDR -/

/-- PAGE_STICKY_MASK 31:0 MASK[31:0], RW, Table 3.8. -/
def PAGE_STICKY_MASK_MASK : Field := ⟨0x01c, 0, 32, .rw, 0, false⟩
/-- PAGE_IRQ_EN 31:0 IRQ_EN[31:0], RW, Table 3.8. -/
def PAGE_IRQ_EN_IRQ_EN : Field := ⟨0x020, 0, 32, .rw, 0, false⟩
/-- PAGE_COMMIT 31 COMMIT_GO[31], WO, Table 3.8. -/
def PAGE_COMMIT_COMMIT_GO : Field := ⟨0x028, 31, 1, .wo, 0, false⟩
/-- PAGE_COMMIT 30 COMMIT_CANCEL[30], WO, Table 3.8. -/
def PAGE_COMMIT_COMMIT_CANCEL : Field := ⟨0x028, 30, 1, .wo, 0, false⟩
/-- PAGE_COMMIT 24 VIEW_ACTIVE[24], RW, Table 3.8. -/
def PAGE_COMMIT_VIEW_ACTIVE : Field := ⟨0x028, 24, 1, .rw, 0, false⟩
/-- PAGE_COMMIT 20 AT_EN[20], RW, Table 3.8. -/
def PAGE_COMMIT_AT_EN : Field := ⟨0x028, 20, 1, .rw, 0, false⟩
/-- PAGE_COMMIT 19:16 COMMIT_GROUP[19:16], RW, Table 3.8. -/
def PAGE_COMMIT_COMMIT_GROUP : Field := ⟨0x028, 16, 4, .rw, 0, false⟩
/-- PAGE_COMMIT 15:0 COMMIT_AT[15:0], RW, Table 3.8. -/
def PAGE_COMMIT_COMMIT_AT : Field := ⟨0x028, 0, 16, .rw, 0, false⟩
/-- PAGE_IND_ADDR 31:0 ADDR[31:0], RW, Table 3.8. -/
def PAGE_IND_ADDR_ADDR : Field := ⟨0x030, 0, 32, .rw, 0, false⟩
/-- PAGE_IND_CTRL 31 BUSY[31], RO, Table 3.8. -/
def PAGE_IND_CTRL_BUSY : Field := ⟨0x038, 31, 1, .ro, 0, false⟩
/-- PAGE_IND_CTRL 30:28 ERR[30:28], RO, Table 3.8. -/
def PAGE_IND_CTRL_ERR : Field := ⟨0x038, 28, 3, .ro, 0, false⟩
/-- PAGE_IND_CTRL 15:12 SPACE[15:12], RW, Table 3.8. -/
def PAGE_IND_CTRL_SPACE : Field := ⟨0x038, 12, 4, .rw, 0, false⟩
/-- PAGE_IND_CTRL 6:4 STEP[6:4], RW, Table 3.8. -/
def PAGE_IND_CTRL_STEP : Field := ⟨0x038, 4, 3, .rw, 1, false⟩
/-- PAGE_IND_CTRL 0 DIR[0], RW, Table 3.8. -/
def PAGE_IND_CTRL_DIR : Field := ⟨0x038, 0, 1, .rw, 0, false⟩
/-- PAGE_FENCE 9 RELEASE[9], WO, Table 3.8. -/
def PAGE_FENCE_RELEASE : Field := ⟨0x040, 9, 1, .wo, 0, false⟩
/-- PAGE_FENCE 8 FENCE_REQ[8], WO, Table 3.8. -/
def PAGE_FENCE_FENCE_REQ : Field := ⟨0x040, 8, 1, .wo, 0, false⟩
/-- PAGE_FENCE 0 FENCED[0], RO, Table 3.8. -/
def PAGE_FENCE_FENCED : Field := ⟨0x040, 0, 1, .ro, 0, false⟩
/-- PAGE_FENCE_CAUSE 31:8 DETAIL[31:8], RO, Table 3.8. -/
def PAGE_FENCE_CAUSE_DETAIL : Field := ⟨0x044, 8, 24, .ro, 0, false⟩
/-- PAGE_FENCE_CAUSE 7:0 CAUSE[7:0], RO, Table 3.8. -/
def PAGE_FENCE_CAUSE_CAUSE : Field := ⟨0x044, 0, 8, .ro, 0, false⟩
/-- PAGE_VOTE_STAT 31:16 COUNT[31:16], RO, Table 3.8. -/
def PAGE_VOTE_STAT_COUNT : Field := ⟨0x048, 16, 16, .ro, 0, false⟩
/-- PAGE_VOTE_STAT 13:12 COPY[13:12], RO, Table 3.8. -/
def PAGE_VOTE_STAT_COPY : Field := ⟨0x048, 12, 2, .ro, 0, false⟩
/-- PAGE_VOTE_STAT 11:2 OFFSET[11:2], RO, Table 3.8. -/
def PAGE_VOTE_STAT_OFFSET : Field := ⟨0x048, 2, 10, .ro, 0, false⟩
/-- PAGE_HDR_STICKY 7 PARITY[7], W1C, Table 3.8. -/
def PAGE_HDR_STICKY_PARITY : Field := ⟨0x04c, 7, 1, .w1c, 0, false⟩
/-- PAGE_HDR_STICKY 6 BAD_ACCESS[6], W1C, Table 3.8. -/
def PAGE_HDR_STICKY_BAD_ACCESS : Field := ⟨0x04c, 6, 1, .w1c, 0, false⟩
/-- PAGE_HDR_STICKY 5 COMMIT_REFUSED[5], W1C, Table 3.8. -/
def PAGE_HDR_STICKY_COMMIT_REFUSED : Field := ⟨0x04c, 5, 1, .w1c, 0, false⟩
/-- PAGE_HDR_STICKY 4 XING_SAT[4], W1C, Table 3.8. -/
def PAGE_HDR_STICKY_XING_SAT : Field := ⟨0x04c, 4, 1, .w1c, 0, false⟩
/-- PAGE_HDR_STICKY 3 IND_ERROR[3], W1C, Table 3.8. -/
def PAGE_HDR_STICKY_IND_ERROR : Field := ⟨0x04c, 3, 1, .w1c, 0, false⟩
/-- PAGE_HDR_STICKY 2 VOTE_LOST[2], W1C, Table 3.8. -/
def PAGE_HDR_STICKY_VOTE_LOST : Field := ⟨0x04c, 2, 1, .w1c, 0, false⟩
/-- PAGE_HDR_STICKY 1 VOTE_MISMATCH[1], W1C, Table 3.8. -/
def PAGE_HDR_STICKY_VOTE_MISMATCH : Field := ⟨0x04c, 1, 1, .w1c, 0, false⟩
/-- PAGE_HDR_STICKY 0 OWNER_REFUSED[0], W1C, Table 3.8. -/
def PAGE_HDR_STICKY_OWNER_REFUSED : Field := ⟨0x04c, 0, 1, .w1c, 0, false⟩
/-- PAGE_CTRL 0 CNT_CLR, WO, on the pages whose chapter defines it. -/
def PAGE_CTRL_CNT_CLR : Field := ⟨0x010, 0, 1, .wo, 0, false⟩

/-! ### GLB -/

/-- GLB_RESET_CAUSE 31 READY[31], RO, Table 17.11. -/
def GLB_RESET_CAUSE_READY : Field := ⟨0x084, 31, 1, .ro, 0, false⟩
/-- GLB_RESET_CAUSE 25:24 SOFT_STATE[25:24], RO, Table 17.11. -/
def GLB_RESET_CAUSE_SOFT_STATE : Field := ⟨0x084, 24, 2, .ro, 0, false⟩
/-- GLB_RESET_CAUSE 3:0 CAUSE[3:0], RO, Table 17.11. -/
def GLB_RESET_CAUSE_CAUSE : Field := ⟨0x084, 0, 4, .ro, 1, false⟩
/-- GLB_SOFT_RST 31 GO[31], WO, Table 17.11. -/
def GLB_SOFT_RST_GO : Field := ⟨0x088, 31, 1, .wo, 0, false⟩
/-- GLB_SOFT_RST 20 AT_EN[20], RW, Table 17.11. -/
def GLB_SOFT_RST_AT_EN : Field := ⟨0x088, 20, 1, .rw, 0, false⟩
/-- GLB_SOFT_RST 15:0 AT[15:0], RW, Table 17.11. -/
def GLB_SOFT_RST_AT : Field := ⟨0x088, 0, 16, .rw, 0, false⟩
/-- GLB_MOR_REQ 31 GO[31], WO, Table 18.7. -/
def GLB_MOR_REQ_GO : Field := ⟨0x090, 31, 1, .wo, 0, false⟩
/-- GLB_MOR_REQ 3:0 OP[3:0], RW, Table 18.7. -/
def GLB_MOR_REQ_OP : Field := ⟨0x090, 0, 4, .rw, 0, false⟩
/-- GLB_MOR_STAT 31 BUSY[31], RO, Table 18.7. -/
def GLB_MOR_STAT_BUSY : Field := ⟨0x094, 31, 1, .ro, 0, false⟩
/-- GLB_MOR_STAT 3:0 RESULT[3:0], RO, Table 18.7. -/
def GLB_MOR_STAT_RESULT : Field := ⟨0x094, 0, 4, .ro, 0, false⟩
/-- PAGE_STICKY 0 ROLE_DENIED, W1C, R438. -/
def GLB_STICKY_ROLE_DENIED : Field := ⟨0x018, 0, 1, .w1c, 0, false⟩
/-- PAGE_STICKY 1 UNMAPPED, W1C, R85. -/
def GLB_STICKY_UNMAPPED : Field := ⟨0x018, 1, 1, .w1c, 0, false⟩
/-- PAGE_STICKY 2 FW_RESTART, W1C, R523. -/
def GLB_STICKY_FW_RESTART : Field := ⟨0x018, 2, 1, .w1c, 0, false⟩
/-- PAGE_STICKY 3 SOFT_LATE, W1C, R552. -/
def GLB_STICKY_SOFT_LATE : Field := ⟨0x018, 3, 1, .w1c, 0, false⟩
/-- PAGE_STICKY 4 THERM_TRIP, W1C, R538. -/
def GLB_STICKY_THERM_TRIP : Field := ⟨0x018, 4, 1, .w1c, 0, false⟩
/-- PAGE_STICKY 5 MOR_REFUSED, W1C, R571. -/
def GLB_STICKY_MOR_REFUSED : Field := ⟨0x018, 5, 1, .w1c, 0, false⟩
/-- PAGE_STICKY 6 BOOT_FALLBACK, W1C, R571. -/
def GLB_STICKY_BOOT_FALLBACK : Field := ⟨0x018, 6, 1, .w1c, 0, false⟩
/-- PAGE_STICKY 7 DEBUG_OPEN, W1C, R571. -/
def GLB_STICKY_DEBUG_OPEN : Field := ⟨0x018, 7, 1, .w1c, 0, false⟩

/-! ### MOR -/

/-- MOR_BOOT 31:24 SVN[31:24], RO, Table 18.7. -/
def MOR_BOOT_SVN : Field := ⟨0x088, 24, 8, .ro, 0, true⟩
/-- MOR_BOOT 7:4 REASON_A[7:4], RO, Table 18.7. -/
def MOR_BOOT_REASON_A : Field := ⟨0x088, 4, 4, .ro, 0, true⟩
/-- MOR_BOOT 1:0 BOOT[1:0], RO, Table 18.7. -/
def MOR_BOOT_BOOT : Field := ⟨0x088, 0, 2, .ro, 0, true⟩

/-! ### PWR -/

/-- PWR_LEVEL 2n+1:2n REQ_Pn, RWS, Table 17.9. -/
def PWR_LEVEL_REQ (n : Nat) : Field := ⟨0x080, 2 * n, 2, .rws, 0, false⟩
/-- PWR_LEVEL_STAT 31:24 BUSY[31:24], RO, Table 17.9. -/
def PWR_LEVEL_STAT_BUSY : Field := ⟨0x084, 24, 8, .ro, 0, false⟩
/-- PWR_LEVEL_STAT 23:16 THROTTLE[23:16], RO, Table 17.9. -/
def PWR_LEVEL_STAT_THROTTLE : Field := ⟨0x084, 16, 8, .ro, 0, false⟩
/-- PWR_LEVEL_STAT 2n+1:2n CUR_Pn, RO, Table 17.9. -/
def PWR_LEVEL_STAT_CUR (n : Nat) : Field := ⟨0x084, 2 * n, 2, .ro, 0, false⟩
/-- PWR_CFG 31:24 TJ_HOT[31:24], RWS, Table 17.9. -/
def PWR_CFG_TJ_HOT : Field := ⟨0x088, 24, 8, .rws, 100, false⟩
/-- PWR_CFG 15:0 AVS_TIMEOUT_US[15:0], RWS, Table 17.9. -/
def PWR_CFG_AVS_TIMEOUT_US : Field := ⟨0x088, 0, 16, .rws, 1000, false⟩
/-- PWR_D3_CTRL 31 PAD_RELEASE[31], WO, Table 17.9. -/
def PWR_D3_CTRL_PAD_RELEASE : Field := ⟨0x08c, 31, 1, .wo, 0, false⟩
/-- PWR_D3_CTRL 1 WAKE_AT_EN[1], RW, Table 17.9. -/
def PWR_D3_CTRL_WAKE_AT_EN : Field := ⟨0x08c, 1, 1, .rw, 0, false⟩
/-- PWR_D3_CTRL 0 D3_ARM[0], RW, Table 17.9. -/
def PWR_D3_CTRL_D3_ARM : Field := ⟨0x08c, 0, 1, .rw, 0, false⟩
/-- PWR_WAKE_EN 5:2 EN[5:2], RW, Table 17.9. -/
def PWR_WAKE_EN_EN : Field := ⟨0x090, 2, 4, .rw, 3, false⟩
/-- PWR_WAKE_EN 1 TIMER_EN[1], RW, Table 17.9. -/
def PWR_WAKE_EN_TIMER_EN : Field := ⟨0x090, 1, 1, .rw, 0, false⟩
/-- PWR_WAKE_SRC 29:24 SEEN[29:24], W1C, Table 17.9. -/
def PWR_WAKE_SRC_SEEN : Field := ⟨0x094, 24, 6, .w1c, 0, false⟩
/-- PWR_WAKE_SRC 19:16 SOURCE[19:16], RO, Table 17.9. -/
def PWR_WAKE_SRC_SOURCE : Field := ⟨0x094, 16, 4, .ro, 0, false⟩
/-- PWR_WAKE_SRC 10:0 DETAIL[10:0], RO, Table 17.9. -/
def PWR_WAKE_SRC_DETAIL : Field := ⟨0x094, 0, 11, .ro, 0, false⟩
/-- PWR_WAKE_AT_LO 31:0 AT[31:0], RW, Table 17.9. -/
def PWR_WAKE_AT_LO_AT : Field := ⟨0x098, 0, 32, .rw, 0, false⟩
/-- PWR_WAKE_AT_HI 31:0 AT[63:32], RW, Table 17.9. -/
def PWR_WAKE_AT_HI_AT : Field := ⟨0x09c, 0, 32, .rw, 0, false⟩
/-- PWR_SMB_WAKE 14:8 ADDR1[14:8], RW, Table 17.9. -/
def PWR_SMB_WAKE_ADDR1 : Field := ⟨0x0a0, 8, 7, .rw, 0, false⟩
/-- PWR_SMB_WAKE 6:0 ADDR0[6:0], RW, Table 17.9. -/
def PWR_SMB_WAKE_ADDR0 : Field := ⟨0x0a0, 0, 7, .rw, 0, false⟩
/-- PWR_GPIO_WAKE 31:0 MASK[31:0], RW, Table 17.9. -/
def PWR_GPIO_WAKE_MASK : Field := ⟨0x0a4, 0, 32, .rw, 0, false⟩
/-- PWR_D3_STAT 31:28 REFUSER[31:28], RO, Table 17.9. -/
def PWR_D3_STAT_REFUSER : Field := ⟨0x0a8, 28, 4, .ro, 0, false⟩
/-- PWR_D3_STAT 20:16 HOOP[20:16], RO, Table 17.9. -/
def PWR_D3_STAT_HOOP : Field := ⟨0x0a8, 16, 5, .ro, 0, false⟩
/-- PWR_D3_STAT 15:0 ABORTS[15:0], RO, Table 17.9. -/
def PWR_D3_STAT_ABORTS : Field := ⟨0x0a8, 0, 16, .ro, 0, false⟩
/-- PWR_PAD_STAT 0 PAD_HELD[0], RO, Table 17.9. -/
def PWR_PAD_STAT_PAD_HELD : Field := ⟨0x0ac, 0, 1, .ro, 0, false⟩
/-- PAGE_STICKY 6 D3_WAKE[6], W1C, Table 17.9. -/
def PWR_STICKY_D3_WAKE : Field := ⟨0x018, 6, 1, .w1c, 0, false⟩
/-- PAGE_STICKY 5 D3_ABORT[5], W1C, Table 17.9. -/
def PWR_STICKY_D3_ABORT : Field := ⟨0x018, 5, 1, .w1c, 0, false⟩
/-- PAGE_STICKY 4 TJ_HOT[4], W1C, Table 17.9. -/
def PWR_STICKY_TJ_HOT : Field := ⟨0x018, 4, 1, .w1c, 0, false⟩
/-- PAGE_STICKY 3 VDIFF_LIMIT[3], W1C, Table 17.9. -/
def PWR_STICKY_VDIFF_LIMIT : Field := ⟨0x018, 3, 1, .w1c, 0, false⟩
/-- PAGE_STICKY 2 TDIFF_LIMIT[2], W1C, Table 17.9. -/
def PWR_STICKY_TDIFF_LIMIT : Field := ⟨0x018, 2, 1, .w1c, 0, false⟩
/-- PAGE_STICKY 1 AVS_FAIL[1], W1C, Table 17.9. -/
def PWR_STICKY_AVS_FAIL : Field := ⟨0x018, 1, 1, .w1c, 0, false⟩
/-- PAGE_STICKY 0 CFG_REFUSED[0], W1C, Table 17.9. -/
def PWR_STICKY_CFG_REFUSED : Field := ⟨0x018, 0, 1, .w1c, 0, false⟩

/-! ### ERR -/

/-- ERR_TOP 31:0 TOP[31:0], RO, Table 16.7. -/
def ERR_TOP_TOP : Field := ⟨0x080, 0, 32, .ro, 0, false⟩
/-- ERR_TOP_EN 31:0 EN[31:0], RW, Table 16.7. -/
def ERR_TOP_EN_EN : Field := ⟨0x084, 0, 32, .rw, 0, false⟩
/-- ERR_FATAL 31 VALID[31], RO, Table 16.7. -/
def ERR_FATAL_VALID : Field := ⟨0x088, 31, 1, .ro, 0, false⟩
/-- ERR_FATAL 14:0 SLOT[14:0], RO, Table 16.7. -/
def ERR_FATAL_SLOT : Field := ⟨0x088, 0, 15, .ro, 0, false⟩
/-- ERR_DDR_SPARE 9:8 STATE[9:8], RO, Table 16.7. -/
def ERR_DDR_SPARE_STATE : Field := ⟨0x08c, 8, 2, .ro, 0, false⟩
/-- ERR_DDR_SPARE 4:0 CHANNEL[4:0], RO, Table 16.7. -/
def ERR_DDR_SPARE_CHANNEL : Field := ⟨0x08c, 0, 5, .ro, 0, false⟩
/-- ERR_DDR_COPY 22:0 LINES[22:0], RO, Table 16.7. -/
def ERR_DDR_COPY_LINES : Field := ⟨0x090, 0, 23, .ro, 0, false⟩
/-- ERR_LOG_LEVEL 8:0 LEVEL[8:0], RO, Table 16.7. -/
def ERR_LOG_LEVEL_LEVEL : Field := ⟨0x094, 0, 9, .ro, 0, false⟩
/-- PAGE_STICKY 3 NO_SPARE[3], W1C, Table 16.7. -/
def ERR_STICKY_NO_SPARE : Field := ⟨0x018, 3, 1, .w1c, 0, false⟩
/-- PAGE_STICKY 2 SPARE_USED[2], W1C, Table 16.7. -/
def ERR_STICKY_SPARE_USED : Field := ⟨0x018, 2, 1, .w1c, 0, false⟩
/-- PAGE_STICKY 1 LOG_OVF[1], W1C, Table 16.7. -/
def ERR_STICKY_LOG_OVF : Field := ⟨0x018, 1, 1, .w1c, 0, false⟩
/-- PAGE_STICKY 0 FATAL[0], W1C, Table 16.7. -/
def ERR_STICKY_FATAL : Field := ⟨0x018, 0, 1, .w1c, 0, false⟩

/-! ### TOD -/

/-- SMP_TOD_CTRL 31 LATCH[31], WO, Table 13.8. -/
def SMP_TOD_CTRL_LATCH : Field := ⟨0x080, 31, 1, .wo, 0, false⟩
/-- SMP_TOD_CTRL 30 REACQ[30], WO, Table 13.8. -/
def SMP_TOD_CTRL_REACQ : Field := ⟨0x080, 30, 1, .wo, 0, false⟩
/-- SMP_TOD_CTRL 29 SWITCH_REQ[29], WO, Table 13.8. -/
def SMP_TOD_CTRL_SWITCH_REQ : Field := ⟨0x080, 29, 1, .wo, 0, false⟩
/-- SMP_TOD_CTRL 4 AUTO_REVERT[4], RWV, Table 13.8. -/
def SMP_TOD_CTRL_AUTO_REVERT : Field := ⟨0x080, 4, 1, .rwv, 0, false⟩
/-- SMP_TOD_CTRL 3 AUTO_SWITCH[3], RWV, Table 13.8. -/
def SMP_TOD_CTRL_AUTO_SWITCH : Field := ⟨0x080, 3, 1, .rwv, 1, false⟩
/-- SMP_TOD_CTRL 2:0 SRC_PREF[2:0], RWV, Table 13.8. -/
def SMP_TOD_CTRL_SRC_PREF : Field := ⟨0x080, 0, 3, .rwv, 1, false⟩
/-- SMP_TOD_STAT 31:0 STATUS[31:0], RO, Table 13.8. -/
def SMP_TOD_STAT_STATUS : Field := ⟨0x084, 0, 32, .ro, 0, false⟩
/-- SMP_LATCH_NS 31:30 QUARTER[31:30], RO, Table 13.8. -/
def SMP_LATCH_NS_QUARTER : Field := ⟨0x088, 30, 2, .ro, 0, false⟩
/-- SMP_LATCH_NS 29:0 NS[29:0], RO, Table 13.8. -/
def SMP_LATCH_NS_NS : Field := ⟨0x088, 0, 30, .ro, 0, false⟩
/-- SMP_LATCH_SEC_LO 31:0 SEC[31:0], RO, Table 13.8. -/
def SMP_LATCH_SEC_SEC : Field := ⟨0x08c, 0, 48, .ro, 0, false⟩
/-- SMP_LATCH_SEC_HI 31:16 LATCH_SEQ[31:16], RO, Table 13.8. -/
def SMP_LATCH_SEC_HI_LATCH_SEQ : Field := ⟨0x090, 16, 16, .ro, 0, false⟩
/-- SMP_SERVO_CFG 31:16 HOLD_TRACE_S[31:16], RWV, Table 13.8. -/
def SMP_SERVO_CFG_HOLD_TRACE_S : Field := ⟨0x094, 16, 16, .rwv, 100, false⟩
/-- SMP_SERVO_CFG 15:0 SLEW_PPB[15:0], RWV, Table 13.8. -/
def SMP_SERVO_CFG_SLEW_PPB : Field := ⟨0x094, 0, 16, .rwv, 200, false⟩
/-- SMP_REVERT 15:0 PRIM_HOLD_S[15:0], RWV, Table 13.8. -/
def SMP_REVERT_PRIM_HOLD_S : Field := ⟨0x098, 0, 16, .rwv, 60, false⟩
/-- SMP_FREQ 31:0 FREQ[31:0], RO, Table 13.8. -/
def SMP_FREQ_FREQ : Field := ⟨0x09c, 0, 32, .ro, 0, false⟩
/-- SMP_UTC 19 FROM_SW[19], RO, Table 13.8. -/
def SMP_UTC_FROM_SW : Field := ⟨0x0a0, 19, 1, .ro, 0, false⟩
/-- SMP_UTC 18 VALID[18], RO, Table 13.8. -/
def SMP_UTC_VALID : Field := ⟨0x0a0, 18, 1, .ro, 0, false⟩
/-- SMP_UTC 17 LEAP59[17], RO, Table 13.8. -/
def SMP_UTC_LEAP59 : Field := ⟨0x0a0, 17, 1, .ro, 0, false⟩
/-- SMP_UTC 16 LEAP61[16], RO, Table 13.8. -/
def SMP_UTC_LEAP61 : Field := ⟨0x0a0, 16, 1, .ro, 0, false⟩
/-- SMP_UTC 15:0 OFFSET[15:0], RO, Table 13.8. -/
def SMP_UTC_OFFSET : Field := ⟨0x0a0, 0, 16, .ro, 0, false⟩
/-- SMP_UTC_SW 31 OVR[31], RWS, Table 13.8. -/
def SMP_UTC_SW_OVR : Field := ⟨0x0a4, 31, 1, .rws, 0, false⟩
/-- SMP_UTC_SW 17 LEAP59[17], RWS, Table 13.8. -/
def SMP_UTC_SW_LEAP59 : Field := ⟨0x0a4, 17, 1, .rws, 0, false⟩
/-- SMP_UTC_SW 16 LEAP61[16], RWS, Table 13.8. -/
def SMP_UTC_SW_LEAP61 : Field := ⟨0x0a4, 16, 1, .rws, 0, false⟩
/-- SMP_UTC_SW 15:0 OFFSET[15:0], RWS, Table 13.8. -/
def SMP_UTC_SW_OFFSET : Field := ⟨0x0a4, 0, 16, .rws, 37, false⟩
/-- SMP_LAST_STEP_LO 31:0 STEP[31:0], RO, Table 13.8. -/
def SMP_LAST_STEP_STEP : Field := ⟨0x0a8, 0, 64, .ro, 0, false⟩
/-- SMP_STEP_SEQ 15:0 STEP_SEQ[15:0], RO, Table 13.8. -/
def SMP_STEP_SEQ_STEP_SEQ : Field := ⟨0x0b0, 0, 16, .ro, 0, false⟩
/-- SMP_LEDGER_LO 31:0 LEDGER[31:0], RO, Table 13.8. -/
def SMP_LEDGER_LEDGER : Field := ⟨0x0b4, 0, 64, .ro, 0, false⟩
/-- SMP_FROZEN_LO 31:0 TICKS[31:0], RO, Table 13.8. -/
def SMP_FROZEN_TICKS : Field := ⟨0x0bc, 0, 64, .ro, 0, false⟩
/-- SMP_AON_PPB 31:0 PPB[31:0], RO, Table 13.8. -/
def SMP_AON_PPB_PPB : Field := ⟨0x0c4, 0, 32, .ro, 0, false⟩
/-- PAGE_STICKY 8 LEAP_APPLIED[8], W1C, Table 13.8. -/
def TOD_STICKY_LEAP_APPLIED : Field := ⟨0x018, 8, 1, .w1c, 0, false⟩
/-- PAGE_STICKY 7 RESTORED_TIME[7], W1C, Table 13.8. -/
def TOD_STICKY_RESTORED_TIME : Field := ⟨0x018, 7, 1, .w1c, 0, false⟩
/-- PAGE_STICKY 6 TRACE_LOST[6], W1C, Table 13.8. -/
def TOD_STICKY_TRACE_LOST : Field := ⟨0x018, 6, 1, .w1c, 0, false⟩
/-- PAGE_STICKY 5 HOLDOVER[5], W1C, Table 13.8. -/
def TOD_STICKY_HOLDOVER : Field := ⟨0x018, 5, 1, .w1c, 0, false⟩
/-- PAGE_STICKY 4 SWITCHED[4], W1C, Table 13.8. -/
def TOD_STICKY_SWITCHED : Field := ⟨0x018, 4, 1, .w1c, 0, false⟩
/-- PAGE_STICKY 3 STEPPED[3], W1C, Table 13.8. -/
def TOD_STICKY_STEPPED : Field := ⟨0x018, 3, 1, .w1c, 0, false⟩
/-- PAGE_STICKY 2 LAST_CHANNEL[2], W1C, Table 13.8. -/
def TOD_STICKY_LAST_CHANNEL : Field := ⟨0x018, 2, 1, .w1c, 0, false⟩
/-- PAGE_STICKY 1 CH_FENCED[1], W1C, Table 13.8. -/
def TOD_STICKY_CH_FENCED : Field := ⟨0x018, 1, 1, .w1c, 0, false⟩
/-- PAGE_STICKY 0 CFG_REFUSED[0], W1C, Table 13.8. -/
def TOD_STICKY_CFG_REFUSED : Field := ⟨0x018, 0, 1, .w1c, 0, false⟩

/-! ### STITCH -/

/-- SMP_STITCH_CTRL 3 SCHED_EN[3], RWS, Table 2.3. -/
def SMP_STITCH_CTRL_SCHED_EN : Field := ⟨0x080, 3, 1, .rws, 1, false⟩
/-- SMP_STITCH_CTRL 2:0 SCHED_CLASS[2:0], RWS, Table 2.3. -/
def SMP_STITCH_CTRL_SCHED_CLASS : Field := ⟨0x080, 0, 3, .rws, 7, false⟩
/-- SMP_STITCH_PERIOD 19:0 PERIOD_NS[19:0], RWV, Table 2.3. -/
def SMP_STITCH_PERIOD_PERIOD_NS : Field := ⟨0x084, 0, 20, .rwv, 10000, true⟩
/-- SMP_PERIOD_REQ 31 REQ_GO[31], WO, Table 2.3. -/
def SMP_PERIOD_REQ_REQ_GO : Field := ⟨0x088, 31, 1, .wo, 0, false⟩
/-- SMP_PERIOD_REQ 19:0 REQ_NS[19:0], RW, Table 2.3. -/
def SMP_PERIOD_REQ_REQ_NS : Field := ⟨0x088, 0, 20, .rw, 0, false⟩
/-- SMP_PERIOD_STAT 5:4 REASON[5:4], RO, Table 2.3. -/
def SMP_PERIOD_STAT_REASON : Field := ⟨0x08c, 4, 2, .ro, 0, false⟩
/-- SMP_PERIOD_STAT 1:0 STATE[1:0], RO, Table 2.3. -/
def SMP_PERIOD_STAT_STATE : Field := ⟨0x08c, 0, 2, .ro, 0, false⟩
/-- SMP_SNAP_CTRL 15:0 SNAP_DIV[15:0], RWS, Table 2.3. -/
def SMP_SNAP_CTRL_SNAP_DIV : Field := ⟨0x0a0, 0, 16, .rws, 1, false⟩
/-- SMP_SNAP_STITCH_LO 31:0 SNAP_LO[31:0], RO, Table 2.3. -/
def SMP_SNAP_STITCH_STITCH : Field := ⟨0x0a4, 0, 64, .ro, 0, false⟩
/-- SMP_SYS_LEAD 7:0 LEAD[7:0], RWS, Table 2.3. -/
def SMP_SYS_LEAD_LEAD : Field := ⟨0x0ac, 0, 8, .rws, 8, false⟩
/-- SMP_CQF_OVR 31:0 OVR_COUNT[31:0], RO, Table 2.3. -/
def SMP_CQF_OVR_OVR_COUNT : Field := ⟨0x0b4, 0, 32, .ro, 0, false⟩
/-- PAGE_STICKY 0 PERIOD_REFUSED[0], W1C, Table 2.4. -/
def STITCH_STICKY_PERIOD_REFUSED : Field := ⟨0x018, 0, 1, .w1c, 0, false⟩
/-- PAGE_STICKY 1 STITCH_REALIGN[1], W1C, Table 2.4. -/
def STITCH_STICKY_STITCH_REALIGN : Field := ⟨0x018, 1, 1, .w1c, 0, false⟩
/-- PAGE_STICKY 2 COMMIT_LATE[2], W1C, Table 2.4. -/
def STITCH_STICKY_COMMIT_LATE : Field := ⟨0x018, 2, 1, .w1c, 0, false⟩
/-- PAGE_STICKY 3 CQF_OVERRUN[3], W1C, Table 2.4. -/
def STITCH_STICKY_CQF_OVERRUN : Field := ⟨0x018, 3, 1, .w1c, 0, false⟩
/-- PAGE_STICKY 4 SYS_COMMIT_MISSED[4], W1C, Table 2.4. -/
def STITCH_STICKY_SYS_COMMIT_MISSED : Field := ⟨0x018, 4, 1, .w1c, 0, false⟩
/-- PAGE_STICKY 5 STITCH_SKIPPED[5], W1C, Table 2.4. -/
def STITCH_STICKY_STITCH_SKIPPED : Field := ⟨0x018, 5, 1, .w1c, 0, false⟩

/-! ### CH -/

/-- SMP_CH_CFG 23:16 DIV_CNT[23:16], RWV, Table 13.9. -/
def SMP_CH_CFG_DIV_CNT : Field := ⟨0x080, 16, 8, .rwv, 16, false⟩
/-- SMP_CH_CFG 15:0 DIV_THR[15:0], RWV, Table 13.9. -/
def SMP_CH_CFG_DIV_THR : Field := ⟨0x080, 0, 16, .rwv, 50, false⟩
/-- SMP_CH_STAT 10 REJOIN[10], RO, Table 13.9. -/
def SMP_CH_STAT_REJOIN : Field := ⟨0x084, 10, 1, .ro, 0, false⟩
/-- SMP_CH_STAT 9 IN_VOTE[9], RO, Table 13.9. -/
def SMP_CH_STAT_IN_VOTE : Field := ⟨0x084, 9, 1, .ro, 0, false⟩
/-- SMP_CH_STAT 8 CLK_OK[8], RO, Table 13.9. -/
def SMP_CH_STAT_CLK_OK : Field := ⟨0x084, 8, 1, .ro, 0, false⟩
/-- SMP_CH_STAT 7:0 OSC_MHZ[7:0], RO, Table 13.9. -/
def SMP_CH_STAT_OSC_MHZ : Field := ⟨0x084, 0, 8, .ro, 10, true⟩
/-- SMP_CH_OFFSET 31:0 OFFSET[31:0], RO, Table 13.9. -/
def SMP_CH_OFFSET_OFFSET : Field := ⟨0x088, 0, 32, .ro, 0, false⟩
/-- SMP_CH_TRIM 31:0 TRIM[31:0], RO, Table 13.9. -/
def SMP_CH_TRIM_TRIM : Field := ⟨0x08c, 0, 32, .ro, 0, false⟩
/-- PAGE_STICKY 2 CLK_LOST[2], W1C, Table 13.9. -/
def CH_STICKY_CLK_LOST : Field := ⟨0x018, 2, 1, .w1c, 0, false⟩
/-- PAGE_STICKY 1 DIVERGED[1], W1C, Table 13.9. -/
def CH_STICKY_DIVERGED : Field := ⟨0x018, 1, 1, .w1c, 0, false⟩
/-- PAGE_STICKY 0 CFG_REFUSED[0], W1C, Table 13.9. -/
def CH_STICKY_CFG_REFUSED : Field := ⟨0x018, 0, 1, .w1c, 0, false⟩

/-! ### PTP -/

/-- SMP_PTP_CFG 31 EN[31], RWS, Table 13.10. -/
def SMP_PTP_CFG_EN : Field := ⟨0x080, 31, 1, .rws, 0, false⟩
/-- SMP_PTP_CFG 29:28 PROFILE[29:28], RWS, Table 13.10. -/
def SMP_PTP_CFG_PROFILE : Field := ⟨0x080, 28, 2, .rws, 0, false⟩
/-- SMP_PTP_CFG 26:24 TRAP_CLASS[26:24], RWS, Table 13.10. -/
def SMP_PTP_CFG_TRAP_CLASS : Field := ⟨0x080, 24, 3, .rws, 6, false⟩
/-- SMP_PTP_CFG 15:8 CLASS_MAX[15:8], RWS, Table 13.10. -/
def SMP_PTP_CFG_CLASS_MAX : Field := ⟨0x080, 8, 8, .rws, 7, false⟩
/-- SMP_PTP_CFG 7:0 DOMAIN_NUM[7:0], RWS, Table 13.10. -/
def SMP_PTP_CFG_DOMAIN_NUM : Field := ⟨0x080, 0, 8, .rws, 0, false⟩
/-- SMP_PTP_STAT 26:16 SLAVE_PORT[26:16], RO, Table 13.10. -/
def SMP_PTP_STAT_SLAVE_PORT : Field := ⟨0x084, 16, 11, .ro, 0, true⟩
/-- SMP_PTP_STAT 15:8 GM_CLASS[15:8], RO, Table 13.10. -/
def SMP_PTP_STAT_GM_CLASS : Field := ⟨0x084, 8, 8, .ro, 255, true⟩
/-- SMP_PTP_STAT 2:0 STATE[2:0], RO, Table 13.10. -/
def SMP_PTP_STAT_STATE : Field := ⟨0x084, 0, 3, .ro, 0, true⟩
/-- SMP_PTP_OFFSET_LO 31:0 OFFSET[31:0], RO, Table 13.10. -/
def SMP_PTP_OFFSET_OFFSET : Field := ⟨0x088, 0, 64, .ro, 0, false⟩
/-- SMP_PTP_GM_LO 31:0 GM[31:0], RO, Table 13.10. -/
def SMP_PTP_GM_GM : Field := ⟨0x090, 0, 64, .ro, 0, false⟩
/-- SMP_PTP_MPD 31:0 MPD[31:0], RO, Table 13.10. -/
def SMP_PTP_MPD_MPD : Field := ⟨0x098, 0, 32, .ro, 0, false⟩
/-- PAGE_STICKY 2 GM_CHANGED[2], W1C, Table 13.10. -/
def PTP_STICKY_GM_CHANGED : Field := ⟨0x018, 2, 1, .w1c, 0, false⟩
/-- PAGE_STICKY 1 LOCK_LOST[1], W1C, Table 13.10. -/
def PTP_STICKY_LOCK_LOST : Field := ⟨0x018, 1, 1, .w1c, 0, false⟩
/-- PAGE_STICKY 0 CFG_REFUSED[0], W1C, Table 13.10. -/
def PTP_STICKY_CFG_REFUSED : Field := ⟨0x018, 0, 1, .w1c, 0, false⟩

/-! ### PULSE -/

/-- PAGE_STATUS 16:0, present level of each output, R435. -/
def PULSE_STATUS_LEVEL : Field := ⟨0x014, 0, 17, .ro, 0, false⟩
/-- PAGE_STICKY 0 CFG_REFUSED, R435. -/
def PULSE_STICKY_CFG_REFUSED : Field := ⟨0x018, 0, 1, .w1c, 0, false⟩
/-- PAGE_STICKY 1 LATE_ONESHOT, R435. -/
def PULSE_STICKY_LATE_ONESHOT : Field := ⟨0x018, 1, 1, .w1c, 0, false⟩

/-! ### CAP -/

/-- SMP_CAP_RISE 16:0 RISE[16:0], RWS, Table 13.12. -/
def SMP_CAP_RISE_RISE : Field := ⟨0x080, 0, 17, .rws, 65536, false⟩
/-- SMP_CAP_FALL 16:0 FALL[16:0], RWS, Table 13.12. -/
def SMP_CAP_FALL_FALL : Field := ⟨0x084, 0, 17, .rws, 0, false⟩
/-- SMP_CAP_LEVEL 6:0 LEVEL[6:0], RO, Table 13.12. -/
def SMP_CAP_LEVEL_LEVEL : Field := ⟨0x088, 0, 7, .ro, 0, false⟩
/-- PAGE_STICKY 1 CAP_LOST[1], W1C, Table 13.12. -/
def CAP_STICKY_CAP_LOST : Field := ⟨0x018, 1, 1, .w1c, 0, false⟩
/-- PAGE_STICKY 0 CAP_OVF[0], W1C, Table 13.12. -/
def CAP_STICKY_CAP_OVF : Field := ⟨0x018, 0, 1, .w1c, 0, false⟩

/-! ### ALD -/

/-- ALD_CTRL 31 LEAVE_REQ[31], WO, Table 14.7. -/
def ALD_CTRL_LEAVE_REQ : Field := ⟨0x080, 31, 1, .wo, 0, false⟩
/-- ALD_CTRL 23:20 SYNC_GROUP[23:20], RWS, Table 14.7. -/
def ALD_CTRL_SYNC_GROUP : Field := ⟨0x080, 20, 4, .rws, 15, false⟩
/-- ALD_CTRL 17 ACK_AUTO[17], RWS, Table 14.7. -/
def ALD_CTRL_ACK_AUTO : Field := ⟨0x080, 17, 1, .rws, 1, false⟩
/-- ALD_CTRL 16 REVERT_EN[16], RWS, Table 14.7. -/
def ALD_CTRL_REVERT_EN : Field := ⟨0x080, 16, 1, .rws, 1, false⟩
/-- ALD_CTRL 15:8 MGR_PRIO[15:8], RWS, Table 14.7. -/
def ALD_CTRL_MGR_PRIO : Field := ⟨0x080, 8, 8, .rws, 128, false⟩
/-- ALD_CTRL 0 EN[0], RWS, Table 14.7. -/
def ALD_CTRL_EN : Field := ⟨0x080, 0, 1, .rws, 0, false⟩
/-- ALD_SYS_ID 31:0 SYS_ID[31:0], RWS, Table 14.7. -/
def ALD_SYS_ID_SYS_ID : Field := ⟨0x084, 0, 32, .rws, 0, false⟩
/-- ALD_TIMERS 31:24 STATUS_DIV[31:24], RWS, Table 14.7. -/
def ALD_TIMERS_STATUS_DIV : Field := ⟨0x088, 24, 8, .rws, 100, false⟩
/-- ALD_TIMERS 23:16 ABSENT[23:16], RWS, Table 14.7. -/
def ALD_TIMERS_ABSENT : Field := ⟨0x088, 16, 8, .rws, 8, false⟩
/-- ALD_TIMERS 15:0 PROBE_DIV[15:0], RWS, Table 14.7. -/
def ALD_TIMERS_PROBE_DIV : Field := ⟨0x088, 0, 16, .rws, 1000, false⟩
/-- ALD_MGR_CFG 31:16 REVERT_S[31:16], RWS, Table 14.7. -/
def ALD_MGR_CFG_REVERT_S : Field := ⟨0x08c, 16, 16, .rws, 30, false⟩
/-- ALD_MGR_CFG 15:0 MISS_TOL[15:0], RWS, Table 14.7. -/
def ALD_MGR_CFG_MISS_TOL : Field := ⟨0x08c, 0, 16, .rws, 1000, false⟩
/-- ALD_STAT 25:16 MEMBER[25:16], RO, Table 14.7. -/
def ALD_STAT_MEMBER : Field := ⟨0x090, 16, 10, .ro, 0, false⟩
/-- ALD_STAT 15:12 DEPTH[15:12], RO, Table 14.7. -/
def ALD_STAT_DEPTH : Field := ⟨0x090, 12, 4, .ro, 0, false⟩
/-- ALD_STAT 9:8 MGR[9:8], RO, Table 14.7. -/
def ALD_STAT_MGR : Field := ⟨0x090, 8, 2, .ro, 0, false⟩
/-- ALD_STAT 6:4 MSTATE[6:4], RO, Table 14.7. -/
def ALD_STAT_MSTATE : Field := ⟨0x090, 4, 3, .ro, 0, false⟩
/-- ALD_TREE 31:24 LAG[31:24], RO, Table 14.7. -/
def ALD_TREE_LAG : Field := ⟨0x094, 24, 8, .ro, 0, false⟩
/-- ALD_TREE 23:16 MAXLAG[23:16], RO, Table 14.7. -/
def ALD_TREE_MAXLAG : Field := ⟨0x094, 16, 8, .ro, 0, false⟩
/-- ALD_TREE 10:0 PARENT_PORT[10:0], RO, Table 14.7. -/
def ALD_TREE_PARENT_PORT : Field := ⟨0x094, 0, 11, .ro, 2047, false⟩
/-- ALD_MGRS 31 SB_VALID[31], RO, Table 14.7. -/
def ALD_MGRS_SB_VALID : Field := ⟨0x098, 31, 1, .ro, 0, false⟩
/-- ALD_MGRS 30 ACT_VALID[30], RO, Table 14.7. -/
def ALD_MGRS_ACT_VALID : Field := ⟨0x098, 30, 1, .ro, 0, false⟩
/-- ALD_MGRS 25:16 STANDBY[25:16], RO, Table 14.7. -/
def ALD_MGRS_STANDBY : Field := ⟨0x098, 16, 10, .ro, 0, false⟩
/-- ALD_MGRS 9:0 ACTIVE[9:0], RO, Table 14.7. -/
def ALD_MGRS_ACTIVE : Field := ⟨0x098, 0, 10, .ro, 0, false⟩
/-- ALD_SC_REQ 31 GO[31], WO, Table 14.7. -/
def ALD_SC_REQ_GO : Field := ⟨0x09c, 31, 1, .wo, 0, false⟩
/-- ALD_SC_REQ 15:0 GROUPS[15:0], RW, Table 14.7. -/
def ALD_SC_REQ_GROUPS : Field := ⟨0x09c, 0, 16, .rw, 0, false⟩
/-- ALD_SC_TARGET_LO 31:0 TARGET[31:0], RW, Table 14.7. -/
def ALD_SC_TARGET_LO_TARGET : Field := ⟨0x0a0, 0, 32, .rw, 0, false⟩
/-- ALD_SC_TARGET_HI 31:0 TARGET[63:32], RW, Table 14.7. -/
def ALD_SC_TARGET_HI_TARGET : Field := ⟨0x0a4, 0, 32, .rw, 0, false⟩
/-- ALD_SC_STAT 31:29 STATE[31:29], RO, Table 14.7. -/
def ALD_SC_STAT_STATE : Field := ⟨0x0a8, 29, 3, .ro, 0, false⟩
/-- ALD_SC_STAT 28:25 REASON[28:25], RO, Table 14.7. -/
def ALD_SC_STAT_REASON : Field := ⟨0x0a8, 25, 4, .ro, 0, false⟩
/-- ALD_SC_STAT 15:0 CID[15:0], RO, Table 14.7. -/
def ALD_SC_STAT_CID : Field := ⟨0x0a8, 0, 16, .ro, 0, false⟩
/-- ALD_SC_ACK 31 GO[31], WO, Table 14.7. -/
def ALD_SC_ACK_GO : Field := ⟨0x0ac, 31, 1, .wo, 0, false⟩
/-- ALD_SC_ACK 15:0 CID[15:0], RW, Table 14.7. -/
def ALD_SC_ACK_CID : Field := ⟨0x0ac, 0, 16, .rw, 0, false⟩
/-- ALD_CID 31:16 PEND[31:16], RO, Table 14.7. -/
def ALD_CID_PEND : Field := ⟨0x0b0, 16, 16, .ro, 0, false⟩
/-- ALD_CID 15:0 LAST[15:0], RO, Table 14.7. -/
def ALD_CID_LAST : Field := ⟨0x0b0, 0, 16, .ro, 0, false⟩
/-- PAGE_STICKY 11 LAG_EXCEEDED[11], W1C, Table 14.9. -/
def ALD_STICKY_LAG_EXCEEDED : Field := ⟨0x018, 11, 1, .w1c, 0, false⟩
/-- PAGE_STICKY 10 MGR_CONFLICT[10], W1C, Table 14.9. -/
def ALD_STICKY_MGR_CONFLICT : Field := ⟨0x018, 10, 1, .w1c, 0, false⟩
/-- PAGE_STICKY 9 SYNC_FAIL[9], W1C, Table 14.9. -/
def ALD_STICKY_SYNC_FAIL : Field := ⟨0x018, 9, 1, .w1c, 0, false⟩
/-- PAGE_STICKY 8 RESYNC[8], W1C, Table 14.9. -/
def ALD_STICKY_RESYNC : Field := ⟨0x018, 8, 1, .w1c, 0, false⟩
/-- PAGE_STICKY 7 SC_NOT_ARMED[7], W1C, Table 14.9. -/
def ALD_STICKY_SC_NOT_ARMED : Field := ⟨0x018, 7, 1, .w1c, 0, false⟩
/-- PAGE_STICKY 6 HANDOVER[6], W1C, Table 14.9. -/
def ALD_STICKY_HANDOVER : Field := ⟨0x018, 6, 1, .w1c, 0, false⟩
/-- PAGE_STICKY 5 TAKEOVER[5], W1C, Table 14.9. -/
def ALD_STICKY_TAKEOVER : Field := ⟨0x018, 5, 1, .w1c, 0, false⟩
/-- PAGE_STICKY 4 MGR_LOST[4], W1C, Table 14.9. -/
def ALD_STICKY_MGR_LOST : Field := ⟨0x018, 4, 1, .w1c, 0, false⟩
/-- PAGE_STICKY 3 ISOLATED[3], W1C, Table 14.9. -/
def ALD_STICKY_ISOLATED : Field := ⟨0x018, 3, 1, .w1c, 0, false⟩
/-- PAGE_STICKY 2 DEPTH_LIMIT[2], W1C, Table 14.9. -/
def ALD_STICKY_DEPTH_LIMIT : Field := ⟨0x018, 2, 1, .w1c, 0, false⟩
/-- PAGE_STICKY 1 JOIN_REFUSED[1], W1C, Table 14.9. -/
def ALD_STICKY_JOIN_REFUSED : Field := ⟨0x018, 1, 1, .w1c, 0, false⟩
/-- PAGE_STICKY 0 CFG_REFUSED[0], W1C, Table 14.9. -/
def ALD_STICKY_CFG_REFUSED : Field := ⟨0x018, 0, 1, .w1c, 0, false⟩

/-! ### RED -/

/-- ALD_RED_CTRL 31 EN[31], RWS, Table 14.11. -/
def ALD_RED_CTRL_EN : Field := ⟨0x080, 31, 1, .rws, 0, false⟩
/-- ALD_RED_CTRL 15:0 FORGET_MS[15:0], RWS, Table 14.11. -/
def ALD_RED_CTRL_FORGET_MS : Field := ⟨0x080, 0, 16, .rws, 400, false⟩
/-- ALD_RED_USED 16:0 USED[16:0], RO, Table 14.11. -/
def ALD_RED_USED_USED : Field := ⟨0x084, 0, 17, .ro, 0, false⟩
/-- PAGE_STICKY 2 WRONG_LAN[2], W1C, Table 14.11. -/
def RED_STICKY_WRONG_LAN : Field := ⟨0x018, 2, 1, .w1c, 0, false⟩
/-- PAGE_STICKY 1 TABLE_FULL[1], W1C, Table 14.11. -/
def RED_STICKY_TABLE_FULL : Field := ⟨0x018, 1, 1, .w1c, 0, false⟩
/-- PAGE_STICKY 0 CFG_REFUSED[0], W1C, Table 14.11. -/
def RED_STICKY_CFG_REFUSED : Field := ⟨0x018, 0, 1, .w1c, 0, false⟩

/-! ### NDL -/

/-- NDL_CTRL 0 SD_FLUSH[0], RWS, Table 15.8. -/
def NDL_CTRL_SD_FLUSH : Field := ⟨0x080, 0, 1, .rws, 1, false⟩
/-- NDL_PRI_STAT 9:0 OUTSTANDING[9:0], RO, Table 15.8. -/
def NDL_PRI_STAT_OUTSTANDING : Field := ⟨0x084, 0, 10, .ro, 0, false⟩
/-- PAGE_STICKY 3 RX_NOFIT[3], W1C, Table 15.8. -/
def NDL_STICKY_RX_NOFIT : Field := ⟨0x018, 3, 1, .w1c, 0, false⟩
/-- PAGE_STICKY 2 RX_NOMAP[2], W1C, Table 15.8. -/
def NDL_STICKY_RX_NOMAP : Field := ⟨0x018, 2, 1, .w1c, 0, false⟩
/-- PAGE_STICKY 1 SURPRISE_DOWN[1], W1C, Table 15.8. -/
def NDL_STICKY_SURPRISE_DOWN : Field := ⟨0x018, 1, 1, .w1c, 0, false⟩
/-- PAGE_STICKY 0 CFG_REFUSED[0], W1C, Table 15.8. -/
def NDL_STICKY_CFG_REFUSED : Field := ⟨0x018, 0, 1, .w1c, 0, false⟩

/-! ### NDLF -/

/-- NDL_QP_ENABLE_LO 31:0 EN[31:0], WO, Table 15.9. -/
def NDL_QP_ENABLE_LO_EN : Field := ⟨0x080, 0, 32, .wo, 0, false⟩
/-- NDL_QP_ENABLE_HI 31:0 EN[63:32], WO, Table 15.9. -/
def NDL_QP_ENABLE_HI_EN : Field := ⟨0x084, 0, 32, .wo, 0, false⟩
/-- NDL_QP_ON_LO 31:0 ON[31:0], RO, Table 15.9. -/
def NDL_QP_ON_ON : Field := ⟨0x088, 0, 64, .ro, 0, false⟩
/-- NDL_FN_FAULT 31 VALID[31], RO, Table 15.9. -/
def NDL_FN_FAULT_VALID : Field := ⟨0x090, 31, 1, .ro, 0, false⟩
/-- NDL_FN_FAULT 22 DIR[22], RO, Table 15.9. -/
def NDL_FN_FAULT_DIR : Field := ⟨0x090, 22, 1, .ro, 0, false⟩
/-- NDL_FN_FAULT 21:16 QP[21:16], RO, Table 15.9. -/
def NDL_FN_FAULT_QP : Field := ⟨0x090, 16, 6, .ro, 0, false⟩
/-- NDL_FN_FAULT 15:0 INDEX[15:0], RO, Table 15.9. -/
def NDL_FN_FAULT_INDEX : Field := ⟨0x090, 0, 16, .ro, 0, false⟩
/-- NDL_FN_FAULT_ADDR_LO 31:0 ADDR[31:0], RO, Table 15.9. -/
def NDL_FN_FAULT_ADDR_ADDR : Field := ⟨0x094, 0, 64, .ro, 0, false⟩
/-- NDL_FN_PRI 23:16 PARKED[23:16], RO, Table 15.9. -/
def NDL_FN_PRI_PARKED : Field := ⟨0x09c, 16, 8, .ro, 0, false⟩
/-- NDL_FN_PRI 9:0 OUTSTANDING[9:0], RO, Table 15.9. -/
def NDL_FN_PRI_OUTSTANDING : Field := ⟨0x09c, 0, 10, .ro, 0, false⟩
/-- PAGE_STICKY 3 RING_WAIT[3], W1C, Table 15.9. -/
def NDLF_STICKY_RING_WAIT : Field := ⟨0x018, 3, 1, .w1c, 0, false⟩
/-- PAGE_STICKY 2 PARKED[2], W1C, Table 15.9. -/
def NDLF_STICKY_PARKED : Field := ⟨0x018, 2, 1, .w1c, 0, false⟩
/-- PAGE_STICKY 1 TS_LOST[1], W1C, Table 15.9. -/
def NDLF_STICKY_TS_LOST : Field := ⟨0x018, 1, 1, .w1c, 0, false⟩
/-- PAGE_STICKY 0 CFG_REFUSED[0], W1C, Table 15.9. -/
def NDLF_STICKY_CFG_REFUSED : Field := ⟨0x018, 0, 1, .w1c, 0, false⟩

/-! ### FLSC -/

/-- FLS_STORE_USED 18:0, R510. -/
def FLS_STORE_USED_USED : Field := ⟨0x080, 0, 19, .ro, 0, false⟩
/-- PAGE_STICKY 0 CFG_REFUSED, R510. -/
def FLSC_STICKY_CFG_REFUSED : Field := ⟨0x018, 0, 1, .w1c, 0, false⟩

/-! ### FLSF -/

/-- FLS_FREE 31:0 WORD[31:0], WO, Table 15.11. -/
def FLS_FREE_WORD : Field := ⟨0x080, 0, 32, .wo, 0, false⟩
/-- FLS_HELDp 15:0 HELD[15:0], RO, Table 15.11. -/
def FLS_HELD_HELD (p : Nat) : Field := ⟨0x0A0 + 4 * p, 0, 16, .ro, 0, false⟩
/-- PAGE_STICKY 2 SHARE_WAIT[2], W1C, Table 15.11. -/
def FLSF_STICKY_SHARE_WAIT : Field := ⟨0x018, 2, 1, .w1c, 0, false⟩
/-- PAGE_STICKY 1 POOL_EMPTY[1], W1C, Table 15.11. -/
def FLSF_STICKY_POOL_EMPTY : Field := ⟨0x018, 1, 1, .w1c, 0, false⟩
/-- PAGE_STICKY 0 FREE_OVER[0], W1C, Table 15.11. -/
def FLSF_STICKY_FREE_OVER : Field := ⟨0x018, 0, 1, .w1c, 0, false⟩

/-! ### DDR -/

/-- DDR_ERR_CFG 31:16 CE_LIMIT[31:16], RWS, Table 16.4. -/
def DDR_ERR_CFG_CE_LIMIT : Field := ⟨0x080, 16, 16, .rws, 1000, false⟩
/-- DDR_ERR_CFG 7:0 UE_LIMIT[7:0], RWS, Table 16.4. -/
def DDR_ERR_CFG_UE_LIMIT : Field := ⟨0x080, 0, 8, .rws, 4, false⟩
/-- DDR_ERR_STAT 31:16 CE_SEC[31:16], RO, Table 16.4. -/
def DDR_ERR_STAT_CE_SEC : Field := ⟨0x084, 16, 16, .ro, 0, false⟩
/-- DDR_ERR_STAT 15:0 UE_COUNT[15:0], RO, Table 16.4. -/
def DDR_ERR_STAT_UE_COUNT : Field := ⟨0x084, 0, 16, .ro, 0, false⟩
/-- DDR_ERR_ADDR_LO 31:0 ADDR[31:0], RO, Table 16.4. -/
def DDR_ERR_ADDR_ADDR : Field := ⟨0x088, 0, 35, .ro, 0, false⟩
/-- DDR_ERR_PART 31:0 PARTIAL[31:0], RO, Table 16.4. -/
def DDR_ERR_PART_PARTIAL : Field := ⟨0x090, 0, 32, .ro, 0, false⟩
/-- PAGE_STATUS 1 COPYING[1], RO, Table 16.4. -/
def DDR_STATUS_COPYING : Field := ⟨0x014, 1, 1, .ro, 0, false⟩
/-- PAGE_STATUS 0 REMAPPED[0], RO, Table 16.4. -/
def DDR_STATUS_REMAPPED : Field := ⟨0x014, 0, 1, .ro, 0, false⟩
/-- PAGE_STICKY 1 CE_HIGH[1], W1C, Table 16.4. -/
def DDR_STICKY_CE_HIGH : Field := ⟨0x018, 1, 1, .w1c, 0, false⟩
/-- PAGE_STICKY 0 UNCORR[0], W1C, Table 16.4. -/
def DDR_STICKY_UNCORR : Field := ⟨0x018, 0, 1, .w1c, 0, false⟩

/-! ### RSX -/

/-- RSX_CTRL 2 RECLAIM_EN[2], RWS, Table 11.9. -/
def RSX_CTRL_RECLAIM_EN : Field := ⟨0x080, 2, 1, .rws, 1, false⟩
/-- RSX_CTRL 1 AUDIT_EN[1], RWS, Table 11.9. -/
def RSX_CTRL_AUDIT_EN : Field := ⟨0x080, 1, 1, .rws, 1, false⟩
/-- RSX_CTRL 0 CT_EN[0], RWS, Table 11.9. -/
def RSX_CTRL_CT_EN : Field := ⟨0x080, 0, 1, .rws, 1, false⟩
/-- RSX_AUDIT_CFG 15:0 AUDIT_DIV[15:0], RWS, Table 11.9. -/
def RSX_AUDIT_CFG_AUDIT_DIV : Field := ⟨0x084, 0, 16, .rws, 1000, false⟩
/-- RSX_QE_CFG 31:16 QE_XON[31:16], RWS, Table 11.9. -/
def RSX_QE_CFG_QE_XON : Field := ⟨0x088, 16, 16, .rws, 96, false⟩
/-- RSX_QE_CFG 15:0 QE_XOFF[15:0], RWS, Table 11.9. -/
def RSX_QE_CFG_QE_XOFF : Field := ⟨0x088, 0, 16, .rws, 64, false⟩
/-- RSX_SHARED_SIZE 20:0 SIZE[20:0], RO, Table 11.9. -/
def RSX_SHARED_SIZE_SIZE : Field := ⟨0x08c, 0, 21, .ro, 913408, false⟩
/-- RSX_SHARED_USED 20:0 USED[20:0], RO, Table 11.9. -/
def RSX_SHARED_USED_USED : Field := ⟨0x090, 0, 21, .ro, 0, false⟩
/-- RSX_FREE_CELLS 20:0 FREE[20:0], RO, Table 11.9. -/
def RSX_FREE_CELLS_FREE : Field := ⟨0x094, 0, 21, .ro, 1048576, false⟩
/-- RSX_FREE_QE 21:0 FREE[21:0], RO, Table 11.9. -/
def RSX_FREE_QE_FREE : Field := ⟨0x098, 0, 22, .ro, 2097152, false⟩
/-- RSX_AUDIT_STAT 31 RUNNING[31], RO, Table 11.9. -/
def RSX_AUDIT_STAT_RUNNING : Field := ⟨0x09c, 31, 1, .ro, 0, false⟩
/-- RSX_AUDIT_STAT 15:0 LAST_FOUND[15:0], RO, Table 11.9. -/
def RSX_AUDIT_STAT_LAST_FOUND : Field := ⟨0x09c, 0, 16, .ro, 0, false⟩
/-- RSX_AUDIT_DONE_LO 31:0 STITCH[31:0], RO, Table 11.9. -/
def RSX_AUDIT_DONE_STITCH : Field := ⟨0x0a0, 0, 64, .ro, 0, false⟩
/-- RSX_ERR_LOC 31 VALID[31], RO, Table 11.9. -/
def RSX_ERR_LOC_VALID : Field := ⟨0x0a8, 31, 1, .ro, 0, false⟩
/-- RSX_ERR_LOC 30:29 SPACE[30:29], RO, Table 11.9. -/
def RSX_ERR_LOC_SPACE : Field := ⟨0x0a8, 29, 2, .ro, 0, false⟩
/-- RSX_ERR_LOC 20:0 LOC[20:0], RO, Table 11.9. -/
def RSX_ERR_LOC_LOC : Field := ⟨0x0a8, 0, 21, .ro, 0, false⟩
/-- PAGE_STATUS 1 QE_HOLD[1], RO, Table 11.10. -/
def RSX_STATUS_QE_HOLD : Field := ⟨0x014, 1, 1, .ro, 0, false⟩
/-- PAGE_STATUS 0 AUDIT_RUN[0], RO, Table 11.10. -/
def RSX_STATUS_AUDIT_RUN : Field := ⟨0x014, 0, 1, .ro, 0, false⟩
/-- PAGE_STICKY 11 RETIRE_FULL[11], W1C, Table 11.10. -/
def RSX_STICKY_RETIRE_FULL : Field := ⟨0x018, 11, 1, .w1c, 0, false⟩
/-- PAGE_STICKY 10 GROUP_INVALID[10], W1C, Table 11.10. -/
def RSX_STICKY_GROUP_INVALID : Field := ⟨0x018, 10, 1, .w1c, 0, false⟩
/-- PAGE_STICKY 9 DESC_UNCORR[9], W1C, Table 11.10. -/
def RSX_STICKY_DESC_UNCORR : Field := ⟨0x018, 9, 1, .w1c, 0, false⟩
/-- PAGE_STICKY 8 CELL_UNCORR[8], W1C, Table 11.10. -/
def RSX_STICKY_CELL_UNCORR : Field := ⟨0x018, 8, 1, .w1c, 0, false⟩
/-- PAGE_STICKY 7 AUDIT_LOG_OVF[7], W1C, Table 11.10. -/
def RSX_STICKY_AUDIT_LOG_OVF : Field := ⟨0x018, 7, 1, .w1c, 0, false⟩
/-- PAGE_STICKY 6 AUDIT_LATE[6], W1C, Table 11.10. -/
def RSX_STICKY_AUDIT_LATE : Field := ⟨0x018, 6, 1, .w1c, 0, false⟩
/-- PAGE_STICKY 5 AUDIT_CROSS[5], W1C, Table 11.10. -/
def RSX_STICKY_AUDIT_CROSS : Field := ⟨0x018, 5, 1, .w1c, 0, false⟩
/-- PAGE_STICKY 4 AUDIT_REF[4], W1C, Table 11.10. -/
def RSX_STICKY_AUDIT_REF : Field := ⟨0x018, 4, 1, .w1c, 0, false⟩
/-- PAGE_STICKY 3 AUDIT_RECLAIM[3], W1C, Table 11.10. -/
def RSX_STICKY_AUDIT_RECLAIM : Field := ⟨0x018, 3, 1, .w1c, 0, false⟩
/-- PAGE_STICKY 2 QE_HOLD[2], W1C, Table 11.10. -/
def RSX_STICKY_QE_HOLD : Field := ⟨0x018, 2, 1, .w1c, 0, false⟩
/-- PAGE_STICKY 1 HDRM_DISCARD[1], W1C, Table 11.10. -/
def RSX_STICKY_HDRM_DISCARD : Field := ⟨0x018, 1, 1, .w1c, 0, false⟩
/-- PAGE_STICKY 0 CFG_REFUSED[0], W1C, Table 11.10. -/
def RSX_STICKY_CFG_REFUSED : Field := ⟨0x018, 0, 1, .w1c, 0, false⟩

/-! ### MIR -/

/-- RSX_MIR_CTRL 31:30 MODE[31:30], RWS, Table 11.14. -/
def RSX_MIR_CTRL_MODE : Field := ⟨0x080, 30, 2, .rws, 0, false⟩
/-- RSX_MIR_CTRL 29:27 CLASS[29:27], RWS, Table 11.14. -/
def RSX_MIR_CTRL_CLASS : Field := ⟨0x080, 27, 3, .rws, 0, false⟩
/-- RSX_MIR_CTRL 26:16 DEST[26:16], RWS, Table 11.14. -/
def RSX_MIR_CTRL_DEST : Field := ⟨0x080, 16, 11, .rws, 0, false⟩
/-- RSX_MIR_CTRL 13:0 TRUNC[13:0], RWS, Table 11.14. -/
def RSX_MIR_CTRL_TRUNC : Field := ⟨0x080, 0, 14, .rws, 0, false⟩
/-- RSX_MIR_QLIMIT 15:0 QLIMIT[15:0], RWS, Table 11.14. -/
def RSX_MIR_QLIMIT_QLIMIT : Field := ⟨0x084, 0, 16, .rws, 4096, false⟩
/-- RSX_MIR_DA_LO 31:0 DA[31:0], RWS, Table 11.14. -/
def RSX_MIR_DA_LO_DA : Field := ⟨0x088, 0, 32, .rws, 0, false⟩
/-- RSX_MIR_DA_HI 15:0 DA[47:32], RWS, Table 11.14. -/
def RSX_MIR_DA_HI_DA : Field := ⟨0x08c, 0, 16, .rws, 0, false⟩
/-- RSX_MIR_SA_LO 31:0 SA[31:0], RWS, Table 11.14. -/
def RSX_MIR_SA_LO_SA : Field := ⟨0x090, 0, 32, .rws, 0, false⟩
/-- RSX_MIR_SA_HI 15:0 SA[47:32], RWS, Table 11.14. -/
def RSX_MIR_SA_HI_SA : Field := ⟨0x094, 0, 16, .rws, 0, false⟩
/-- RSX_MIR_VLAN 31 VLAN_EN[31], RWS, Table 11.14. -/
def RSX_MIR_VLAN_VLAN_EN : Field := ⟨0x098, 31, 1, .rws, 0, false⟩
/-- RSX_MIR_VLAN 15:0 TCI[15:0], RWS, Table 11.14. -/
def RSX_MIR_VLAN_TCI : Field := ⟨0x098, 0, 16, .rws, 0, false⟩
/-- RSX_MIR_IP_SRC 31:0 SRC[31:0], RWS, Table 11.14. -/
def RSX_MIR_IP_SRC_SRC : Field := ⟨0x09c, 0, 32, .rws, 0, false⟩
/-- RSX_MIR_IP_DST 31:0 DST[31:0], RWS, Table 11.14. -/
def RSX_MIR_IP_DST_DST : Field := ⟨0x0a0, 0, 32, .rws, 0, false⟩
/-- RSX_MIR_IP_CFG 31:24 TTL[31:24], RWS, Table 11.14. -/
def RSX_MIR_IP_CFG_TTL : Field := ⟨0x0a4, 24, 8, .rws, 64, false⟩
/-- RSX_MIR_IP_CFG 23:18 DSCP[23:18], RWS, Table 11.14. -/
def RSX_MIR_IP_CFG_DSCP : Field := ⟨0x0a4, 18, 6, .rws, 0, false⟩
/-- RSX_MIR_IP_CFG 15:0 GRE_PROTO[15:0], RWS, Table 11.14. -/
def RSX_MIR_IP_CFG_GRE_PROTO : Field := ⟨0x0a4, 0, 16, .rws, 25944, false⟩
/-- RSX_MIR_QLEN 15:0 QLEN[15:0], RO, Table 11.14. -/
def RSX_MIR_QLEN_QLEN : Field := ⟨0x0a8, 0, 16, .ro, 0, false⟩
/-- PAGE_STICKY 0 CFG_REFUSED, R375. -/
def MIR_STICKY_CFG_REFUSED : Field := ⟨0x018, 0, 1, .w1c, 0, false⟩
/-- PAGE_STICKY 1 MIR_SKIP, R375. -/
def MIR_STICKY_MIR_SKIP : Field := ⟨0x018, 1, 1, .w1c, 0, false⟩

/-! ### POL -/

/-- TMG_POL_VALID 18:0 COUNT[18:0], RO, Table 12.10. -/
def TMG_POL_VALID_COUNT : Field := ⟨0x080, 0, 19, .ro, 0, false⟩
/-- TMG_POL_ERR_LOC 31 VALID[31], RO, Table 12.10. -/
def TMG_POL_ERR_LOC_VALID : Field := ⟨0x084, 31, 1, .ro, 0, false⟩
/-- TMG_POL_ERR_LOC 17:0 LOC[17:0], RO, Table 12.10. -/
def TMG_POL_ERR_LOC_LOC : Field := ⟨0x084, 0, 18, .ro, 0, false⟩
/-- PAGE_STICKY 1 POL_UNCORR[1], W1C, Table 12.10. -/
def POL_STICKY_POL_UNCORR : Field := ⟨0x018, 1, 1, .w1c, 0, false⟩
/-- PAGE_STICKY 0 CFG_REFUSED[0], W1C, Table 12.10. -/
def POL_STICKY_CFG_REFUSED : Field := ⟨0x018, 0, 1, .w1c, 0, false⟩

/-! ### TMG -/

/-- TMG_PORT_CFG 31:24 PFC_GEN[31:24], RWS, Table 12.6. -/
def TMG_PORT_CFG_PFC_GEN : Field := ⟨0x080, 24, 8, .rws, 255, false⟩
/-- TMG_PORT_CFG 18 CQF_DROP[18], RWS, Table 12.6. -/
def TMG_PORT_CFG_CQF_DROP : Field := ⟨0x080, 18, 1, .rws, 0, false⟩
/-- TMG_PORT_CFG 17 GUARD_EN[17], RWS, Table 12.6. -/
def TMG_PORT_CFG_GUARD_EN : Field := ⟨0x080, 17, 1, .rws, 1, false⟩
/-- TMG_PORT_CFG 16 GATE_EN[16], RWS, Table 12.6. -/
def TMG_PORT_CFG_GATE_EN : Field := ⟨0x080, 16, 1, .rws, 0, false⟩
/-- TMG_PORT_CFG 15:8 STRICT[15:8], RWS, Table 12.6. -/
def TMG_PORT_CFG_STRICT : Field := ⟨0x080, 8, 8, .rws, 0, false⟩
/-- TMG_PORT_CFG 7:0 OVERHEAD[7:0], RWS, Table 12.6. -/
def TMG_PORT_CFG_OVERHEAD : Field := ⟨0x080, 0, 8, .rws, 20, false⟩
/-- TMG_SCHED_BUDGET 23:0 BUDGET[23:0], RWS, Table 12.6. -/
def TMG_SCHED_BUDGET_BUDGET : Field := ⟨0x084, 0, 24, .rws, 0, false⟩
/-- TMG_WEIGHTab 31:16 W_b[31:16], RWS, Table 12.6. -/
def TMG_WEIGHT (c : Nat) : Field := ⟨0x088 + 4 * (c / 2), 16 * (c % 2), 16, .rws, 1, false⟩
/-- TMG_SHAPE_EN 7:0 SHAPE_EN[7:0], RWS, Table 12.6. -/
def TMG_SHAPE_EN_SHAPE_EN : Field := ⟨0x098, 0, 8, .rws, 0, false⟩
/-- TMG_IDLE_SLOPEc 21:0 SLOPE[21:0], RWS, Table 12.6. -/
def TMG_IDLE_SLOPE_SLOPE (c : Nat) : Field := ⟨0x0A0 + 4 * c, 0, 22, .rws, 0, false⟩
/-- TMG_CRED_MAXc 23:0 CRED_MAX[23:0], RWS, Table 12.6. -/
def TMG_CRED_MAX_CRED_MAX (c : Nat) : Field := ⟨0x0C0 + 4 * c, 0, 24, .rws, 16384, false⟩
/-- TMG_GL_BASE_LO 31:0 BASE[31:0], RWS, Table 12.6. -/
def TMG_GL_BASE_LO_BASE : Field := ⟨0x0e0, 0, 32, .rws, 0, false⟩
/-- TMG_GL_BASE_HI 31:0 BASE[63:32], RWS, Table 12.6. -/
def TMG_GL_BASE_HI_BASE : Field := ⟨0x0e4, 0, 32, .rws, 0, false⟩
/-- TMG_GL_CYCLE 31:0 CYCLE[31:0], RWS, Table 12.6. -/
def TMG_GL_CYCLE_CYCLE : Field := ⟨0x0e8, 0, 32, .rws, 1000000, false⟩
/-- TMG_GL_LEN 8:0 LEN[8:0], RWS, Table 12.6. -/
def TMG_GL_LEN_LEN : Field := ⟨0x0ec, 0, 9, .rws, 1, false⟩
/-- TMG_GL_STAT 31:30 STATE[31:30], RO, Table 12.6. -/
def TMG_GL_STAT_STATE : Field := ⟨0x0f0, 30, 2, .ro, 0, false⟩
/-- TMG_GL_STAT 7:0 ENTRY[7:0], RO, Table 12.6. -/
def TMG_GL_STAT_ENTRY : Field := ⟨0x0f0, 0, 8, .ro, 0, false⟩
/-- TMG_GL_START_LO 31:0 START[31:0], RO, Table 12.6. -/
def TMG_GL_START_START : Field := ⟨0x0f4, 0, 64, .ro, 0, false⟩
/-- PAGE_STATUS 16 GL_SYNC[16], RO, Table 12.7. -/
def TMG_STATUS_GL_SYNC : Field := ⟨0x014, 16, 1, .ro, 0, false⟩
/-- PAGE_STATUS 15:8 CREDIT_NEG[15:8], RO, Table 12.7. -/
def TMG_STATUS_CREDIT_NEG : Field := ⟨0x014, 8, 8, .ro, 0, false⟩
/-- PAGE_STATUS 7:0 GATES[7:0], RO, Table 12.7. -/
def TMG_STATUS_GATES : Field := ⟨0x014, 0, 8, .ro, 255, false⟩
/-- PAGE_STICKY 4 CQF_EXCESS[4], W1C, Table 12.7. -/
def TMG_STICKY_CQF_EXCESS : Field := ⟨0x018, 4, 1, .w1c, 0, false⟩
/-- PAGE_STICKY 3 GATE_OVERRUN[3], W1C, Table 12.7. -/
def TMG_STICKY_GATE_OVERRUN : Field := ⟨0x018, 3, 1, .w1c, 0, false⟩
/-- PAGE_STICKY 2 GATE_OVERSIZE[2], W1C, Table 12.7. -/
def TMG_STICKY_GATE_OVERSIZE : Field := ⟨0x018, 2, 1, .w1c, 0, false⟩
/-- PAGE_STICKY 1 LATE_START[1], W1C, Table 12.7. -/
def TMG_STICKY_LATE_START : Field := ⟨0x018, 1, 1, .w1c, 0, false⟩
/-- PAGE_STICKY 0 CFG_REFUSED[0], W1C, Table 12.7. -/
def TMG_STICKY_CFG_REFUSED : Field := ⟨0x018, 0, 1, .w1c, 0, false⟩

/-! ### PNL -/

/-- PNL_D2D_STAT 31 TRAINED[31], RO, Table 16.8. -/
def PNL_D2D_STAT_TRAINED : Field := ⟨0x080, 31, 1, .ro, 0, false⟩
/-- PNL_D2D_STAT 30 TRAINING[30], RO, Table 16.8. -/
def PNL_D2D_STAT_TRAINING : Field := ⟨0x080, 30, 1, .ro, 0, false⟩
/-- PNL_D2D_STAT 20:16 MAX_RUN[20:16], RO, Table 16.8. -/
def PNL_D2D_STAT_MAX_RUN : Field := ⟨0x080, 16, 5, .ro, 0, false⟩
/-- PNL_D2D_STAT 7:0 SKEW[7:0], RO, Table 16.8. -/
def PNL_D2D_STAT_SKEW : Field := ⟨0x080, 0, 8, .ro, 0, false⟩
/-- PNL_D2D_TRAINS 15:0 TRAINS[15:0], RO, Table 16.8. -/
def PNL_D2D_TRAINS_TRAINS : Field := ⟨0x084, 0, 16, .ro, 0, false⟩
/-- PAGE_STICKY 2 DESKEW_LIMIT[2], W1C, Table 16.8. -/
def PNL_STICKY_DESKEW_LIMIT : Field := ⟨0x018, 2, 1, .w1c, 0, false⟩
/-- PAGE_STICKY 1 RETRAINED[1], W1C, Table 16.8. -/
def PNL_STICKY_RETRAINED : Field := ⟨0x018, 1, 1, .w1c, 0, false⟩
/-- PAGE_STICKY 0 REPLAY[0], W1C, Table 16.8. -/
def PNL_STICKY_REPLAY : Field := ⟨0x018, 0, 1, .w1c, 0, false⟩

/-! ### CLS -/

/-- CLS_DEFAULT 31:30 DEF_DISP[31:30], RWS, Table 7.10. -/
def CLS_DEFAULT_DEF_DISP : Field := ⟨0x080, 30, 2, .rws, 0, false⟩
/-- CLS_DEFAULT 29 CLASS_FROM_PCP[29], RWS, Table 7.10. -/
def CLS_DEFAULT_CLASS_FROM_PCP : Field := ⟨0x080, 29, 1, .rws, 1, false⟩
/-- CLS_DEFAULT 28:26 DEF_CLASS[28:26], RWS, Table 7.10. -/
def CLS_DEFAULT_DEF_CLASS : Field := ⟨0x080, 26, 3, .rws, 0, false⟩
/-- CLS_DEFAULT 25:20 DEF_PROFILE[25:20], RWS, Table 7.10. -/
def CLS_DEFAULT_DEF_PROFILE : Field := ⟨0x080, 20, 6, .rws, 0, false⟩
/-- CLS_DEFAULT 10:0 DEF_TARGET[10:0], RWS, Table 7.10. -/
def CLS_DEFAULT_DEF_TARGET : Field := ⟨0x080, 0, 11, .rws, 0, false⟩
/-- CLS_TREEn 31 EN[31], RWS, Table 7.10. -/
def CLS_TREE_EN (c : Nat) : Field := ⟨0x084 + 4 * c, 31, 1, .rws, 0, false⟩
/-- CLS_TREEn 30 VIEW[30], RWS, Table 7.10. -/
def CLS_TREE_VIEW (c : Nat) : Field := ⟨0x084 + 4 * c, 30, 1, .rws, 0, false⟩
/-- CLS_TREEn 19:0 ROOT[19:0], RWS, Table 7.10. -/
def CLS_TREE_ROOT (c : Nat) : Field := ⟨0x084 + 4 * c, 0, 20, .rws, 0, false⟩
/-- CLS_BLK_LIVE 18:0 LIVE[18:0], RO, Table 7.10. -/
def CLS_BLK_LIVE_LIVE : Field := ⟨0x094, 0, 19, .ro, 0, false⟩
/-- CLS_BLK_STAGED 18:0 STAGED[18:0], RO, Table 7.10. -/
def CLS_BLK_STAGED_STAGED : Field := ⟨0x098, 0, 19, .ro, 0, false⟩
/-- CLS_BLK_RETIRE 18:0 RETIRE[18:0], RO, Table 7.10. -/
def CLS_BLK_RETIRE_RETIRE : Field := ⟨0x09c, 0, 19, .ro, 0, false⟩
/-- CLS_FAULT 31:30 TREE[31:30], RO, Table 7.10. -/
def CLS_FAULT_TREE : Field := ⟨0x0a0, 30, 2, .ro, 0, false⟩
/-- CLS_FAULT 29:27 REASON[29:27], RO, Table 7.10. -/
def CLS_FAULT_REASON : Field := ⟨0x0a0, 27, 3, .ro, 0, false⟩
/-- CLS_FAULT 19:0 LOC[19:0], RO, Table 7.10. -/
def CLS_FAULT_LOC : Field := ⟨0x0a0, 0, 20, .ro, 0, false⟩
/-- PAGE_STATUS 3:0 TREES_ON[3:0], RO, Table 7.11. -/
def CLS_STATUS_TREES_ON : Field := ⟨0x014, 0, 4, .ro, 0, false⟩
/-- PAGE_STICKY 4 CNT_UNCORR[4], W1C, Table 7.11. -/
def CLS_STICKY_CNT_UNCORR : Field := ⟨0x018, 4, 1, .w1c, 0, false⟩
/-- PAGE_STICKY 3 RULE_UNCORR[3], W1C, Table 7.11. -/
def CLS_STICKY_RULE_UNCORR : Field := ⟨0x018, 3, 1, .w1c, 0, false⟩
/-- PAGE_STICKY 2 TREE_FAULT[2], W1C, Table 7.11. -/
def CLS_STICKY_TREE_FAULT : Field := ⟨0x018, 2, 1, .w1c, 0, false⟩
/-- PAGE_STICKY 1 RULE_REFUSED[1], W1C, Table 7.11. -/
def CLS_STICKY_RULE_REFUSED : Field := ⟨0x018, 1, 1, .w1c, 0, false⟩
/-- PAGE_STICKY 0 CFG_REFUSED[0], W1C, Table 7.11. -/
def CLS_STICKY_CFG_REFUSED : Field := ⟨0x018, 0, 1, .w1c, 0, false⟩

/-! ### FIL -/

/-- FIL_CTRL 11:8 MOVE_LIMIT[11:8], RWS, Table 8.6. -/
def FIL_CTRL_MOVE_LIMIT : Field := ⟨0x080, 8, 4, .rws, 8, false⟩
/-- FIL_CTRL 2 DA_HIT[2], RWS, Table 8.6. -/
def FIL_CTRL_DA_HIT : Field := ⟨0x080, 2, 1, .rws, 0, false⟩
/-- FIL_CTRL 1 AGE_EN[1], RWS, Table 8.6. -/
def FIL_CTRL_AGE_EN : Field := ⟨0x080, 1, 1, .rws, 1, false⟩
/-- FIL_CTRL 0 LEARN_EN[0], RWS, Table 8.6. -/
def FIL_CTRL_LEARN_EN : Field := ⟨0x080, 0, 1, .rws, 1, false⟩
/-- FIL_HASH_SEED 31:0 SEED[31:0], RWS, Table 8.6. -/
def FIL_HASH_SEED_SEED : Field := ⟨0x084, 0, 32, .rws, 4294967295, false⟩
/-- FIL_AGE 31:16 AGE_DIV[31:16], RWS, Table 8.6. -/
def FIL_AGE_AGE_DIV : Field := ⟨0x088, 16, 16, .rws, 1, false⟩
/-- FIL_AGE 12:0 AGE_STEP[12:0], RWS, Table 8.6. -/
def FIL_AGE_AGE_STEP : Field := ⟨0x088, 0, 13, .rws, 1, false⟩
/-- FIL_CMD 31 GO[31], WO, Table 8.6. -/
def FIL_CMD_GO : Field := ⟨0x08c, 31, 1, .wo, 0, false⟩
/-- FIL_CMD 2:0 OP[2:0], RW, Table 8.6. -/
def FIL_CMD_OP : Field := ⟨0x08c, 0, 3, .rw, 0, false⟩
/-- FIL_CMD_KEY_LO 31:0 KEY[31:0], RW, Table 8.6. -/
def FIL_CMD_KEY_LO_KEY : Field := ⟨0x090, 0, 32, .rw, 0, false⟩
/-- FIL_CMD_KEY_HI 31:0 KEY[63:32], RW, Table 8.6. -/
def FIL_CMD_KEY_HI_KEY : Field := ⟨0x094, 0, 32, .rw, 0, false⟩
/-- FIL_CMD_DATA 31:30 DK[31:30], RW, Table 8.6. -/
def FIL_CMD_DATA_DK : Field := ⟨0x098, 30, 2, .rw, 0, false⟩
/-- FIL_CMD_DATA 15:0 DEST[15:0], RW, Table 8.6. -/
def FIL_CMD_DATA_DEST : Field := ⟨0x098, 0, 16, .rw, 0, false⟩
/-- FIL_CMD_ARG 31:30 CLS_SEL[31:30], RW, Table 8.6. -/
def FIL_CMD_ARG_CLS_SEL : Field := ⟨0x09c, 30, 2, .rw, 0, false⟩
/-- FIL_CMD_ARG 29 PORT_EN[29], RW, Table 8.6. -/
def FIL_CMD_ARG_PORT_EN : Field := ⟨0x09c, 29, 1, .rw, 0, false⟩
/-- FIL_CMD_ARG 28 VID_EN[28], RW, Table 8.6. -/
def FIL_CMD_ARG_VID_EN : Field := ⟨0x09c, 28, 1, .rw, 0, false⟩
/-- FIL_CMD_ARG 27:16 VID[27:16], RW, Table 8.6. -/
def FIL_CMD_ARG_VID : Field := ⟨0x09c, 16, 12, .rw, 0, false⟩
/-- FIL_CMD_ARG 10:0 PORT[10:0], RW, Table 8.6. -/
def FIL_CMD_ARG_PORT : Field := ⟨0x09c, 0, 11, .rw, 0, false⟩
/-- FIL_CMD_STAT 31 BUSY[31], RO, Table 8.6. -/
def FIL_CMD_STAT_BUSY : Field := ⟨0x0a0, 31, 1, .ro, 0, false⟩
/-- FIL_CMD_STAT 27:24 RESULT[27:24], RO, Table 8.6. -/
def FIL_CMD_STAT_RESULT : Field := ⟨0x0a0, 24, 4, .ro, 0, false⟩
/-- FIL_CMD_STAT 20:0 LOC[20:0], RO, Table 8.6. -/
def FIL_CMD_STAT_LOC : Field := ⟨0x0a0, 0, 21, .ro, 0, false⟩
/-- FIL_CMD_OUTn 31:0 WORDn[31:0], RO, Table 8.6. -/
def FIL_CMD_OUT_WORDn (n : Nat) : Field := ⟨0x0A4 + 4 * n, 0, 32, .ro, 0, false⟩
/-- FIL_WALK_POS 20:0 POS[20:0], RW, Table 8.6. -/
def FIL_WALK_POS_POS : Field := ⟨0x0b4, 0, 21, .rw, 0, false⟩
/-- FIL_COUNT_USER 20:0 USER[20:0], RO, Table 8.6. -/
def FIL_COUNT_USER_USER : Field := ⟨0x0b8, 0, 21, .ro, 0, false⟩
/-- FIL_COUNT_DATA 20:0 DATA[20:0], RO, Table 8.6. -/
def FIL_COUNT_DATA_DATA : Field := ⟨0x0bc, 0, 21, .ro, 0, false⟩
/-- FIL_STAGED 16:0 STAGED[16:0], RO, Table 8.6. -/
def FIL_STAGED_STAGED : Field := ⟨0x0c0, 0, 17, .ro, 0, false⟩
/-- FIL_ERR_LOC 31 VALID[31], RO, Table 8.6. -/
def FIL_ERR_LOC_VALID : Field := ⟨0x0c4, 31, 1, .ro, 0, false⟩
/-- FIL_ERR_LOC 20:0 LOC[20:0], RO, Table 8.6. -/
def FIL_ERR_LOC_LOC : Field := ⟨0x0c4, 0, 21, .ro, 0, false⟩
/-- PAGE_STATUS 16 CLEANUP[16], RO, Table 8.7. -/
def FIL_STATUS_CLEANUP : Field := ⟨0x014, 16, 1, .ro, 0, false⟩
/-- PAGE_STATUS 13:0 OVF_USED[13:0], RO, Table 8.7. -/
def FIL_STATUS_OVF_USED : Field := ⟨0x014, 0, 14, .ro, 0, false⟩
/-- PAGE_STICKY 7 LEARN_LATE[7], W1C, Table 8.7. -/
def FIL_STICKY_LEARN_LATE : Field := ⟨0x018, 7, 1, .w1c, 0, false⟩
/-- PAGE_STICKY 6 ECC_UNCORR[6], W1C, Table 8.7. -/
def FIL_STICKY_ECC_UNCORR : Field := ⟨0x018, 6, 1, .w1c, 0, false⟩
/-- PAGE_STICKY 5 LEARN_DROP[5], W1C, Table 8.7. -/
def FIL_STICKY_LEARN_DROP : Field := ⟨0x018, 5, 1, .w1c, 0, false⟩
/-- PAGE_STICKY 4 OVF_FULL[4], W1C, Table 8.7. -/
def FIL_STICKY_OVF_FULL : Field := ⟨0x018, 4, 1, .w1c, 0, false⟩
/-- PAGE_STICKY 3 MOVE_LOCK[3], W1C, Table 8.7. -/
def FIL_STICKY_MOVE_LOCK : Field := ⟨0x018, 3, 1, .w1c, 0, false⟩
/-- PAGE_STICKY 2 INSERT_FAIL[2], W1C, Table 8.7. -/
def FIL_STICKY_INSERT_FAIL : Field := ⟨0x018, 2, 1, .w1c, 0, false⟩
/-- PAGE_STICKY 1 CMD_REFUSED[1], W1C, Table 8.7. -/
def FIL_STICKY_CMD_REFUSED : Field := ⟨0x018, 1, 1, .w1c, 0, false⟩
/-- PAGE_STICKY 0 CFG_REFUSED[0], W1C, Table 8.7. -/
def FIL_STICKY_CFG_REFUSED : Field := ⟨0x018, 0, 1, .w1c, 0, false⟩

/-! ### HOP -/

/-- HOP_PWR_CTRL 31 WAKE_REQ[31], WO, Table 17.10. -/
def HOP_PWR_CTRL_WAKE_REQ : Field := ⟨0x080, 31, 1, .wo, 0, false⟩
/-- HOP_PWR_CTRL 30 H2_REQ[30], WO, Table 17.10. -/
def HOP_PWR_CTRL_H2_REQ : Field := ⟨0x080, 30, 1, .wo, 0, false⟩
/-- HOP_PWR_CTRL 29 PAD_RELEASE[29], WO, Table 17.10. -/
def HOP_PWR_CTRL_PAD_RELEASE : Field := ⟨0x080, 29, 1, .wo, 0, false⟩
/-- HOP_PWR_CTRL 24 H2_EN[24], RWS, Table 17.10. -/
def HOP_PWR_CTRL_H2_EN : Field := ⟨0x080, 24, 1, .rws, 0, false⟩
/-- HOP_PWR_CTRL 23:16 H2_IDLE_MS[23:16], RWS, Table 17.10. -/
def HOP_PWR_CTRL_H2_IDLE_MS : Field := ⟨0x080, 16, 8, .rws, 0, false⟩
/-- HOP_PWR_CTRL 15:0 IDLE_US[15:0], RWS, Table 17.10. -/
def HOP_PWR_CTRL_IDLE_US : Field := ⟨0x080, 0, 16, .rws, 50, false⟩
/-- HOP_PWR_STAT 15:12 LAST_REFUSER[15:12], RO, Table 17.10. -/
def HOP_PWR_STAT_LAST_REFUSER : Field := ⟨0x084, 12, 4, .ro, 0, false⟩
/-- HOP_PWR_STAT 11:8 LAST_WAKE[11:8], RO, Table 17.10. -/
def HOP_PWR_STAT_LAST_WAKE : Field := ⟨0x084, 8, 4, .ro, 0, false⟩
/-- HOP_PWR_STAT 3 PAD_HELD[3], RO, Table 17.10. -/
def HOP_PWR_STAT_PAD_HELD : Field := ⟨0x084, 3, 1, .ro, 0, false⟩
/-- HOP_PWR_STAT 2:0 STATE[2:0], RO, Table 17.10. -/
def HOP_PWR_STAT_STATE : Field := ⟨0x084, 0, 3, .ro, 0, false⟩
/-- HOP_PWR_CNT 31:16 ABORTS[31:16], RO, Table 17.10. -/
def HOP_PWR_CNT_ABORTS : Field := ⟨0x088, 16, 16, .ro, 0, false⟩
/-- HOP_PWR_CNT 15:0 REFUSALS[15:0], RO, Table 17.10. -/
def HOP_PWR_CNT_REFUSALS : Field := ⟨0x088, 0, 16, .ro, 0, false⟩
/-- PAGE_STICKY 2 ENTRY_ABORT[2], W1C, Table 17.10. -/
def HOP_STICKY_ENTRY_ABORT : Field := ⟨0x018, 2, 1, .w1c, 0, false⟩
/-- PAGE_STICKY 1 RX_OVERRUN[1], W1C, Table 17.10. -/
def HOP_STICKY_RX_OVERRUN : Field := ⟨0x018, 1, 1, .w1c, 0, false⟩
/-- PAGE_STICKY 0 CFG_REFUSED[0], W1C, Table 17.10. -/
def HOP_STICKY_CFG_REFUSED : Field := ⟨0x018, 0, 1, .w1c, 0, false⟩

/-! ### TS -/

/-- HOP_TS_STAT 25:16 HIGH[25:16], RO, Table 13.13. -/
def HOP_TS_STAT_HIGH : Field := ⟨0x080, 16, 10, .ro, 0, false⟩
/-- HOP_TS_STAT 9:0 LEVEL[9:0], RO, Table 13.13. -/
def HOP_TS_STAT_LEVEL : Field := ⟨0x080, 0, 10, .ro, 0, false⟩
/-- HOP_TS_CTRL 0 HIGH_CLR[0], WO, Table 13.13. -/
def HOP_TS_CTRL_HIGH_CLR : Field := ⟨0x084, 0, 1, .wo, 0, false⟩
/-- PAGE_STICKY 0 TSF_OVF[0], W1C, Table 13.13. -/
def TS_STICKY_TSF_OVF : Field := ⟨0x018, 0, 1, .w1c, 0, false⟩

/-! ### LAN -/

/-- LAN_MODE 15 PRECODE_RX[15], RWS, Table 4.7. -/
def LAN_MODE_PRECODE_RX : Field := ⟨0x080, 15, 1, .rws, 0, false⟩
/-- LAN_MODE 14 PRECODE_TX[14], RWS, Table 4.7. -/
def LAN_MODE_PRECODE_TX : Field := ⟨0x080, 14, 1, .rws, 0, false⟩
/-- LAN_MODE 12 TRAIN_EN[12], RWS, Table 4.7. -/
def LAN_MODE_TRAIN_EN : Field := ⟨0x080, 12, 1, .rws, 0, false⟩
/-- LAN_MODE 9:8 MEDIUM[9:8], RWS, Table 4.7. -/
def LAN_MODE_MEDIUM : Field := ⟨0x080, 8, 2, .rws, 0, false⟩
/-- LAN_MODE 5:4 CODING[5:4], RWS, Table 4.7. -/
def LAN_MODE_CODING : Field := ⟨0x080, 4, 2, .rws, 0, false⟩
/-- LAN_MODE 3:0 RATE[3:0], RWS, Table 4.7. -/
def LAN_MODE_RATE : Field := ⟨0x080, 0, 4, .rws, 0, false⟩
/-- LAN_MAP 15 USE_FUSE[15], RWS, Table 4.7. -/
def LAN_MAP_USE_FUSE : Field := ⟨0x084, 15, 1, .rws, 1, false⟩
/-- LAN_MAP 10:8 RX_SRC[10:8], RWS, Table 4.7. -/
def LAN_MAP_RX_SRC : Field := ⟨0x084, 8, 3, .rws, 0, false⟩
/-- LAN_MAP 6:4 TX_SRC[6:4], RWS, Table 4.7. -/
def LAN_MAP_TX_SRC : Field := ⟨0x084, 4, 3, .rws, 0, false⟩
/-- LAN_MAP 1 RX_INV[1], RWS, Table 4.7. -/
def LAN_MAP_RX_INV : Field := ⟨0x084, 1, 1, .rws, 0, false⟩
/-- LAN_MAP 0 TX_INV[0], RWS, Table 4.7. -/
def LAN_MAP_TX_INV : Field := ⟨0x084, 0, 1, .rws, 0, false⟩
/-- LAN_TX_EQ 31:24 PRE2[31:24], RWS, Table 4.7. -/
def LAN_TX_EQ_PRE2 : Field := ⟨0x088, 24, 8, .rws, 0, false⟩
/-- LAN_TX_EQ 23:16 PRE1[23:16], RWS, Table 4.7. -/
def LAN_TX_EQ_PRE1 : Field := ⟨0x088, 16, 8, .rws, 248, false⟩
/-- LAN_TX_EQ 15:8 MAIN[15:8], RWS, Table 4.7. -/
def LAN_TX_EQ_MAIN : Field := ⟨0x088, 8, 8, .rws, 48, false⟩
/-- LAN_TX_EQ 7:0 POST1[7:0], RWS, Table 4.7. -/
def LAN_TX_EQ_POST1 : Field := ⟨0x088, 0, 8, .rws, 248, false⟩
/-- LAN_TX_EQ_CUR 31:0 As LAN_TX_EQ, RO, Table 4.7. -/
def LAN_TX_EQ_CUR_TAPS : Field := ⟨0x08c, 0, 32, .ro, 0, false⟩
/-- LAN_RX_CTRL 15:12 CTLE_PRESET[15:12], RWS, Table 4.7. -/
def LAN_RX_CTRL_CTLE_PRESET : Field := ⟨0x090, 12, 4, .rws, 8, false⟩
/-- LAN_RX_CTRL 11:8 SD_THRESH[11:8], RWS, Table 4.7. -/
def LAN_RX_CTRL_SD_THRESH : Field := ⟨0x090, 8, 4, .rws, 6, false⟩
/-- LAN_RX_CTRL 1:0 ADAPT[1:0], RWS, Table 4.7. -/
def LAN_RX_CTRL_ADAPT : Field := ⟨0x090, 0, 2, .rws, 0, false⟩
/-- LAN_POWER 23:16 IDLE_100NS[23:16], RWS, Table 4.7. -/
def LAN_POWER_IDLE_100NS : Field := ⟨0x094, 16, 8, .rws, 20, false⟩
/-- LAN_POWER 11:8 BURST[11:8], RWS, Table 4.7. -/
def LAN_POWER_BURST : Field := ⟨0x094, 8, 4, .rws, 7, false⟩
/-- LAN_POWER 1:0 LPM[1:0], RWS, Table 4.7. -/
def LAN_POWER_LPM : Field := ⟨0x094, 0, 2, .rws, 0, false⟩
/-- LAN_PAT_CTRL 21:20 LOOPBACK[21:20], RWS, Table 4.7. -/
def LAN_PAT_CTRL_LOOPBACK : Field := ⟨0x098, 20, 2, .rws, 0, false⟩
/-- LAN_PAT_CTRL 17 EVT_CLR[17], WO, Table 4.7. -/
def LAN_PAT_CTRL_EVT_CLR : Field := ⟨0x098, 17, 1, .wo, 0, false⟩
/-- LAN_PAT_CTRL 16 CHK_CLR[16], WO, Table 4.7. -/
def LAN_PAT_CTRL_CHK_CLR : Field := ⟨0x098, 16, 1, .wo, 0, false⟩
/-- LAN_PAT_CTRL 11:8 CHK_PAT[11:8], RW, Table 4.7. -/
def LAN_PAT_CTRL_CHK_PAT : Field := ⟨0x098, 8, 4, .rw, 0, false⟩
/-- LAN_PAT_CTRL 7:4 GEN_PAT[7:4], RWS, Table 4.7. -/
def LAN_PAT_CTRL_GEN_PAT : Field := ⟨0x098, 4, 4, .rws, 0, false⟩
/-- LAN_PAT_CTRL 1 CHK_EN[1], RW, Table 4.7. -/
def LAN_PAT_CTRL_CHK_EN : Field := ⟨0x098, 1, 1, .rw, 0, false⟩
/-- LAN_PAT_CTRL 0 GEN_EN[0], RWS, Table 4.7. -/
def LAN_PAT_CTRL_GEN_EN : Field := ⟨0x098, 0, 1, .rws, 0, false⟩
/-- LAN_PAT_USER_LO 31:0 USER[31:0], RWS, Table 4.7. -/
def LAN_PAT_USER_LO_USER : Field := ⟨0x09c, 0, 32, .rws, 0, false⟩
/-- LAN_PAT_USER_HI 31:0 USER[63:32], RWS, Table 4.7. -/
def LAN_PAT_USER_HI_USER : Field := ⟨0x0a0, 0, 32, .rws, 0, false⟩
/-- LAN_INJECT 31 INJ_ONE[31], WO, Table 4.7. -/
def LAN_INJECT_INJ_ONE : Field := ⟨0x0a4, 31, 1, .wo, 0, false⟩
/-- LAN_INJECT 9:8 TARGET[9:8], RWS, Table 4.7. -/
def LAN_INJECT_TARGET : Field := ⟨0x0a4, 8, 2, .rws, 0, false⟩
/-- LAN_INJECT 4:0 INJ_RATE[4:0], RWS, Table 4.7. -/
def LAN_INJECT_INJ_RATE : Field := ⟨0x0a4, 0, 5, .rws, 0, false⟩
/-- LAN_CHK_BITS_LO 31:0 BITS[31:0], RO, Table 4.7. -/
def LAN_CHK_BITS_BITS : Field := ⟨0x0a8, 0, 48, .ro, 0, false⟩
/-- LAN_CHK_ERR_LO 31:0 ERRS[31:0], RO, Table 4.7. -/
def LAN_CHK_ERR_ERRS : Field := ⟨0x0b0, 0, 48, .ro, 0, false⟩
/-- LAN_LATENCY 31:16 RX_LAT[31:16], RO, Table 4.7. -/
def LAN_LATENCY_RX_LAT : Field := ⟨0x0b8, 16, 16, .ro, 0, false⟩
/-- LAN_LATENCY 15:0 TX_LAT[15:0], RO, Table 4.7. -/
def LAN_LATENCY_TX_LAT : Field := ⟨0x0b8, 0, 16, .ro, 0, false⟩
/-- LAN_STUFF_COUNT 31:0 STUFFED[31:0], RO, Table 4.7. -/
def LAN_STUFF_COUNT_STUFFED : Field := ⟨0x0bc, 0, 32, .ro, 0, false⟩
/-- LAN_EVENT_COUNT 31:24 STUFF_VIOL[31:24], RO, Table 4.7. -/
def LAN_EVENT_COUNT_STUFF_VIOL : Field := ⟨0x0c0, 24, 8, .ro, 0, false⟩
/-- LAN_EVENT_COUNT 23:16 BURST_FAIL[23:16], RO, Table 4.7. -/
def LAN_EVENT_COUNT_BURST_FAIL : Field := ⟨0x0c0, 16, 8, .ro, 0, false⟩
/-- LAN_EVENT_COUNT 15:8 UNLOCK[15:8], RO, Table 4.7. -/
def LAN_EVENT_COUNT_UNLOCK : Field := ⟨0x0c0, 8, 8, .ro, 0, false⟩
/-- LAN_EVENT_COUNT 7:0 LOS[7:0], RO, Table 4.7. -/
def LAN_EVENT_COUNT_LOS : Field := ⟨0x0c0, 0, 8, .ro, 0, false⟩
/-- PAGE_STATUS 16 EFF_RX_INV[16], RO, Table 4.8. -/
def LAN_STATUS_EFF_RX_INV : Field := ⟨0x014, 16, 1, .ro, 0, false⟩
/-- PAGE_STATUS 15 EFF_TX_INV[15], RO, Table 4.8. -/
def LAN_STATUS_EFF_TX_INV : Field := ⟨0x014, 15, 1, .ro, 0, false⟩
/-- PAGE_STATUS 14:12 PHYS_RX[14:12], RO, Table 4.8. -/
def LAN_STATUS_PHYS_RX : Field := ⟨0x014, 12, 3, .ro, 0, false⟩
/-- PAGE_STATUS 10:8 PHYS_TX[10:8], RO, Table 4.8. -/
def LAN_STATUS_PHYS_TX : Field := ⟨0x014, 8, 3, .ro, 0, false⟩
/-- PAGE_STATUS 7:6 LPM_STATE[7:6], RO, Table 4.8. -/
def LAN_STATUS_LPM_STATE : Field := ⟨0x014, 6, 2, .ro, 2, false⟩
/-- PAGE_STATUS 5:4 TRAIN_STATE[5:4], RO, Table 4.8. -/
def LAN_STATUS_TRAIN_STATE : Field := ⟨0x014, 4, 2, .ro, 0, false⟩
/-- PAGE_STATUS 3 CHK_SYNC[3], RO, Table 4.8. -/
def LAN_STATUS_CHK_SYNC : Field := ⟨0x014, 3, 1, .ro, 0, false⟩
/-- PAGE_STATUS 2 ADAPT_DONE[2], RO, Table 4.8. -/
def LAN_STATUS_ADAPT_DONE : Field := ⟨0x014, 2, 1, .ro, 0, false⟩
/-- PAGE_STATUS 1 CDR_LOCK[1], RO, Table 4.8. -/
def LAN_STATUS_CDR_LOCK : Field := ⟨0x014, 1, 1, .ro, 0, false⟩
/-- PAGE_STATUS 0 SIGNAL[0], RO, Table 4.8. -/
def LAN_STATUS_SIGNAL : Field := ⟨0x014, 0, 1, .ro, 0, false⟩
/-- PAGE_STICKY 8 EQ_LIMIT[8], W1C, Table 4.8. -/
def LAN_STICKY_EQ_LIMIT : Field := ⟨0x018, 8, 1, .w1c, 0, false⟩
/-- PAGE_STICKY 7 CFG_REFUSED[7], W1C, Table 4.8. -/
def LAN_STICKY_CFG_REFUSED : Field := ⟨0x018, 7, 1, .w1c, 0, false⟩
/-- PAGE_STICKY 6 CHK_SYNC_LOST[6], W1C, Table 4.8. -/
def LAN_STICKY_CHK_SYNC_LOST : Field := ⟨0x018, 6, 1, .w1c, 0, false⟩
/-- PAGE_STICKY 5 STUFF_STALL[5], W1C, Table 4.8. -/
def LAN_STICKY_STUFF_STALL : Field := ⟨0x018, 5, 1, .w1c, 0, false⟩
/-- PAGE_STICKY 4 STUFF_VIOL[4], W1C, Table 4.8. -/
def LAN_STICKY_STUFF_VIOL : Field := ⟨0x018, 4, 1, .w1c, 0, false⟩
/-- PAGE_STICKY 3 BURST_FAIL[3], W1C, Table 4.8. -/
def LAN_STICKY_BURST_FAIL : Field := ⟨0x018, 3, 1, .w1c, 0, false⟩
/-- PAGE_STICKY 2 TRAIN_FAIL[2], W1C, Table 4.8. -/
def LAN_STICKY_TRAIN_FAIL : Field := ⟨0x018, 2, 1, .w1c, 0, false⟩
/-- PAGE_STICKY 1 CDR_UNLOCK[1], W1C, Table 4.8. -/
def LAN_STICKY_CDR_UNLOCK : Field := ⟨0x018, 1, 1, .w1c, 0, false⟩
/-- PAGE_STICKY 0 LOS[0], W1C, Table 4.8. -/
def LAN_STICKY_LOS : Field := ⟨0x018, 0, 1, .w1c, 0, false⟩

/-! ### MAC -/

/-- MAC_PORT_CFG 12 LINKDN_ACT[12], RWS, Table 5.6. -/
def MAC_PORT_CFG_LINKDN_ACT : Field := ⟨0x080, 12, 1, .rws, 1, false⟩
/-- MAC_PORT_CFG 10:8 FEC[10:8], RWS, Table 5.6. -/
def MAC_PORT_CFG_FEC : Field := ⟨0x080, 8, 3, .rws, 0, false⟩
/-- MAC_PORT_CFG 7:4 SPEED[7:4], RWS, Table 5.6. -/
def MAC_PORT_CFG_SPEED : Field := ⟨0x080, 4, 4, .rws, 0, false⟩
/-- MAC_PORT_CFG 2:1 WIDTH[2:1], RWS, Table 5.6. -/
def MAC_PORT_CFG_WIDTH : Field := ⟨0x080, 1, 2, .rws, 0, false⟩
/-- MAC_PORT_CFG 0 ENABLE[0], RWS, Table 5.6. -/
def MAC_PORT_CFG_ENABLE : Field := ⟨0x080, 0, 1, .rws, 0, false⟩
/-- MAC_FRAME_CFG 17:16 OVS_ACT[17:16], RWS, Table 5.6. -/
def MAC_FRAME_CFG_OVS_ACT : Field := ⟨0x084, 16, 2, .rws, 0, false⟩
/-- MAC_FRAME_CFG 14:0 MAX_LEN[14:0], RWS, Table 5.6. -/
def MAC_FRAME_CFG_MAX_LEN : Field := ⟨0x084, 0, 15, .rws, 1522, false⟩
/-- MAC_PAUSE_CFG 31:16 TX_QUANTA[31:16], RWS, Table 5.6. -/
def MAC_PAUSE_CFG_TX_QUANTA : Field := ⟨0x088, 16, 16, .rws, 65535, false⟩
/-- MAC_PAUSE_CFG 15:8 RX_CLASS_EN[15:8], RWS, Table 5.6. -/
def MAC_PAUSE_CFG_RX_CLASS_EN : Field := ⟨0x088, 8, 8, .rws, 255, false⟩
/-- MAC_PAUSE_CFG 2 TX_GEN[2], RWS, Table 5.6. -/
def MAC_PAUSE_CFG_TX_GEN : Field := ⟨0x088, 2, 1, .rws, 0, false⟩
/-- MAC_PAUSE_CFG 1:0 MODE[1:0], RWS, Table 5.6. -/
def MAC_PAUSE_CFG_MODE : Field := ⟨0x088, 0, 2, .rws, 0, false⟩
/-- MAC_PAUSE_WD 31:16 IGN_US[31:16], RWS, Table 5.6. -/
def MAC_PAUSE_WD_IGN_US : Field := ⟨0x08c, 16, 16, .rws, 0, false⟩
/-- MAC_PAUSE_WD 15:0 WD_US[15:0], RWS, Table 5.6. -/
def MAC_PAUSE_WD_WD_US : Field := ⟨0x08c, 0, 16, .rws, 0, false⟩
/-- MAC_PAUSE_SA_LO 31:0 SA[31:0], RWS, Table 5.6. -/
def MAC_PAUSE_SA_LO_SA : Field := ⟨0x090, 0, 32, .rws, 0, false⟩
/-- MAC_PAUSE_SA_HI 15:0 SA[47:32], RWS, Table 5.6. -/
def MAC_PAUSE_SA_HI_SA : Field := ⟨0x094, 0, 16, .rws, 0, false⟩
/-- MAC_WAKE_CFG 31:16 WAKE_ETYPE[31:16], RWS, Table 5.6. -/
def MAC_WAKE_CFG_WAKE_ETYPE : Field := ⟨0x098, 16, 16, .rws, 0, false⟩
/-- MAC_WAKE_CFG 3 ANY_EN[3], RWS, Table 5.6. -/
def MAC_WAKE_CFG_ANY_EN : Field := ⟨0x098, 3, 1, .rws, 0, false⟩
/-- MAC_WAKE_CFG 2 DA_EN[2], RWS, Table 5.6. -/
def MAC_WAKE_CFG_DA_EN : Field := ⟨0x098, 2, 1, .rws, 0, false⟩
/-- MAC_WAKE_CFG 1 MAGIC_EN[1], RWS, Table 5.6. -/
def MAC_WAKE_CFG_MAGIC_EN : Field := ⟨0x098, 1, 1, .rws, 0, false⟩
/-- MAC_WAKE_CFG 0 WAKE_EN[0], RWS, Table 5.6. -/
def MAC_WAKE_CFG_WAKE_EN : Field := ⟨0x098, 0, 1, .rws, 0, false⟩
/-- MAC_WAKE_DA_LO 31:0 DA[31:0], RWS, Table 5.6. -/
def MAC_WAKE_DA_LO_DA : Field := ⟨0x09c, 0, 32, .rws, 0, false⟩
/-- MAC_WAKE_DA_HI 15:0 DA[47:32], RWS, Table 5.6. -/
def MAC_WAKE_DA_HI_DA : Field := ⟨0x0a0, 0, 16, .rws, 0, false⟩
/-- MAC_WAKE_STAT 1:0 LAST_KIND[1:0], RO, Table 5.6. -/
def MAC_WAKE_STAT_LAST_KIND : Field := ⟨0x0a4, 0, 2, .ro, 0, false⟩
/-- PAGE_STATUS 23:16 WD_IGNORE[23:16], RO, Table 5.7. -/
def MAC_STATUS_WD_IGNORE : Field := ⟨0x014, 16, 8, .ro, 0, false⟩
/-- PAGE_STATUS 15:8 TX_HELD[15:8], RO, Table 5.7. -/
def MAC_STATUS_TX_HELD : Field := ⟨0x014, 8, 8, .ro, 0, false⟩
/-- PAGE_STATUS 4 HI_BER[4], RO, Table 5.7. -/
def MAC_STATUS_HI_BER : Field := ⟨0x014, 4, 1, .ro, 0, false⟩
/-- PAGE_STATUS 3 RFAULT[3], RO, Table 5.7. -/
def MAC_STATUS_RFAULT : Field := ⟨0x014, 3, 1, .ro, 0, false⟩
/-- PAGE_STATUS 2 FEC_LOCK[2], RO, Table 5.7. -/
def MAC_STATUS_FEC_LOCK : Field := ⟨0x014, 2, 1, .ro, 0, false⟩
/-- PAGE_STATUS 1 PCS_LOCK[1], RO, Table 5.7. -/
def MAC_STATUS_PCS_LOCK : Field := ⟨0x014, 1, 1, .ro, 0, false⟩
/-- PAGE_STATUS 0 LINK_UP[0], RO, Table 5.7. -/
def MAC_STATUS_LINK_UP : Field := ⟨0x014, 0, 1, .ro, 0, false⟩
/-- PAGE_STICKY 8 WAKE[8], W1C, Table 5.7. -/
def MAC_STICKY_WAKE : Field := ⟨0x018, 8, 1, .w1c, 0, false⟩
/-- PAGE_STICKY 7 TX_FLUSHED[7], W1C, Table 5.7. -/
def MAC_STICKY_TX_FLUSHED : Field := ⟨0x018, 7, 1, .w1c, 0, false⟩
/-- PAGE_STICKY 6 OVERSIZE[6], W1C, Table 5.7. -/
def MAC_STICKY_OVERSIZE : Field := ⟨0x018, 6, 1, .w1c, 0, false⟩
/-- PAGE_STICKY 5 PAUSE_WD[5], W1C, Table 5.7. -/
def MAC_STICKY_PAUSE_WD : Field := ⟨0x018, 5, 1, .w1c, 0, false⟩
/-- PAGE_STICKY 4 HI_BER[4], W1C, Table 5.7. -/
def MAC_STICKY_HI_BER : Field := ⟨0x018, 4, 1, .w1c, 0, false⟩
/-- PAGE_STICKY 3 FEC_UNLOCK[3], W1C, Table 5.7. -/
def MAC_STICKY_FEC_UNLOCK : Field := ⟨0x018, 3, 1, .w1c, 0, false⟩
/-- PAGE_STICKY 2 LINK_DOWN[2], W1C, Table 5.7. -/
def MAC_STICKY_LINK_DOWN : Field := ⟨0x018, 2, 1, .w1c, 0, false⟩
/-- PAGE_STICKY 1 RFAULT[1], W1C, Table 5.7. -/
def MAC_STICKY_RFAULT : Field := ⟨0x018, 1, 1, .w1c, 0, false⟩
/-- PAGE_STICKY 0 CFG_REFUSED[0], W1C, Table 5.7. -/
def MAC_STICKY_CFG_REFUSED : Field := ⟨0x018, 0, 1, .w1c, 0, false⟩
/-- MAC_ALD_CFG 17 PAIR[17], RWS, Table 14.10. -/
def MAC_ALD_CFG_PAIR : Field := ⟨0x0c0, 17, 1, .rws, 0, false⟩
/-- MAC_ALD_CFG 16 TREE_EN[16], RWS, Table 14.10. -/
def MAC_ALD_CFG_TREE_EN : Field := ⟨0x0c0, 16, 1, .rws, 1, false⟩
/-- MAC_ALD_CFG 15:0 ASYM[15:0], RWS, Table 14.10. -/
def MAC_ALD_CFG_ASYM : Field := ⟨0x0c0, 0, 16, .rws, 0, false⟩
/-- MAC_ALD_STAT 23:16 LAG[23:16], RO, Table 14.10. -/
def MAC_ALD_STAT_LAG : Field := ⟨0x0c4, 16, 8, .ro, 0, false⟩
/-- MAC_ALD_STAT 2:0 LSTATE[2:0], RO, Table 14.10. -/
def MAC_ALD_STAT_LSTATE : Field := ⟨0x0c4, 0, 3, .ro, 0, false⟩
/-- MAC_ALD_DELAY 31:0 DELAY[31:0], RO, Table 14.10. -/
def MAC_ALD_DELAY_DELAY : Field := ⟨0x0c8, 0, 32, .ro, 0, false⟩
/-- MAC_ALD_PEER 31 VALID[31], RO, Table 14.10. -/
def MAC_ALD_PEER_VALID : Field := ⟨0x0cc, 31, 1, .ro, 0, false⟩
/-- MAC_ALD_PEER 25:16 MEMBER[25:16], RO, Table 14.10. -/
def MAC_ALD_PEER_MEMBER : Field := ⟨0x0cc, 16, 10, .ro, 0, false⟩
/-- MAC_ALD_PEER 10:0 PORT[10:0], RO, Table 14.10. -/
def MAC_ALD_PEER_PORT : Field := ⟨0x0cc, 0, 11, .ro, 0, false⟩
/-- PAGE_STICKY 14 SYSID_MISMATCH[14], W1C, Table 14.10. -/
def MAC_STICKY_SYSID_MISMATCH : Field := ⟨0x018, 14, 1, .w1c, 0, false⟩
/-- PAGE_STICKY 13 LOOP_DROP[13], W1C, Table 14.10. -/
def MAC_STICKY_LOOP_DROP : Field := ⟨0x018, 13, 1, .w1c, 0, false⟩
/-- PAGE_STICKY 12 HOP_DROP[12], W1C, Table 14.10. -/
def MAC_STICKY_HOP_DROP : Field := ⟨0x018, 12, 1, .w1c, 0, false⟩
/-- PAGE_STICKY 11 DELAY_JUMP[11], W1C, Table 14.10. -/
def MAC_STICKY_DELAY_JUMP : Field := ⟨0x018, 11, 1, .w1c, 0, false⟩
/-- PAGE_STICKY 10 PEER_CHANGED[10], W1C, Table 14.10. -/
def MAC_STICKY_PEER_CHANGED : Field := ⟨0x018, 10, 1, .w1c, 0, false⟩
/-- PAGE_STICKY 9 HCRC_ERR[9], W1C, Table 14.10. -/
def MAC_STICKY_HCRC_ERR : Field := ⟨0x018, 9, 1, .w1c, 0, false⟩

/-! ### PRK -/

/-- PRK_CTRL 2 CSUM_CHK[2], RWS, Table 6.8. -/
def PRK_CTRL_CSUM_CHK : Field := ⟨0x080, 2, 1, .rws, 1, false⟩
/-- PRK_CTRL 1 MPLS_CW[1], RWS, Table 6.8. -/
def PRK_CTRL_MPLS_CW : Field := ⟨0x080, 1, 1, .rws, 0, false⟩
/-- PRK_CTRL 0 INSP_EN[0], RWS, Table 6.8. -/
def PRK_CTRL_INSP_EN : Field := ⟨0x080, 0, 1, .rws, 1, false⟩
/-- PRK_TPID 31:16 TPID2[31:16], RWS, Table 6.8. -/
def PRK_TPID_TPID2 : Field := ⟨0x084, 16, 16, .rws, 34984, false⟩
/-- PRK_TPID 15:0 TPID1[15:0], RWS, Table 6.8. -/
def PRK_TPID_TPID1 : Field := ⟨0x084, 0, 16, .rws, 33024, false⟩
/-- PRK_UDP_PORT 31:16 VXLAN_PORT[31:16], RWS, Table 6.8. -/
def PRK_UDP_PORT_VXLAN_PORT : Field := ⟨0x088, 16, 16, .rws, 4789, false⟩
/-- PRK_UDP_PORT 15:0 C37_UDP[15:0], RWS, Table 6.8. -/
def PRK_UDP_PORT_C37_UDP : Field := ⟨0x088, 0, 16, .rws, 4713, false⟩
/-- PRK_TCP_PORT 15:0 C37_TCP[15:0], RWS, Table 6.8. -/
def PRK_TCP_PORT_C37_TCP : Field := ⟨0x08c, 0, 16, .rws, 4712, false⟩
/-- PRK_INSP_RATE 19:16 RATE_100G[19:16], RWS, Table 6.8. -/
def PRK_INSP_RATE_RATE_100G : Field := ⟨0x090, 16, 4, .rws, 8, false⟩
/-- PRK_INSP_RATE 6:0 BURST_KIB[6:0], RWS, Table 6.8. -/
def PRK_INSP_RATE_BURST_KIB : Field := ⟨0x090, 0, 7, .rws, 64, false⟩
/-- PRK_CREDIT 16:0 CREDIT[16:0], RO, Table 6.8. -/
def PRK_CREDIT_CREDIT : Field := ⟨0x094, 0, 17, .ro, 65536, false⟩
/-- PAGE_STATUS 16 SYNC_BUSY[16], RO, Table 6.9. -/
def PRK_STATUS_SYNC_BUSY : Field := ⟨0x014, 16, 1, .ro, 0, false⟩
/-- PAGE_STATUS 14:0 PAT_COUNT[14:0], RO, Table 6.9. -/
def PRK_STATUS_PAT_COUNT : Field := ⟨0x014, 0, 15, .ro, 0, false⟩
/-- PAGE_STICKY 4 TIME_ERR[4], W1C, Table 6.9. -/
def PRK_STICKY_TIME_ERR : Field := ⟨0x018, 4, 1, .w1c, 0, false⟩
/-- PAGE_STICKY 3 PAT_UNCORR[3], W1C, Table 6.9. -/
def PRK_STICKY_PAT_UNCORR : Field := ⟨0x018, 3, 1, .w1c, 0, false⟩
/-- PAGE_STICKY 2 HIT_OVF[2], W1C, Table 6.9. -/
def PRK_STICKY_HIT_OVF : Field := ⟨0x018, 2, 1, .w1c, 0, false⟩
/-- PAGE_STICKY 1 INSP_SKIP[1], W1C, Table 6.9. -/
def PRK_STICKY_INSP_SKIP : Field := ⟨0x018, 1, 1, .w1c, 0, false⟩
/-- PAGE_STICKY 0 CFG_REFUSED[0], W1C, Table 6.9. -/
def PRK_STICKY_CFG_REFUSED : Field := ⟨0x018, 0, 1, .w1c, 0, false⟩

/-! ### SKN -/

/-- SKN_CTRL 27:24 PEND_LIMIT[27:24], RWS, Table 9.11. -/
def SKN_CTRL_PEND_LIMIT : Field := ⟨0x080, 24, 4, .rws, 4, false⟩
/-- SKN_CTRL 23:16 WB_PASSES[23:16], RWS, Table 9.11. -/
def SKN_CTRL_WB_PASSES : Field := ⟨0x080, 16, 8, .rws, 1, false⟩
/-- SKN_CTRL 11:8 SWEEP_LOG[11:8], RWS, Table 9.11. -/
def SKN_CTRL_SWEEP_LOG : Field := ⟨0x080, 8, 4, .rws, 6, false⟩
/-- SKN_CTRL 1 SWEEP_EN[1], RWS, Table 9.11. -/
def SKN_CTRL_SWEEP_EN : Field := ⟨0x080, 1, 1, .rws, 1, false⟩
/-- SKN_CTRL 0 EN[0], RWS, Table 9.11. -/
def SKN_CTRL_EN : Field := ⟨0x080, 0, 1, .rws, 1, false⟩
/-- SKN_SEED_LO 31:0 SEED[31:0], RWS, Table 9.11. -/
def SKN_SEED_LO_SEED : Field := ⟨0x084, 0, 32, .rws, 4294967295, false⟩
/-- SKN_SEED_HI 31:0 SEED[63:32], RWS, Table 9.11. -/
def SKN_SEED_HI_SEED : Field := ⟨0x088, 0, 32, .rws, 4294967295, false⟩
/-- SKN_CMD 31 GO[31], WO, Table 9.11. -/
def SKN_CMD_GO : Field := ⟨0x08c, 31, 1, .wo, 0, false⟩
/-- SKN_CMD 2:0 OP[2:0], RW, Table 9.11. -/
def SKN_CMD_OP : Field := ⟨0x08c, 0, 3, .rw, 0, false⟩
/-- SKN_CMD_DIG_LO 31:0 DIG[31:0], RW, Table 9.11. -/
def SKN_CMD_DIG_LO_DIG : Field := ⟨0x090, 0, 32, .rw, 0, false⟩
/-- SKN_CMD_DIG_HI 31:0 DIG[63:32], RW, Table 9.11. -/
def SKN_CMD_DIG_HI_DIG : Field := ⟨0x094, 0, 32, .rw, 0, false⟩
/-- SKN_CMD_ARG 31:26 PROFILE[31:26], RW, Table 9.11. -/
def SKN_CMD_ARG_PROFILE : Field := ⟨0x098, 26, 6, .rw, 0, false⟩
/-- SKN_CMD_ARG 25:0 INDEX[25:0], RW, Table 9.11. -/
def SKN_CMD_ARG_INDEX : Field := ⟨0x098, 0, 26, .rw, 0, false⟩
/-- SKN_CMD_MASK 7:0 MASK[7:0], RW, Table 9.11. -/
def SKN_CMD_MASK_MASK : Field := ⟨0x09c, 0, 8, .rw, 0, false⟩
/-- SKN_CMD_STAT 31 BUSY[31], RO, Table 9.11. -/
def SKN_CMD_STAT_BUSY : Field := ⟨0x0a0, 31, 1, .ro, 0, false⟩
/-- SKN_CMD_STAT 30:28 RESULT[30:28], RO, Table 9.11. -/
def SKN_CMD_STAT_RESULT : Field := ⟨0x0a0, 28, 3, .ro, 0, false⟩
/-- SKN_CMD_STAT 27:26 WHERE[27:26], RO, Table 9.11. -/
def SKN_CMD_STAT_WHERE : Field := ⟨0x0a0, 26, 2, .ro, 0, false⟩
/-- SKN_CMD_STAT 25:0 LOC[25:0], RO, Table 9.11. -/
def SKN_CMD_STAT_LOC : Field := ⟨0x0a0, 0, 26, .ro, 0, false⟩
/-- SKN_CTX_USED 31:16 PENDING[31:16], RO, Table 9.11. -/
def SKN_CTX_USED_PENDING : Field := ⟨0x0a4, 16, 16, .ro, 0, false⟩
/-- SKN_CTX_USED 15:0 ACTIVE[15:0], RO, Table 9.11. -/
def SKN_CTX_USED_ACTIVE : Field := ⟨0x0a4, 0, 16, .ro, 0, false⟩
/-- SKN_OVERLAY 10:0 STAGED[10:0], RO, Table 9.11. -/
def SKN_OVERLAY_STAGED : Field := ⟨0x0a8, 0, 11, .ro, 0, false⟩
/-- SKN_ERR_LOC 31 VALID[31], RO, Table 9.11. -/
def SKN_ERR_LOC_VALID : Field := ⟨0x0ac, 31, 1, .ro, 0, false⟩
/-- SKN_ERR_LOC 16 SPACE[16], RO, Table 9.11. -/
def SKN_ERR_LOC_SPACE : Field := ⟨0x0ac, 16, 1, .ro, 0, false⟩
/-- SKN_ERR_LOC 15:0 LOC[15:0], RO, Table 9.11. -/
def SKN_ERR_LOC_LOC : Field := ⟨0x0ac, 0, 16, .ro, 0, false⟩
/-- PAGE_STATUS 0 OVL_BUSY[0], RO, Table 9.12. -/
def SKN_STATUS_OVL_BUSY : Field := ⟨0x014, 0, 1, .ro, 0, false⟩
/-- PAGE_STICKY 8 UPD_LOST[8], W1C, Table 9.12. -/
def SKN_STICKY_UPD_LOST : Field := ⟨0x018, 8, 1, .w1c, 0, false⟩
/-- PAGE_STICKY 7 SWEEP_DEFER[7], W1C, Table 9.12. -/
def SKN_STICKY_SWEEP_DEFER : Field := ⟨0x018, 7, 1, .w1c, 0, false⟩
/-- PAGE_STICKY 6 CTX_UNCORR[6], W1C, Table 9.12. -/
def SKN_STICKY_CTX_UNCORR : Field := ⟨0x018, 6, 1, .w1c, 0, false⟩
/-- PAGE_STICKY 5 INSTALL_STALE[5], W1C, Table 9.12. -/
def SKN_STICKY_INSTALL_STALE : Field := ⟨0x018, 5, 1, .w1c, 0, false⟩
/-- PAGE_STICKY 4 PEND_TIMEOUT[4], W1C, Table 9.12. -/
def SKN_STICKY_PEND_TIMEOUT : Field := ⟨0x018, 4, 1, .w1c, 0, false⟩
/-- PAGE_STICKY 3 NO_WAY[3], W1C, Table 9.12. -/
def SKN_STICKY_NO_WAY : Field := ⟨0x018, 3, 1, .w1c, 0, false⟩
/-- PAGE_STICKY 2 EVQ_FULL[2], W1C, Table 9.12. -/
def SKN_STICKY_EVQ_FULL : Field := ⟨0x018, 2, 1, .w1c, 0, false⟩
/-- PAGE_STICKY 1 CMD_REFUSED[1], W1C, Table 9.12. -/
def SKN_STICKY_CMD_REFUSED : Field := ⟨0x018, 1, 1, .w1c, 0, false⟩
/-- PAGE_STICKY 0 CFG_REFUSED[0], W1C, Table 9.12. -/
def SKN_STICKY_CFG_REFUSED : Field := ⟨0x018, 0, 1, .w1c, 0, false⟩

/-! ### BOB -/

/-- BOB_CTRL 8 STITCH_EN[8], RWS, Table 10.13. -/
def BOB_CTRL_STITCH_EN : Field := ⟨0x080, 8, 1, .rws, 0, false⟩
/-- BOB_CTRL 7:0 STITCH_HANDLER[7:0], RWS, Table 10.13. -/
def BOB_CTRL_STITCH_HANDLER : Field := ⟨0x080, 0, 8, .rws, 0, false⟩
/-- BOB_BUDGET 31:28 WORK_STITCHES[31:28], RWS, Table 10.13. -/
def BOB_BUDGET_WORK_STITCHES : Field := ⟨0x084, 28, 4, .rws, 0, false⟩
/-- BOB_BUDGET 19:0 BUDGET[19:0], RWS, Table 10.13. -/
def BOB_BUDGET_BUDGET : Field := ⟨0x084, 0, 20, .rws, 1024, false⟩
/-- BOB_THREAD_STAT 31:24 TOK_OUT[31:24], RO, Table 10.13. -/
def BOB_THREAD_STAT_TOK_OUT : Field := ⟨0x088, 24, 8, .ro, 0, false⟩
/-- BOB_THREAD_STAT 4t+3:4t STATE_t, RO, Table 10.13. -/
def BOB_THREAD_STAT_STATE (t : Nat) : Field := ⟨0x088, 4 * t, 4, .ro, 0, false⟩
/-- BOB_QUEUE_STAT 23:16 HELD[23:16], RO, Table 10.13. -/
def BOB_QUEUE_STAT_HELD : Field := ⟨0x08c, 16, 8, .ro, 0, false⟩
/-- BOB_QUEUE_STAT 14:8 FRMQ[14:8], RO, Table 10.13. -/
def BOB_QUEUE_STAT_FRMQ : Field := ⟨0x08c, 8, 7, .ro, 0, false⟩
/-- BOB_QUEUE_STAT 7:0 SKNQ[7:0], RO, Table 10.13. -/
def BOB_QUEUE_STAT_SKNQ : Field := ⟨0x08c, 0, 8, .ro, 0, false⟩
/-- BOB_FAULT_PC 31 VALID[31], RO, Table 10.13. -/
def BOB_FAULT_PC_VALID : Field := ⟨0x090, 31, 1, .ro, 0, false⟩
/-- BOB_FAULT_PC 17:16 THREAD[17:16], RO, Table 10.13. -/
def BOB_FAULT_PC_THREAD : Field := ⟨0x090, 16, 2, .ro, 0, false⟩
/-- BOB_FAULT_PC 15:0 PC[15:0], RO, Table 10.13. -/
def BOB_FAULT_PC_PC : Field := ⟨0x090, 0, 16, .ro, 0, false⟩
/-- BOB_FAULT_ADDR 31:0 ADDR[31:0], RO, Table 10.13. -/
def BOB_FAULT_ADDR_ADDR : Field := ⟨0x094, 0, 32, .ro, 0, false⟩
/-- BOB_PERF_CTRL 8 CLR[8], WO, Table 10.13. -/
def BOB_PERF_CTRL_CLR : Field := ⟨0x098, 8, 1, .wo, 0, false⟩
/-- BOB_PERF_CTRL 7:0 FREEZE[7:0], RW, Table 10.13. -/
def BOB_PERF_CTRL_FREEZE : Field := ⟨0x098, 0, 8, .rw, 0, false⟩
/-- BOB_PERF_SELn 15:12 TMASK[15:12], RW, Table 10.13. -/
def BOB_PERF_SEL_TMASK (n : Nat) : Field := ⟨0x0A0 + 4 * n, 12, 4, .rw, 15, false⟩
/-- BOB_PERF_SELn 8 MODE[8], RW, Table 10.13. -/
def BOB_PERF_SEL_MODE (n : Nat) : Field := ⟨0x0A0 + 4 * n, 8, 1, .rw, 0, false⟩
/-- BOB_PERF_SELn 5:0 EVENT[5:0], RW, Table 10.13. -/
def BOB_PERF_SEL_EVENT (n : Nat) : Field := ⟨0x0A0 + 4 * n, 0, 6, .rw, 0, false⟩
/-- BOB_PERFn_LO 31:0 COUNT[31:0], RO, Table 10.13. -/
def BOB_PERF_COUNT (n : Nat) : Field := ⟨0x0C0 + 8 * n, 0, 48, .ro, 0, false⟩
/-- PAGE_STATUS 0 STITCH_RUN[0], RO, Table 10.14. -/
def BOB_STATUS_STITCH_RUN : Field := ⟨0x014, 0, 1, .ro, 0, false⟩
/-- PAGE_STICKY 15:8 PERF_WRAP[15:8], W1C, Table 10.14. -/
def BOB_STICKY_PERF_WRAP : Field := ⟨0x018, 8, 8, .w1c, 0, false⟩
/-- PAGE_STICKY 6 FRMQ_FULL[6], W1C, Table 10.14. -/
def BOB_STICKY_FRMQ_FULL : Field := ⟨0x018, 6, 1, .w1c, 0, false⟩
/-- PAGE_STICKY 5 EVT_LOST[5], W1C, Table 10.14. -/
def BOB_STICKY_EVT_LOST : Field := ⟨0x018, 5, 1, .w1c, 0, false⟩
/-- PAGE_STICKY 4 PERF_DENIED[4], W1C, Table 10.14. -/
def BOB_STICKY_PERF_DENIED : Field := ⟨0x018, 4, 1, .w1c, 0, false⟩
/-- PAGE_STICKY 3 FRAME_UNDISPOSED[3], W1C, Table 10.14. -/
def BOB_STICKY_FRAME_UNDISPOSED : Field := ⟨0x018, 3, 1, .w1c, 0, false⟩
/-- PAGE_STICKY 2 HANDLER_INVALID[2], W1C, Table 10.14. -/
def BOB_STICKY_HANDLER_INVALID : Field := ⟨0x018, 2, 1, .w1c, 0, false⟩
/-- PAGE_STICKY 1 CFG_REFUSED[1], W1C, Table 10.14. -/
def BOB_STICKY_CFG_REFUSED : Field := ⟨0x018, 1, 1, .w1c, 0, false⟩
/-- PAGE_STICKY 0 OVERRUN[0], W1C, Table 10.14. -/
def BOB_STICKY_OVERRUN : Field := ⟨0x018, 0, 1, .w1c, 0, false⟩

/-! ### BOBH -/

/-- BOB_HOOP_CTRL 15:8 INIT_SEQ[15:8], RWS, Table 10.16. -/
def BOB_HOOP_CTRL_INIT_SEQ : Field := ⟨0x080, 8, 8, .rws, 0, false⟩
/-- BOB_HOOP_CTRL 7:0 INIT_HANDLER[7:0], RWS, Table 10.16. -/
def BOB_HOOP_CTRL_INIT_HANDLER : Field := ⟨0x080, 0, 8, .rws, 0, false⟩
/-- BOB_SEG_COUNT 22:16 RETIRE[22:16], RO, Table 10.16. -/
def BOB_SEG_COUNT_RETIRE : Field := ⟨0x084, 16, 7, .ro, 0, false⟩
/-- BOB_SEG_COUNT 14:8 STAGED[14:8], RO, Table 10.16. -/
def BOB_SEG_COUNT_STAGED : Field := ⟨0x084, 8, 7, .ro, 0, false⟩
/-- BOB_SEG_COUNT 6:0 LIVE[6:0], RO, Table 10.16. -/
def BOB_SEG_COUNT_LIVE : Field := ⟨0x084, 0, 7, .ro, 0, false⟩
/-- BOB_HOOP_ERR 31 VALID[31], RO, Table 10.16. -/
def BOB_HOOP_ERR_VALID : Field := ⟨0x088, 31, 1, .ro, 0, false⟩
/-- BOB_HOOP_ERR 30 SPACE[30], RO, Table 10.16. -/
def BOB_HOOP_ERR_SPACE : Field := ⟨0x088, 30, 1, .ro, 0, false⟩
/-- BOB_HOOP_ERR 15:0 LOC[15:0], RO, Table 10.16. -/
def BOB_HOOP_ERR_LOC : Field := ⟨0x088, 0, 16, .ro, 0, false⟩
/-- PAGE_STICKY 0 CFG_REFUSED, R340. -/
def BOBH_STICKY_CFG_REFUSED : Field := ⟨0x018, 0, 1, .w1c, 0, false⟩
/-- PAGE_STICKY 1 SEG_REFUSED, R340. -/
def BOBH_STICKY_SEG_REFUSED : Field := ⟨0x018, 1, 1, .w1c, 0, false⟩
/-- PAGE_STICKY 2 ISTORE_UNCORR, R340. -/
def BOBH_STICKY_ISTORE_UNCORR : Field := ⟨0x018, 2, 1, .w1c, 0, false⟩
/-- PAGE_STICKY 3 MAP_UNCORR, R340. -/
def BOBH_STICKY_MAP_UNCORR : Field := ⟨0x018, 3, 1, .w1c, 0, false⟩

/-! ### The fields of each kind of page -/

/-- The fields of the HDR pages. -/
def listHDR : List Field :=
  [PAGE_STICKY_MASK_MASK, PAGE_IRQ_EN_IRQ_EN, PAGE_COMMIT_COMMIT_GO, PAGE_COMMIT_COMMIT_CANCEL, PAGE_COMMIT_VIEW_ACTIVE, PAGE_COMMIT_AT_EN, PAGE_COMMIT_COMMIT_GROUP, PAGE_COMMIT_COMMIT_AT, PAGE_IND_ADDR_ADDR, PAGE_IND_CTRL_BUSY, PAGE_IND_CTRL_ERR, PAGE_IND_CTRL_SPACE, PAGE_IND_CTRL_STEP, PAGE_IND_CTRL_DIR, PAGE_FENCE_RELEASE, PAGE_FENCE_FENCE_REQ, PAGE_FENCE_FENCED, PAGE_FENCE_CAUSE_DETAIL, PAGE_FENCE_CAUSE_CAUSE, PAGE_VOTE_STAT_COUNT, PAGE_VOTE_STAT_COPY, PAGE_VOTE_STAT_OFFSET, PAGE_HDR_STICKY_PARITY, PAGE_HDR_STICKY_BAD_ACCESS, PAGE_HDR_STICKY_COMMIT_REFUSED] ++
  [PAGE_HDR_STICKY_XING_SAT, PAGE_HDR_STICKY_IND_ERROR, PAGE_HDR_STICKY_VOTE_LOST, PAGE_HDR_STICKY_VOTE_MISMATCH, PAGE_HDR_STICKY_OWNER_REFUSED, PAGE_CTRL_CNT_CLR]

/-- The fields of the GLB pages. -/
def listGLB : List Field :=
  [GLB_RESET_CAUSE_READY, GLB_RESET_CAUSE_SOFT_STATE, GLB_RESET_CAUSE_CAUSE, GLB_SOFT_RST_GO, GLB_SOFT_RST_AT_EN, GLB_SOFT_RST_AT, GLB_MOR_REQ_GO, GLB_MOR_REQ_OP, GLB_MOR_STAT_BUSY, GLB_MOR_STAT_RESULT, GLB_STICKY_ROLE_DENIED, GLB_STICKY_UNMAPPED, GLB_STICKY_FW_RESTART, GLB_STICKY_SOFT_LATE, GLB_STICKY_THERM_TRIP, GLB_STICKY_MOR_REFUSED, GLB_STICKY_BOOT_FALLBACK, GLB_STICKY_DEBUG_OPEN]

/-- The fields of the MOR pages. -/
def listMOR : List Field :=
  [MOR_BOOT_SVN, MOR_BOOT_REASON_A, MOR_BOOT_BOOT]

/-- The fields of the PWR pages. -/
def listPWR : List Field :=
  [PWR_LEVEL_STAT_BUSY, PWR_LEVEL_STAT_THROTTLE, PWR_CFG_TJ_HOT, PWR_CFG_AVS_TIMEOUT_US, PWR_D3_CTRL_PAD_RELEASE, PWR_D3_CTRL_WAKE_AT_EN, PWR_D3_CTRL_D3_ARM, PWR_WAKE_EN_EN, PWR_WAKE_EN_TIMER_EN, PWR_WAKE_SRC_SEEN, PWR_WAKE_SRC_SOURCE, PWR_WAKE_SRC_DETAIL, PWR_WAKE_AT_LO_AT, PWR_WAKE_AT_HI_AT, PWR_SMB_WAKE_ADDR1, PWR_SMB_WAKE_ADDR0, PWR_GPIO_WAKE_MASK, PWR_D3_STAT_REFUSER, PWR_D3_STAT_HOOP, PWR_D3_STAT_ABORTS, PWR_PAD_STAT_PAD_HELD, PWR_STICKY_D3_WAKE, PWR_STICKY_D3_ABORT, PWR_STICKY_TJ_HOT, PWR_STICKY_VDIFF_LIMIT] ++
  [PWR_STICKY_TDIFF_LIMIT, PWR_STICKY_AVS_FAIL, PWR_STICKY_CFG_REFUSED] ++
  (List.range 8).map PWR_LEVEL_REQ ++
  (List.range 8).map PWR_LEVEL_STAT_CUR

/-- The fields of the ERR pages. -/
def listERR : List Field :=
  [ERR_TOP_TOP, ERR_TOP_EN_EN, ERR_FATAL_VALID, ERR_FATAL_SLOT, ERR_DDR_SPARE_STATE, ERR_DDR_SPARE_CHANNEL, ERR_DDR_COPY_LINES, ERR_LOG_LEVEL_LEVEL, ERR_STICKY_NO_SPARE, ERR_STICKY_SPARE_USED, ERR_STICKY_LOG_OVF, ERR_STICKY_FATAL]

/-- The fields of the TOD pages. -/
def listTOD : List Field :=
  [SMP_TOD_CTRL_LATCH, SMP_TOD_CTRL_REACQ, SMP_TOD_CTRL_SWITCH_REQ, SMP_TOD_CTRL_AUTO_REVERT, SMP_TOD_CTRL_AUTO_SWITCH, SMP_TOD_CTRL_SRC_PREF, SMP_TOD_STAT_STATUS, SMP_LATCH_NS_QUARTER, SMP_LATCH_NS_NS, SMP_LATCH_SEC_SEC, SMP_LATCH_SEC_HI_LATCH_SEQ, SMP_SERVO_CFG_HOLD_TRACE_S, SMP_SERVO_CFG_SLEW_PPB, SMP_REVERT_PRIM_HOLD_S, SMP_FREQ_FREQ, SMP_UTC_FROM_SW, SMP_UTC_VALID, SMP_UTC_LEAP59, SMP_UTC_LEAP61, SMP_UTC_OFFSET, SMP_UTC_SW_OVR, SMP_UTC_SW_LEAP59, SMP_UTC_SW_LEAP61, SMP_UTC_SW_OFFSET, SMP_LAST_STEP_STEP] ++
  [SMP_STEP_SEQ_STEP_SEQ, SMP_LEDGER_LEDGER, SMP_FROZEN_TICKS, SMP_AON_PPB_PPB, TOD_STICKY_LEAP_APPLIED, TOD_STICKY_RESTORED_TIME, TOD_STICKY_TRACE_LOST, TOD_STICKY_HOLDOVER, TOD_STICKY_SWITCHED, TOD_STICKY_STEPPED, TOD_STICKY_LAST_CHANNEL, TOD_STICKY_CH_FENCED, TOD_STICKY_CFG_REFUSED]

/-- The fields of the STITCH pages. -/
def listSTITCH : List Field :=
  [SMP_STITCH_CTRL_SCHED_EN, SMP_STITCH_CTRL_SCHED_CLASS, SMP_STITCH_PERIOD_PERIOD_NS, SMP_PERIOD_REQ_REQ_GO, SMP_PERIOD_REQ_REQ_NS, SMP_PERIOD_STAT_REASON, SMP_PERIOD_STAT_STATE, SMP_SNAP_CTRL_SNAP_DIV, SMP_SNAP_STITCH_STITCH, SMP_SYS_LEAD_LEAD, SMP_CQF_OVR_OVR_COUNT, STITCH_STICKY_PERIOD_REFUSED, STITCH_STICKY_STITCH_REALIGN, STITCH_STICKY_COMMIT_LATE, STITCH_STICKY_CQF_OVERRUN, STITCH_STICKY_SYS_COMMIT_MISSED, STITCH_STICKY_STITCH_SKIPPED]

/-- The fields of the CH pages. -/
def listCH : List Field :=
  [SMP_CH_CFG_DIV_CNT, SMP_CH_CFG_DIV_THR, SMP_CH_STAT_REJOIN, SMP_CH_STAT_IN_VOTE, SMP_CH_STAT_CLK_OK, SMP_CH_STAT_OSC_MHZ, SMP_CH_OFFSET_OFFSET, SMP_CH_TRIM_TRIM, CH_STICKY_CLK_LOST, CH_STICKY_DIVERGED, CH_STICKY_CFG_REFUSED]

/-- The fields of the PTP pages. -/
def listPTP : List Field :=
  [SMP_PTP_CFG_EN, SMP_PTP_CFG_PROFILE, SMP_PTP_CFG_TRAP_CLASS, SMP_PTP_CFG_CLASS_MAX, SMP_PTP_CFG_DOMAIN_NUM, SMP_PTP_STAT_SLAVE_PORT, SMP_PTP_STAT_GM_CLASS, SMP_PTP_STAT_STATE, SMP_PTP_OFFSET_OFFSET, SMP_PTP_GM_GM, SMP_PTP_MPD_MPD, PTP_STICKY_GM_CHANGED, PTP_STICKY_LOCK_LOST, PTP_STICKY_CFG_REFUSED]

/-- The fields of the PULSE pages. -/
def listPULSE : List Field :=
  [PULSE_STATUS_LEVEL, PULSE_STICKY_CFG_REFUSED, PULSE_STICKY_LATE_ONESHOT]

/-- The fields of the CAP pages. -/
def listCAP : List Field :=
  [SMP_CAP_RISE_RISE, SMP_CAP_FALL_FALL, SMP_CAP_LEVEL_LEVEL, CAP_STICKY_CAP_LOST, CAP_STICKY_CAP_OVF]

/-- The fields of the ALD pages. -/
def listALD : List Field :=
  [ALD_CTRL_LEAVE_REQ, ALD_CTRL_SYNC_GROUP, ALD_CTRL_ACK_AUTO, ALD_CTRL_REVERT_EN, ALD_CTRL_MGR_PRIO, ALD_CTRL_EN, ALD_SYS_ID_SYS_ID, ALD_TIMERS_STATUS_DIV, ALD_TIMERS_ABSENT, ALD_TIMERS_PROBE_DIV, ALD_MGR_CFG_REVERT_S, ALD_MGR_CFG_MISS_TOL, ALD_STAT_MEMBER, ALD_STAT_DEPTH, ALD_STAT_MGR, ALD_STAT_MSTATE, ALD_TREE_LAG, ALD_TREE_MAXLAG, ALD_TREE_PARENT_PORT, ALD_MGRS_SB_VALID, ALD_MGRS_ACT_VALID, ALD_MGRS_STANDBY, ALD_MGRS_ACTIVE, ALD_SC_REQ_GO, ALD_SC_REQ_GROUPS] ++
  [ALD_SC_TARGET_LO_TARGET, ALD_SC_TARGET_HI_TARGET, ALD_SC_STAT_STATE, ALD_SC_STAT_REASON, ALD_SC_STAT_CID, ALD_SC_ACK_GO, ALD_SC_ACK_CID, ALD_CID_PEND, ALD_CID_LAST, ALD_STICKY_LAG_EXCEEDED, ALD_STICKY_MGR_CONFLICT, ALD_STICKY_SYNC_FAIL, ALD_STICKY_RESYNC, ALD_STICKY_SC_NOT_ARMED, ALD_STICKY_HANDOVER, ALD_STICKY_TAKEOVER, ALD_STICKY_MGR_LOST, ALD_STICKY_ISOLATED, ALD_STICKY_DEPTH_LIMIT, ALD_STICKY_JOIN_REFUSED, ALD_STICKY_CFG_REFUSED]

/-- The fields of the RED pages. -/
def listRED : List Field :=
  [ALD_RED_CTRL_EN, ALD_RED_CTRL_FORGET_MS, ALD_RED_USED_USED, RED_STICKY_WRONG_LAN, RED_STICKY_TABLE_FULL, RED_STICKY_CFG_REFUSED]

/-- The fields of the NDL pages. -/
def listNDL : List Field :=
  [NDL_CTRL_SD_FLUSH, NDL_PRI_STAT_OUTSTANDING, NDL_STICKY_RX_NOFIT, NDL_STICKY_RX_NOMAP, NDL_STICKY_SURPRISE_DOWN, NDL_STICKY_CFG_REFUSED]

/-- The fields of the NDLF pages. -/
def listNDLF : List Field :=
  [NDL_QP_ENABLE_LO_EN, NDL_QP_ENABLE_HI_EN, NDL_QP_ON_ON, NDL_FN_FAULT_VALID, NDL_FN_FAULT_DIR, NDL_FN_FAULT_QP, NDL_FN_FAULT_INDEX, NDL_FN_FAULT_ADDR_ADDR, NDL_FN_PRI_PARKED, NDL_FN_PRI_OUTSTANDING, NDLF_STICKY_RING_WAIT, NDLF_STICKY_PARKED, NDLF_STICKY_TS_LOST, NDLF_STICKY_CFG_REFUSED]

/-- The fields of the FLSC pages. -/
def listFLSC : List Field :=
  [FLS_STORE_USED_USED, FLSC_STICKY_CFG_REFUSED]

/-- The fields of the FLSF pages. -/
def listFLSF : List Field :=
  [FLS_FREE_WORD, FLSF_STICKY_SHARE_WAIT, FLSF_STICKY_POOL_EMPTY, FLSF_STICKY_FREE_OVER] ++
  (List.range 8).map FLS_HELD_HELD

/-- The fields of the DDR pages. -/
def listDDR : List Field :=
  [DDR_ERR_CFG_CE_LIMIT, DDR_ERR_CFG_UE_LIMIT, DDR_ERR_STAT_CE_SEC, DDR_ERR_STAT_UE_COUNT, DDR_ERR_ADDR_ADDR, DDR_ERR_PART_PARTIAL, DDR_STATUS_COPYING, DDR_STATUS_REMAPPED, DDR_STICKY_CE_HIGH, DDR_STICKY_UNCORR]

/-- The fields of the RSX pages. -/
def listRSX : List Field :=
  [RSX_CTRL_RECLAIM_EN, RSX_CTRL_AUDIT_EN, RSX_CTRL_CT_EN, RSX_AUDIT_CFG_AUDIT_DIV, RSX_QE_CFG_QE_XON, RSX_QE_CFG_QE_XOFF, RSX_SHARED_SIZE_SIZE, RSX_SHARED_USED_USED, RSX_FREE_CELLS_FREE, RSX_FREE_QE_FREE, RSX_AUDIT_STAT_RUNNING, RSX_AUDIT_STAT_LAST_FOUND, RSX_AUDIT_DONE_STITCH, RSX_ERR_LOC_VALID, RSX_ERR_LOC_SPACE, RSX_ERR_LOC_LOC, RSX_STATUS_QE_HOLD, RSX_STATUS_AUDIT_RUN, RSX_STICKY_RETIRE_FULL, RSX_STICKY_GROUP_INVALID, RSX_STICKY_DESC_UNCORR, RSX_STICKY_CELL_UNCORR, RSX_STICKY_AUDIT_LOG_OVF, RSX_STICKY_AUDIT_LATE, RSX_STICKY_AUDIT_CROSS] ++
  [RSX_STICKY_AUDIT_REF, RSX_STICKY_AUDIT_RECLAIM, RSX_STICKY_QE_HOLD, RSX_STICKY_HDRM_DISCARD, RSX_STICKY_CFG_REFUSED]

/-- The fields of the MIR pages. -/
def listMIR : List Field :=
  [RSX_MIR_CTRL_MODE, RSX_MIR_CTRL_CLASS, RSX_MIR_CTRL_DEST, RSX_MIR_CTRL_TRUNC, RSX_MIR_QLIMIT_QLIMIT, RSX_MIR_DA_LO_DA, RSX_MIR_DA_HI_DA, RSX_MIR_SA_LO_SA, RSX_MIR_SA_HI_SA, RSX_MIR_VLAN_VLAN_EN, RSX_MIR_VLAN_TCI, RSX_MIR_IP_SRC_SRC, RSX_MIR_IP_DST_DST, RSX_MIR_IP_CFG_TTL, RSX_MIR_IP_CFG_DSCP, RSX_MIR_IP_CFG_GRE_PROTO, RSX_MIR_QLEN_QLEN, MIR_STICKY_CFG_REFUSED, MIR_STICKY_MIR_SKIP]

/-- The fields of the POL pages. -/
def listPOL : List Field :=
  [TMG_POL_VALID_COUNT, TMG_POL_ERR_LOC_VALID, TMG_POL_ERR_LOC_LOC, POL_STICKY_POL_UNCORR, POL_STICKY_CFG_REFUSED]

/-- The fields of the TMG pages. -/
def listTMG : List Field :=
  [TMG_PORT_CFG_PFC_GEN, TMG_PORT_CFG_CQF_DROP, TMG_PORT_CFG_GUARD_EN, TMG_PORT_CFG_GATE_EN, TMG_PORT_CFG_STRICT, TMG_PORT_CFG_OVERHEAD, TMG_SCHED_BUDGET_BUDGET, TMG_SHAPE_EN_SHAPE_EN, TMG_GL_BASE_LO_BASE, TMG_GL_BASE_HI_BASE, TMG_GL_CYCLE_CYCLE, TMG_GL_LEN_LEN, TMG_GL_STAT_STATE, TMG_GL_STAT_ENTRY, TMG_GL_START_START, TMG_STATUS_GL_SYNC, TMG_STATUS_CREDIT_NEG, TMG_STATUS_GATES, TMG_STICKY_CQF_EXCESS, TMG_STICKY_GATE_OVERRUN, TMG_STICKY_GATE_OVERSIZE, TMG_STICKY_LATE_START, TMG_STICKY_CFG_REFUSED] ++
  (List.range 8).map TMG_WEIGHT ++
  (List.range 8).map TMG_IDLE_SLOPE_SLOPE ++
  (List.range 8).map TMG_CRED_MAX_CRED_MAX

/-- The fields of the PNL pages. -/
def listPNL : List Field :=
  [PNL_D2D_STAT_TRAINED, PNL_D2D_STAT_TRAINING, PNL_D2D_STAT_MAX_RUN, PNL_D2D_STAT_SKEW, PNL_D2D_TRAINS_TRAINS, PNL_STICKY_DESKEW_LIMIT, PNL_STICKY_RETRAINED, PNL_STICKY_REPLAY]

/-- The fields of the CLS pages. -/
def listCLS : List Field :=
  [CLS_DEFAULT_DEF_DISP, CLS_DEFAULT_CLASS_FROM_PCP, CLS_DEFAULT_DEF_CLASS, CLS_DEFAULT_DEF_PROFILE, CLS_DEFAULT_DEF_TARGET, CLS_BLK_LIVE_LIVE, CLS_BLK_STAGED_STAGED, CLS_BLK_RETIRE_RETIRE, CLS_FAULT_TREE, CLS_FAULT_REASON, CLS_FAULT_LOC, CLS_STATUS_TREES_ON, CLS_STICKY_CNT_UNCORR, CLS_STICKY_RULE_UNCORR, CLS_STICKY_TREE_FAULT, CLS_STICKY_RULE_REFUSED, CLS_STICKY_CFG_REFUSED] ++
  (List.range 4).map CLS_TREE_EN ++
  (List.range 4).map CLS_TREE_VIEW ++
  (List.range 4).map CLS_TREE_ROOT

/-- The fields of the FIL pages. -/
def listFIL : List Field :=
  [FIL_CTRL_MOVE_LIMIT, FIL_CTRL_DA_HIT, FIL_CTRL_AGE_EN, FIL_CTRL_LEARN_EN, FIL_HASH_SEED_SEED, FIL_AGE_AGE_DIV, FIL_AGE_AGE_STEP, FIL_CMD_GO, FIL_CMD_OP, FIL_CMD_KEY_LO_KEY, FIL_CMD_KEY_HI_KEY, FIL_CMD_DATA_DK, FIL_CMD_DATA_DEST, FIL_CMD_ARG_CLS_SEL, FIL_CMD_ARG_PORT_EN, FIL_CMD_ARG_VID_EN, FIL_CMD_ARG_VID, FIL_CMD_ARG_PORT, FIL_CMD_STAT_BUSY, FIL_CMD_STAT_RESULT, FIL_CMD_STAT_LOC, FIL_WALK_POS_POS, FIL_COUNT_USER_USER, FIL_COUNT_DATA_DATA, FIL_STAGED_STAGED] ++
  [FIL_ERR_LOC_VALID, FIL_ERR_LOC_LOC, FIL_STATUS_CLEANUP, FIL_STATUS_OVF_USED, FIL_STICKY_LEARN_LATE, FIL_STICKY_ECC_UNCORR, FIL_STICKY_LEARN_DROP, FIL_STICKY_OVF_FULL, FIL_STICKY_MOVE_LOCK, FIL_STICKY_INSERT_FAIL, FIL_STICKY_CMD_REFUSED, FIL_STICKY_CFG_REFUSED] ++
  (List.range 4).map FIL_CMD_OUT_WORDn

/-- The fields of the HOP pages. -/
def listHOP : List Field :=
  [HOP_PWR_CTRL_WAKE_REQ, HOP_PWR_CTRL_H2_REQ, HOP_PWR_CTRL_PAD_RELEASE, HOP_PWR_CTRL_H2_EN, HOP_PWR_CTRL_H2_IDLE_MS, HOP_PWR_CTRL_IDLE_US, HOP_PWR_STAT_LAST_REFUSER, HOP_PWR_STAT_LAST_WAKE, HOP_PWR_STAT_PAD_HELD, HOP_PWR_STAT_STATE, HOP_PWR_CNT_ABORTS, HOP_PWR_CNT_REFUSALS, HOP_STICKY_ENTRY_ABORT, HOP_STICKY_RX_OVERRUN, HOP_STICKY_CFG_REFUSED]

/-- The fields of the TS pages. -/
def listTS : List Field :=
  [HOP_TS_STAT_HIGH, HOP_TS_STAT_LEVEL, HOP_TS_CTRL_HIGH_CLR, TS_STICKY_TSF_OVF]

/-- The fields of the LAN pages. -/
def listLAN : List Field :=
  [LAN_MODE_PRECODE_RX, LAN_MODE_PRECODE_TX, LAN_MODE_TRAIN_EN, LAN_MODE_MEDIUM, LAN_MODE_CODING, LAN_MODE_RATE, LAN_MAP_USE_FUSE, LAN_MAP_RX_SRC, LAN_MAP_TX_SRC, LAN_MAP_RX_INV, LAN_MAP_TX_INV, LAN_TX_EQ_PRE2, LAN_TX_EQ_PRE1, LAN_TX_EQ_MAIN, LAN_TX_EQ_POST1, LAN_TX_EQ_CUR_TAPS, LAN_RX_CTRL_CTLE_PRESET, LAN_RX_CTRL_SD_THRESH, LAN_RX_CTRL_ADAPT, LAN_POWER_IDLE_100NS, LAN_POWER_BURST, LAN_POWER_LPM, LAN_PAT_CTRL_LOOPBACK, LAN_PAT_CTRL_EVT_CLR, LAN_PAT_CTRL_CHK_CLR] ++
  [LAN_PAT_CTRL_CHK_PAT, LAN_PAT_CTRL_GEN_PAT, LAN_PAT_CTRL_CHK_EN, LAN_PAT_CTRL_GEN_EN, LAN_PAT_USER_LO_USER, LAN_PAT_USER_HI_USER, LAN_INJECT_INJ_ONE, LAN_INJECT_TARGET, LAN_INJECT_INJ_RATE, LAN_CHK_BITS_BITS, LAN_CHK_ERR_ERRS, LAN_LATENCY_RX_LAT, LAN_LATENCY_TX_LAT, LAN_STUFF_COUNT_STUFFED, LAN_EVENT_COUNT_STUFF_VIOL, LAN_EVENT_COUNT_BURST_FAIL, LAN_EVENT_COUNT_UNLOCK, LAN_EVENT_COUNT_LOS, LAN_STATUS_EFF_RX_INV, LAN_STATUS_EFF_TX_INV, LAN_STATUS_PHYS_RX, LAN_STATUS_PHYS_TX, LAN_STATUS_LPM_STATE, LAN_STATUS_TRAIN_STATE, LAN_STATUS_CHK_SYNC] ++
  [LAN_STATUS_ADAPT_DONE, LAN_STATUS_CDR_LOCK, LAN_STATUS_SIGNAL, LAN_STICKY_EQ_LIMIT, LAN_STICKY_CFG_REFUSED, LAN_STICKY_CHK_SYNC_LOST, LAN_STICKY_STUFF_STALL, LAN_STICKY_STUFF_VIOL, LAN_STICKY_BURST_FAIL, LAN_STICKY_TRAIN_FAIL, LAN_STICKY_CDR_UNLOCK, LAN_STICKY_LOS]

/-- The fields of the MAC pages. -/
def listMAC : List Field :=
  [MAC_PORT_CFG_LINKDN_ACT, MAC_PORT_CFG_FEC, MAC_PORT_CFG_SPEED, MAC_PORT_CFG_WIDTH, MAC_PORT_CFG_ENABLE, MAC_FRAME_CFG_OVS_ACT, MAC_FRAME_CFG_MAX_LEN, MAC_PAUSE_CFG_TX_QUANTA, MAC_PAUSE_CFG_RX_CLASS_EN, MAC_PAUSE_CFG_TX_GEN, MAC_PAUSE_CFG_MODE, MAC_PAUSE_WD_IGN_US, MAC_PAUSE_WD_WD_US, MAC_PAUSE_SA_LO_SA, MAC_PAUSE_SA_HI_SA, MAC_WAKE_CFG_WAKE_ETYPE, MAC_WAKE_CFG_ANY_EN, MAC_WAKE_CFG_DA_EN, MAC_WAKE_CFG_MAGIC_EN, MAC_WAKE_CFG_WAKE_EN, MAC_WAKE_DA_LO_DA, MAC_WAKE_DA_HI_DA, MAC_WAKE_STAT_LAST_KIND, MAC_STATUS_WD_IGNORE, MAC_STATUS_TX_HELD] ++
  [MAC_STATUS_HI_BER, MAC_STATUS_RFAULT, MAC_STATUS_FEC_LOCK, MAC_STATUS_PCS_LOCK, MAC_STATUS_LINK_UP, MAC_STICKY_WAKE, MAC_STICKY_TX_FLUSHED, MAC_STICKY_OVERSIZE, MAC_STICKY_PAUSE_WD, MAC_STICKY_HI_BER, MAC_STICKY_FEC_UNLOCK, MAC_STICKY_LINK_DOWN, MAC_STICKY_RFAULT, MAC_STICKY_CFG_REFUSED, MAC_ALD_CFG_PAIR, MAC_ALD_CFG_TREE_EN, MAC_ALD_CFG_ASYM, MAC_ALD_STAT_LAG, MAC_ALD_STAT_LSTATE, MAC_ALD_DELAY_DELAY, MAC_ALD_PEER_VALID, MAC_ALD_PEER_MEMBER, MAC_ALD_PEER_PORT, MAC_STICKY_SYSID_MISMATCH, MAC_STICKY_LOOP_DROP] ++
  [MAC_STICKY_HOP_DROP, MAC_STICKY_DELAY_JUMP, MAC_STICKY_PEER_CHANGED, MAC_STICKY_HCRC_ERR]

/-- The fields of the PRK pages. -/
def listPRK : List Field :=
  [PRK_CTRL_CSUM_CHK, PRK_CTRL_MPLS_CW, PRK_CTRL_INSP_EN, PRK_TPID_TPID2, PRK_TPID_TPID1, PRK_UDP_PORT_VXLAN_PORT, PRK_UDP_PORT_C37_UDP, PRK_TCP_PORT_C37_TCP, PRK_INSP_RATE_RATE_100G, PRK_INSP_RATE_BURST_KIB, PRK_CREDIT_CREDIT, PRK_STATUS_SYNC_BUSY, PRK_STATUS_PAT_COUNT, PRK_STICKY_TIME_ERR, PRK_STICKY_PAT_UNCORR, PRK_STICKY_HIT_OVF, PRK_STICKY_INSP_SKIP, PRK_STICKY_CFG_REFUSED]

/-- The fields of the SKN pages. -/
def listSKN : List Field :=
  [SKN_CTRL_PEND_LIMIT, SKN_CTRL_WB_PASSES, SKN_CTRL_SWEEP_LOG, SKN_CTRL_SWEEP_EN, SKN_CTRL_EN, SKN_SEED_LO_SEED, SKN_SEED_HI_SEED, SKN_CMD_GO, SKN_CMD_OP, SKN_CMD_DIG_LO_DIG, SKN_CMD_DIG_HI_DIG, SKN_CMD_ARG_PROFILE, SKN_CMD_ARG_INDEX, SKN_CMD_MASK_MASK, SKN_CMD_STAT_BUSY, SKN_CMD_STAT_RESULT, SKN_CMD_STAT_WHERE, SKN_CMD_STAT_LOC, SKN_CTX_USED_PENDING, SKN_CTX_USED_ACTIVE, SKN_OVERLAY_STAGED, SKN_ERR_LOC_VALID, SKN_ERR_LOC_SPACE, SKN_ERR_LOC_LOC, SKN_STATUS_OVL_BUSY] ++
  [SKN_STICKY_UPD_LOST, SKN_STICKY_SWEEP_DEFER, SKN_STICKY_CTX_UNCORR, SKN_STICKY_INSTALL_STALE, SKN_STICKY_PEND_TIMEOUT, SKN_STICKY_NO_WAY, SKN_STICKY_EVQ_FULL, SKN_STICKY_CMD_REFUSED, SKN_STICKY_CFG_REFUSED]

/-- The fields of the BOB pages. -/
def listBOB : List Field :=
  [BOB_CTRL_STITCH_EN, BOB_CTRL_STITCH_HANDLER, BOB_BUDGET_WORK_STITCHES, BOB_BUDGET_BUDGET, BOB_THREAD_STAT_TOK_OUT, BOB_QUEUE_STAT_HELD, BOB_QUEUE_STAT_FRMQ, BOB_QUEUE_STAT_SKNQ, BOB_FAULT_PC_VALID, BOB_FAULT_PC_THREAD, BOB_FAULT_PC_PC, BOB_FAULT_ADDR_ADDR, BOB_PERF_CTRL_CLR, BOB_PERF_CTRL_FREEZE, BOB_STATUS_STITCH_RUN, BOB_STICKY_PERF_WRAP, BOB_STICKY_FRMQ_FULL, BOB_STICKY_EVT_LOST, BOB_STICKY_PERF_DENIED, BOB_STICKY_FRAME_UNDISPOSED, BOB_STICKY_HANDLER_INVALID, BOB_STICKY_CFG_REFUSED, BOB_STICKY_OVERRUN] ++
  (List.range 4).map BOB_THREAD_STAT_STATE ++
  (List.range 8).map BOB_PERF_SEL_TMASK ++
  (List.range 8).map BOB_PERF_SEL_MODE ++
  (List.range 8).map BOB_PERF_SEL_EVENT ++
  (List.range 8).map BOB_PERF_COUNT

/-- The fields of the BOBH pages. -/
def listBOBH : List Field :=
  [BOB_HOOP_CTRL_INIT_SEQ, BOB_HOOP_CTRL_INIT_HANDLER, BOB_SEG_COUNT_RETIRE, BOB_SEG_COUNT_STAGED, BOB_SEG_COUNT_LIVE, BOB_HOOP_ERR_VALID, BOB_HOOP_ERR_SPACE, BOB_HOOP_ERR_LOC, BOBH_STICKY_CFG_REFUSED, BOBH_STICKY_SEG_REFUSED, BOBH_STICKY_ISTORE_UNCORR, BOBH_STICKY_MAP_UNCORR]

end Fld

end Sys2Proof.Machine
end

