-- ==== Sys2Proof/Machine/Pages.lean ====
section
/-! DEFINITION. The register pages of BAR0 (R82 to R88): which pages exist, where they lie, what their
headers say (R91, R92, R94) and which indirect spaces each has (R110). -/

namespace Sys2Proof.Machine

/-- A register page, by block and instance (Tables 3.2 to 3.5). -/
inductive Page where
  | glb
  | pil (i : Nat)
  | mor
  | pwr
  | err
  | tod
  | stitch
  | ch (i : Nat)
  | ptp (j : Nat)
  | pulse
  | cap
  | ald
  | red
  | ndl
  | ndlf (f : Nat)
  | flsc
  | flsf (f : Nat)
  | ddr (c : Nat)
  | rsx
  | mir (k : Nat)
  | pol
  | tmg (n : Nat)
  | pnl (p : Nat)
  | cls (p : Nat)
  | fil (p : Nat)
  | hop (h : Nat)
  | ts (h : Nat)
  | lan (l : Nat)
  | mac (n : Nat)
  | prk (h : Nat)
  | skn (h : Nat)
  | bob (b : Nat)
  | bobh (h : Nat)
  deriving DecidableEq, Repr

/-- Base of panel `p` (Table 3.2). -/
def panelBase (p : Nat) : Nat := 0x0200_0000 + p * 0x0020_0000

/-- Base of hoop `h` (Table 3.2). -/
def hoopBase (h : Nat) : Nat := 0x0400_0000 + h * 0x0020_0000

/-- The BAR0 address of a page (Tables 3.2 to 3.5 and the block chapters). The Floss page of a
virtual function lies only in its VF BAR0 (R511); the model numbers that page beyond BAR0. -/
def pageBase : Page → Nat
  | .glb => 0
  | .pil i => 0x1000 * i
  | .mor => 0x0001_0000
  | .pwr => 0x0002_0000
  | .err => 0x0003_0000
  | .tod => 0x0010_0000
  | .stitch => 0x0010_1000
  | .ch i => 0x0010_2000 + i * 0x1000
  | .ptp j => 0x0010_5000 + j * 0x1000
  | .pulse => 0x0010_7000
  | .cap => 0x0010_8000
  | .ald => 0x0020_0000
  | .red => 0x0020_1000
  | .ndl => 0x0030_0000
  | .ndlf f => 0x0031_0000 + f * 0x1000
  | .flsc => 0x0038_0000
  | .flsf f => if f = 0 then 0x0038_1000 else 0x1000_1000 + f * 0x1_0000
  | .ddr c => 0x0040_0000 + c * 0x1000
  | .rsx => 0x0100_0000
  | .mir k => 0x0110_0000 + k * 0x1000
  | .pol => 0x0120_0000
  | .tmg n => 0x0140_0000 + n * 0x1000
  | .pnl p => panelBase p
  | .cls p => panelBase p + 0x0001_0000
  | .fil p => panelBase p + 0x0002_0000
  | .hop h => hoopBase h
  | .ts h => hoopBase h + 0x1000
  | .lan l => hoopBase (l / 32) + 0x0001_0000 + l % 32 * 0x1000
  | .mac n => hoopBase (n / 32) + 0x0004_0000 + n % 32 * 0x1000
  | .prk h => hoopBase h + 0x0008_0000
  | .skn h => hoopBase h + 0x000A_0000
  | .bob b => hoopBase (b / 16) + 0x000C_0000 + b % 16 * 0x1000
  | .bobh h => hoopBase h + 0x000D_0000

/-- The page slot of a hoop region at byte offset `o` (Table 3.5). -/
def pageOfHoop (h o : Nat) : Option Page :=
  let q := o / 0x1000
  if q = 0 then some (.hop h)
  else if q = 1 then some (.ts h)
  else if 0x10 ≤ q ∧ q < 0x30 then some (.lan (32 * h + (q - 0x10)))
  else if 0x40 ≤ q ∧ q < 0x60 then some (.mac (32 * h + (q - 0x40)))
  else if q = 0x80 then some (.prk h)
  else if q = 0xA0 then some (.skn h)
  else if 0xC0 ≤ q ∧ q < 0xD0 then some (.bob (16 * h + (q - 0xC0)))
  else if q = 0xD0 then some (.bobh h)
  else none

/-- The page slot of a panel region at byte offset `o` (Table 3.4). -/
def pageOfPanel (p o : Nat) : Option Page :=
  let q := o / 0x1000
  if q = 0 then some (.pnl p)
  else if q = 0x10 then some (.cls p)
  else if q = 0x20 then some (.fil p)
  else none

/-- The page slot at page number `q` of the fixed regions below 0x0200_0000 (Table 3.3). DESIGN CHOICE: all seven PIL_ slots
are mapped and hold their header alone, for no chapter says which of them are used (R86). -/
def pageOfFixed (q : Nat) : Option Page :=
  if q = 0 then some .glb
  else if q < 0x10 then some (.pil q)
  else if q = 0x10 then some .mor
  else if q = 0x20 then some .pwr
  else if q = 0x30 then some .err
  else if q = 0x100 then some .tod
  else if q = 0x101 then some .stitch
  else if 0x102 ≤ q ∧ q < 0x105 then some (.ch (q - 0x102))
  else if 0x105 ≤ q ∧ q < 0x107 then some (.ptp (q - 0x105))
  else if q = 0x107 then some .pulse
  else if q = 0x108 then some .cap
  else if q = 0x200 then some .ald
  else if q = 0x201 then some .red
  else if q = 0x300 then some .ndl
  else if 0x310 ≤ q ∧ q < 0x350 then some (.ndlf (q - 0x310))
  else if q = 0x380 then some .flsc
  else if q = 0x381 then some (.flsf 0)
  else if 0x400 ≤ q ∧ q < 0x420 then some (.ddr (q - 0x400))
  else if q = 0x1000 then some .rsx
  else if 0x1100 ≤ q ∧ q < 0x1108 then some (.mir (q - 0x1100))
  else if q = 0x1200 then some .pol
  else if 0x1400 ≤ q ∧ q < 0x1820 then some (.tmg (q - 0x1400))
  else none

/-- The page that an address reaches, or none where the address is unmapped (R85, R86). The VF BAR0 of virtual
function f is numbered from 0x1000_0000 + 0x1_0000 * f (R82). Whether the debug pages are open (R561) is asked
of the state, not here. -/
def pageOf (a : Nat) : Option Page :=
  if a < 0x0200_0000 then pageOfFixed (a / 0x1000)
  else if a < 0x0300_0000 then
    pageOfPanel ((a - 0x0200_0000) / 0x0020_0000) ((a - 0x0200_0000) % 0x0020_0000)
  else if a < 0x0400_0000 then none
  else if a < 0x0800_0000 then
    pageOfHoop ((a - 0x0400_0000) / 0x0020_0000) ((a - 0x0400_0000) % 0x0020_0000)
  else if 0x1001_0000 ≤ a ∧ a < 0x1040_0000 then
    if a % 0x1_0000 / 0x1000 = 0 then some (.ndlf ((a - 0x1000_0000) / 0x1_0000))
    else if a % 0x1_0000 / 0x1000 = 1 then some (.flsf ((a - 0x1000_0000) / 0x1_0000))
    else none
  else none

/-- What a page's header says of it (R91, R94). -/
structure PageCaps where
  block : Nat
  inst : Nat
  page : Nat
  domain : Nat
  spaces : Nat
  hasShadow : Bool
  hasInd : Bool
  hasVote : Bool
  hasFence : Bool
  mgmt : Bool
  deriving DecidableEq, Repr

/-- The header values of each page, as its chapter gives them. The spec gives the Global page no
HAS_ bits beside IND_SPACES 1 (ch. 18) and gives the PIL_ pages no registers; both rows are the
model's reading. -/
def pageCaps : Page → PageCaps
  | .glb => ⟨0x01, 0, 0, 0, 1, false, true, false, false, false⟩
  | .pil i => ⟨0x02, 0, i, 0, 0, false, false, false, false, true⟩
  | .mor => ⟨0x04, 0, 0, 0, 1, false, true, false, false, true⟩
  | .pwr => ⟨0x05, 0, 0, 0, 3, true, true, false, false, false⟩
  | .err => ⟨0x15, 0, 0, 0, 4, false, true, false, false, false⟩
  | .tod => ⟨0x03, 0, 0, 0, 0, true, false, true, false, false⟩
  | .stitch => ⟨0x03, 0, 1, 0, 0, true, false, true, false, false⟩
  | .ch i => ⟨0x03, i, 2, 5 + i, 0, true, false, true, true, false⟩
  | .ptp j => ⟨0x03, j, 3, 0, 1, true, true, false, false, false⟩
  | .pulse => ⟨0x03, 0, 4, 0, 1, true, true, false, false, false⟩
  | .cap => ⟨0x03, 0, 5, 0, 2, true, true, false, false, false⟩
  | .ald => ⟨0x12, 0, 0, 0, 4, true, true, false, false, false⟩
  | .red => ⟨0x12, 0, 1, 1, 3, true, true, false, false, false⟩
  | .ndl => ⟨0x13, 0, 0, 0, 4, true, true, false, false, false⟩
  | .ndlf f => ⟨0x13, f, 1, 0, 4, false, true, false, true, false⟩
  | .flsc => ⟨0x14, 0, 0, 0, 3, true, true, false, false, false⟩
  | .flsf f => ⟨0x14, f, 1, 0, 1, false, true, false, false, false⟩
  | .ddr c => ⟨0x06, c, 0, 3, 0, true, false, false, true, false⟩
  | .rsx => ⟨0x10, 0, 0, 1, 7, true, true, false, false, false⟩
  | .mir k => ⟨0x10, k, 1, 1, 2, true, true, false, false, false⟩
  | .pol => ⟨0x11, 0, 0x80, 1, 6, true, true, false, false, false⟩
  | .tmg n => ⟨0x11, n, 0, 1, 3, true, true, false, false, false⟩
  | .pnl p => ⟨0x07, p, 0, 2, 2, false, true, false, false, false⟩
  | .cls p => ⟨0x0C, p, 0, 2, 8, true, true, false, false, false⟩
  | .fil p => ⟨0x0D, p, 0, 2, 5, true, true, false, false, false⟩
  | .hop h => ⟨0x08, h, 0, 2, 2, true, true, false, true, false⟩
  | .ts h => ⟨0x08, h, 1, 2, 3, true, true, false, false, false⟩
  | .lan l => ⟨0x09, l, 0, 8, 1, true, true, false, false, false⟩
  | .mac n => ⟨0x0A, n, 0, 2, 2, true, true, false, true, false⟩
  | .prk h => ⟨0x0B, h, 0, 2, 4, true, true, false, false, false⟩
  | .skn h => ⟨0x0E, h, 0, 2, 6, true, true, false, false, false⟩
  | .bob b => ⟨0x0F, b, 0, 2, 2, true, true, false, true, false⟩
  | .bobh h => ⟨0x0F, h, 1, 2, 6, true, true, false, false, false⟩

/-- The block-specific fields of a page. -/
def pageOwnFields : Page → List Field
  | .glb => Fld.listGLB
  | .pil _ => []
  | .mor => Fld.listMOR
  | .pwr => Fld.listPWR
  | .err => Fld.listERR
  | .tod => Fld.listTOD
  | .stitch => Fld.listSTITCH
  | .ch _ => Fld.listCH
  | .ptp _ => Fld.listPTP
  | .pulse => Fld.listPULSE
  | .cap => Fld.listCAP
  | .ald => Fld.listALD
  | .red => Fld.listRED
  | .ndl => Fld.listNDL
  | .ndlf _ => Fld.listNDLF
  | .flsc => Fld.listFLSC
  | .flsf _ => Fld.listFLSF
  | .ddr _ => Fld.listDDR
  | .rsx => Fld.listRSX
  | .mir _ => Fld.listMIR
  | .pol => Fld.listPOL
  | .tmg _ => Fld.listTMG
  | .pnl _ => Fld.listPNL
  | .cls _ => Fld.listCLS
  | .fil _ => Fld.listFIL
  | .hop _ => Fld.listHOP
  | .ts _ => Fld.listTS
  | .lan _ => Fld.listLAN
  | .mac _ => Fld.listMAC
  | .prk _ => Fld.listPRK
  | .skn _ => Fld.listSKN
  | .bob _ => Fld.listBOB
  | .bobh _ => Fld.listBOBH

/-- The header fields that the page's capabilities leave it: the rest behave as RSV (R94). -/
def hdrFieldHeld (c : PageCaps) (f : Field) : Bool :=
  if f.off = 0x028 then c.hasShadow
  else if f.off = 0x030 || f.off = 0x038 then c.hasInd
  else if f.off = 0x040 || f.off = 0x044 then c.hasFence
  else if f.off = 0x048 then c.hasVote
  else true

/-- Whether a page's chapter defines CNT_CLR, bit 0 of PAGE_CTRL; elsewhere the bit is reserved (R91). The pages of
ports 1048 to 1055 ignore every write. -/
def hasCntClr : Page → Bool
  | .pwr | .err | .ald | .red | .ndl | .rsx | .pol => true
  | .ndlf _ | .mir _ | .pnl _ | .cls _ | .fil _ | .hop _ | .ts _ | .mac _ | .prk _ | .skn _ | .bob _ => true
  | .tmg n => decide (n < 1048)
  | .glb | .pil _ | .mor | .tod | .stitch | .ch _ | .ptp _ | .pulse | .cap | .flsc | .flsf _ | .ddr _ | .lan _
  | .bobh _ => false

/-- The fields of a page: the header's, then the block's. -/
def pageFields (p : Page) : List Field :=
  Fld.listHDR.filter (fun f => hdrFieldHeld (pageCaps p) f && (f != Fld.PAGE_CTRL_CNT_CLR || hasCntClr p))
    ++ pageOwnFields p

/-- The fields of the register at byte offset `off` of a page. -/
def regFields (p : Page) (off : Nat) : List Field := (pageFields p).filter (fun f => f.off == off)

/-- The reset value of a field of a page: the table's, but for the fields whose reset value depends on
the instance (Tables 4.7, 4.8 and 13.10). -/
def fieldReset (p : Page) (f : Field) : Nat :=
  match p with
  | .lan l =>
    if f = Fld.LAN_MAP_RX_SRC ∨ f = Fld.LAN_MAP_TX_SRC ∨ f = Fld.LAN_STATUS_PHYS_RX
        ∨ f = Fld.LAN_STATUS_PHYS_TX then l % 8 else f.reset
  | .ptp j => if f = Fld.SMP_PTP_CFG_DOMAIN_NUM then 24 + j else f.reset
  | _ => f.reset

/-- The number under which a field of a page is stored: its bit address in BAR0. -/
def fieldKey (p : Page) (f : Field) : Nat := (pageBase p + f.off) * 32 + f.lo

/-- The base address of the page to which a field number belongs. -/
def keyBase (k : Nat) : Nat := k / 32 / 0x1000 * 0x1000

/-- What an indirect space holds: a plain table of words, the live or the snapshot counters, or data
that its block answers for. -/
inductive SpaceKind where
  | table
  | live
  | snap
  | own
  deriving DecidableEq, Repr

/-- An indirect space of a page (R110): entries, words per entry, what may be done with it. -/
structure Space where
  entries : Nat
  width : Nat
  readable : Bool
  writable : Bool
  shadowed : Bool
  fifo : Bool
  kind : SpaceKind
  deriving DecidableEq, Repr

/-- A read and write table whose writes are shadowed. -/
def spShadow (entries width : Nat) : Space := ⟨entries, width, true, true, true, false, .table⟩
/-- A read and write table that takes effect at once. -/
def spPlain (entries width : Nat) : Space := ⟨entries, width, true, true, false, false, .table⟩
/-- A read-only space answered by its block. -/
def spOwn (entries width : Nat) : Space := ⟨entries, width, true, false, false, false, .own⟩
/-- The live counters of a page, two words each. -/
def spLive (n : Nat) : Space := ⟨n, 2, true, false, false, false, .live⟩
/-- The snapshot of a page's counters. -/
def spSnap (n : Nat) : Space := ⟨n, 2, true, false, false, false, .snap⟩

/-- Space `n` of a page, by the page's chapter; none where the page has no such space. -/
def pageSpace (p : Page) (n : Nat) : Option Space :=
  match p, n with
  | .glb, 1 => some (spPlain 512 1)
  | .mor, 1 => some (spOwn 256 4)
  | .pwr, 1 => some (spOwn 10 2)
  | .pwr, 2 => some (spLive 6)
  | .pwr, 3 => some (spSnap 6)
  | .err, 1 => some (spOwn 1024 1)
  | .err, 2 => some ⟨256, 4, true, false, false, true, .own⟩
  | .err, 3 => some (spLive 10)
  | .err, 4 => some (spSnap 10)
  | .ptp _, 1 => some (spShadow 1024 1)
  | .pulse, 1 => some (spShadow 17 8)
  | .cap, 1 => some ⟨64, 4, true, false, false, true, .own⟩
  | .cap, 2 => some (spShadow 17 1)
  | .ald, 1 => some (spOwn 1024 4)
  | .ald, 2 => some ⟨16384, 4, false, true, false, true, .own⟩
  | .ald, 3 => some (spLive 15)
  | .ald, 4 => some (spSnap 15)
  | .red, 1 => some (spShadow 256 1)
  | .red, 2 => some (spLive 5)
  | .red, 3 => some (spSnap 5)
  | .ndl, 1 => some (spShadow 56 1)
  | .ndl, 2 => some (spShadow 64 1)
  | .ndl, 3 => some (spLive 7)
  | .ndl, 4 => some (spSnap 7)
  | .ndlf _, 1 => some ⟨64, 8, true, true, false, false, .own⟩
  | .ndlf _, 2 => some (spOwn 64 2)
  | .ndlf _, 3 => some (spLive 10)
  | .ndlf _, 4 => some (spSnap 10)
  | .flsc, 1 => some (spShadow 64 4)
  | .flsc, 2 => some (spShadow 64 1)
  | .flsc, 3 => some (spOwn 64 4)
  | .flsf _, 1 => some ⟨8, 4, true, true, false, false, .own⟩
  | .rsx, 1 => some (spShadow 8448 2)
  | .rsx, 2 => some (spOwn 8448 4)
  | .rsx, 3 => some (spShadow 16384 34)
  | .rsx, 4 => some (spOwn 8448 2)
  | .rsx, 5 => some (spLive 25)
  | .rsx, 6 => some (spSnap 25)
  | .rsx, 7 => some ⟨256, 2, true, false, false, true, .own⟩
  | .mir _, 1 => some (spLive 6)
  | .mir _, 2 => some (spSnap 6)
  | .pol, 1 => some (spShadow 262144 2)
  | .pol, 2 => some (spOwn 262144 2)
  | .pol, 3 => some ⟨262144, 8, true, false, false, false, .live⟩
  | .pol, 4 => some ⟨262144, 8, true, false, false, false, .snap⟩
  | .pol, 5 => some (spLive 4)
  | .pol, 6 => some (spSnap 4)
  | .tmg _, 1 => some (spShadow 256 1)
  | .tmg _, 2 => some (spLive 35)
  | .tmg _, 3 => some (spSnap 35)
  | .pnl _, 1 => some (spLive 6)
  | .pnl _, 2 => some (spSnap 6)
  | .cls _, 1 => some ⟨262144, 16, true, true, false, false, .own⟩
  | .cls _, 2 => some ⟨262144, 16, true, true, false, false, .own⟩
  | .cls _, 3 => some ⟨262144, 16, true, true, false, false, .own⟩
  | .cls _, 4 => some ⟨262144, 1, true, true, false, false, .own⟩
  | .cls _, 5 => some ⟨131072, 4, true, true, false, false, .live⟩
  | .cls _, 6 => some ⟨131072, 4, true, false, false, false, .snap⟩
  | .cls _, 7 => some (spLive 8)
  | .cls _, 8 => some (spSnap 8)
  | .fil _, 1 => some (spOwn 1056768 4)
  | .fil _, 2 => some (spShadow 136 1)
  | .fil _, 3 => some (spShadow 4096 2)
  | .fil _, 4 => some (spLive 23)
  | .fil _, 5 => some (spSnap 23)
  | .hop _, 1 => some (spLive 4)
  | .hop _, 2 => some (spSnap 4)
  | .ts _, 1 => some (spShadow 32 1)
  | .ts _, 2 => some (spLive 2)
  | .ts _, 3 => some (spSnap 2)
  | .lan _, 1 => some (spOwn 1 16)
  | .mac _, 1 => some (spLive 42)
  | .mac _, 2 => some (spSnap 42)
  | .prk _, 1 => some (spShadow 16384 20)
  | .prk _, 2 => some (spShadow 64 4)
  | .prk _, 3 => some (spLive 17)
  | .prk _, 4 => some (spSnap 17)
  | .skn _, 1 => some (spShadow 64 8)
  | .skn _, 2 => some (spShadow 256 33)
  | .skn _, 3 => some (spOwn 32768 36)
  | .skn _, 4 => some (spPlain 32 1)
  | .skn _, 5 => some (spLive 33)
  | .skn _, 6 => some (spSnap 33)
  | .bob _, 1 => some (spLive 17)
  | .bob _, 2 => some (spSnap 17)
  | .bobh _, 1 => some ⟨65536, 1, true, true, false, false, .own⟩
  | .bobh _, 2 => some ⟨64, 1, true, true, false, false, .own⟩
  | .bobh _, 3 => some (spShadow 256 1)
  | .bobh _, 4 => some (spShadow 16384 2)
  | .bobh _, 5 => some (spLive 6)
  | .bobh _, 6 => some (spSnap 6)
  | _, _ => none

/-- The number under which word `w` of space `n` of a page is stored. -/
def wordKey (p : Page) (n w : Nat) : Nat := (pageBase p + n) * 0x1_0000_0000 + w

/-- The base address of the page to which a word number belongs. -/
def wordBase (k : Nat) : Nat := k / 0x1_0000_0000 / 0x1000 * 0x1000

/-- The number under which counter `i` of a page is stored. -/
def cntKey (p : Page) (i : Nat) : Nat := pageBase p * 0x1_0000 + i

end Sys2Proof.Machine
end

