-- ==== Sys2Proof/Machine/Tab.lean ====
section
/-! DEFINITION. Sparse tables: what the block holds by number (a register field by its address, a
lane, a port, a cell, a record of DRAM) is a list of (number, value) pairs in one canonical form,
numbers strictly rising and no value equal to what an unlisted number reads as. -/

namespace Sys2Proof.Machine

/-- A sparse table of values of type `V`, keyed by numbers. -/
abbrev Tab (V : Type) := List (Nat × V)

/-- The value listed for `k`, if any. -/
def tabFind {V : Type} : Tab V → Nat → Option V
  | [], _ => none
  | e :: m, k => if e.1 = k then some e.2 else tabFind m k

/-- The table without any entry for `k`. -/
def tabErase {V : Type} : Tab V → Nat → Tab V
  | [], _ => []
  | e :: m, k => if e.1 = k then tabErase m k else e :: tabErase m k

/-- The table with `(k, v)` placed before the first larger number. -/
def tabInsert {V : Type} : Tab V → Nat → V → Tab V
  | [], k, v => [(k, v)]
  | e :: m, k, v => if k < e.1 then (k, v) :: e :: m else e :: tabInsert m k v

/-- What `k` reads as in a table whose unlisted numbers read as `d`. -/
def tabGet {V : Type} (m : Tab V) (d : V) (k : Nat) : V := (tabFind m k).getD d

/-- The table after `v` is written at `k`, where an unlisted `k` reads as `d`: writing `d` removes
the entry. -/
def tabPut {V : Type} [DecidableEq V] (m : Tab V) (d : V) (k : Nat) (v : V) : Tab V :=
  if v = d then tabErase m k else tabInsert (tabErase m k) k v

/-- The numbers rise strictly, all above the bound. -/
def tabRising {V : Type} : Option Nat → Tab V → Bool
  | _, [] => true
  | none, e :: m => tabRising (some e.1) m
  | some b, e :: m => decide (b < e.1) && tabRising (some e.1) m

/-- The canonical form: numbers strictly rising, no listed value equal to the default of its
number. -/
def tabWf {V : Type} [DecidableEq V] (d : Nat → V) (m : Tab V) : Bool :=
  tabRising none m && m.all (fun e => decide (e.2 ≠ d e.1))

/-- The entries whose number satisfies `p`. -/
def tabSel {V : Type} (p : Nat → Bool) (m : Tab V) : Tab V := m.filter (fun e => p e.1)

/-- The entries of `dst` outside `p` together with the entries of `src` inside `p`: everything that
`p` names now reads as it reads in `src`. -/
def tabMerge {V : Type} (p : Nat → Bool) (dst src : Tab V) : Tab V :=
  (tabSel p src).foldl (fun m e => tabInsert m e.1 e.2) (tabSel (fun k => !p k) dst)

/-- The table with every listed value whose number satisfies `p` put through `f`. -/
def tabMap {V : Type} [DecidableEq V] (p : Nat → Bool) (d : V) (f : V → V) (m : Tab V) : Tab V :=
  (m.map (fun e => if p e.1 then (e.1, f e.2) else e)).filter (fun e => decide (e.2 ≠ d))

/-- The numbers listed. -/
def tabKeys {V : Type} (m : Tab V) : List Nat := m.map (·.1)

end Sys2Proof.Machine
end

