-- ==== Sys2Proof/Machine/State.lean ====
section
/-! DEFINITION. The state of the block as plain data: every register, table, FIFO, buffer, counter, mode and
pin that the spec gives it, and the queue of waiting commands. Tables list only what differs from
what an unlisted number reads as (Tab.lean), so reset lists nothing. -/

namespace Sys2Proof.Machine

/-! ### Registers, commits, crossings (chapters 2 and 3) -/

/-- A pending request of a commit group: for the next boundary, or for a target stitch (R50, R53). -/
inductive CommitReq where
  | untargeted
  | targeted (stitch : Nat)
  deriving DecidableEq, Repr

/-- What the commit sequencer holds of one group (R97, R104). `state` is what PAGE_COMMIT_STAT.STATE of a
member shows; `seq` counts the times it was set, so that a page that joins the group late (R99) can
be told apart; `latched` is the request latched at the close for the coming boundary; `after` is the STATE that
follows it when no request is pending: 0, or 3 or 5 where a later request was late or cancelled. -/
structure GroupSt where
  req : Option CommitReq := none
  state : Nat := 0
  seq : Nat := 0
  applySeq : Nat := 0
  lastAt : Nat := 0
  latched : Option CommitReq := none
  after : Nat := 0
  deriving DecidableEq, Repr

/-- What a page remembers of the moment it joined its group (R99): the group's `seq` and `applySeq` then,
and its own LAST_AT. -/
structure PageGrp where
  seq : Nat := 0
  applySeq : Nat := 0
  lastAt : Nat := 0
  deriving DecidableEq, Repr

/-- One buffered write of an entry through an indirect pair (R113). -/
structure IndWrite where
  space : Nat
  entry : Nat
  words : List Nat
  deriving DecidableEq, Repr

/-- The indirect pair of a page beside its registers (R111 to R114): the words staged for an entry that is
not whole yet, the snapshot read by the last fetch (space, entry, words), a fetch in progress and whether it runs
ahead of a read, the error of a fetch that ran ahead, the buffered writes, and the words already read of the
oldest entry of a FIFO. -/
structure IndSt where
  staged : List Nat := []
  snap : Option (Nat × Nat × List Nat) := none
  fetching : Bool := false
  ahead : Bool := false
  aheadErr : Nat := 0
  buf : List IndWrite := []
  taken : Nat := 0
  deriving DecidableEq, Repr

/-- What is crossing from a page shell to its block (R117 to R120): an RW value, both halves of a split RW value, which
cross as one, or an event. -/
inductive Xing where
  | value (key v : Nat)
  | split (lo v hi w : Nat)
  | event (key : Nat)
  deriving DecidableEq, Repr

/-- An entry of the fence log (R521). -/
structure FenceEntry where
  fin : Bool
  cause : Nat
  slot : Nat
  detail : Nat
  stitch : Nat
  deriving DecidableEq, Repr

/-! ### Lanes (chapter 4) -/

/-- What a lane holds beside its registers (R127 to R132, R135, R142 to R151): the run level and counter of its
transmitter and its receiver, the stuff debt, the symbols for which it held the link layer, a tap
ramp in progress, the bit errors that wait for a bit at each target, the levels that its precoder and its
receiver's remember, its generator and its checker, the levels that it last put on its line, the symbols of the
training burst that it sends, the frozen image of its equaliser once read, and the CTLE code from which an
adaptation that was restarted began. -/
structure LaneHw where
  txLevel : Nat := 0
  txRun : Nat := 0
  rxLevel : Nat := 0
  rxRun : Nat := 0
  debt : Nat := 0
  held : Nat := 0
  ramp : Bool := false
  inj : List Nat := [0, 0, 0]
  txPre : Nat := 0
  rxPre : Nat := 0
  gen : PatSt := {}
  chk : ChkSt := {}
  line : List Nat := []
  burst : Nat := 0
  eq : Option (List Nat) := none
  restart : Option Nat := none
  deriving DecidableEq, Repr

/-! ### Parser (chapter 6) -/

/-- The scan credit of a hoop (R197): what it lacks of 65,536 bytes, in eighths of a byte, and the time, in
quarter ns, at which that was so. -/
structure ScanSt where
  spent8 : Nat := 0
  at4 : Nat := 0
  deriving DecidableEq, Repr

/-! ### Block and segment maps (chapters 7 and 10) -/

/-- An entry of a block map or segment map (Table 7.2): the state, RET_PEND, the kind of a rule-memory block
(1 node, 2 leaf, 3 rule), whether the close has chosen it to change at the boundary (R211), and, for a
segment, the stitch whose boundary retired it (R330). -/
structure MapBlk where
  state : Nat := 0
  retPend : Bool := false
  kind : Nat := 0
  atClose : Bool := false
  retAt : Nat := 0
  deriving DecidableEq, Repr

/-! ### Filet (chapter 8) -/

/-- A Filet entry (Table 8.2). -/
structure FilEnt where
  valid : Bool := false
  user : Bool := false
  key : Nat := 0
  stg : Nat := 0
  hit : Bool := false
  aged : Bool := false
  locked : Bool := false
  mvSec : Nat := 0
  moves : Nat := 0
  dk : Nat := 0
  dest : Nat := 0
  deriving DecidableEq, Repr

/-- A learn event: the key, the input port, the frame's arrival time in quarter ns and the panel that raised
it (R237). -/
structure LearnEv where
  key : Nat
  port : Nat
  arrival : Nat
  panel : Nat
  deriving DecidableEq, Repr

/-- A triple that a hoop has raised, and when (R238). -/
structure LearnSeen where
  key : Nat
  port : Nat
  at4 : Nat
  deriving DecidableEq, Repr

/-! ### Skein (chapter 9) -/

/-- A flow record (Table 9.2), less its reserved bits. -/
structure FlowRec where
  digest : Nat := 0
  valid : Bool := false
  pinned : Bool := false
  profile : Nat := 0
  filter : Nat := 0
  closing : Bool := false
  ageValid : Bool := false
  qbadLast : Bool := false
  staleLast : Bool := false
  freshAct : Nat := 0
  natMode : Nat := 0
  polEn : Bool := false
  seqValid : Bool := false
  lbValid : Bool := false
  lbMember : Nat := 0
  policer : Nat := 0
  pkts : Nat := 0
  bytes : Nat := 0
  first : Nat := 0
  last : Nat := 0
  hist : List Nat := [0, 0, 0, 0, 0, 0, 0, 0]
  freshThr : Nat := 0
  ageLast : Nat := 0
  ageMax : Nat := 0
  staleCount : Nat := 0
  seqGaps : Nat := 0
  seqLast : Nat := 0
  natAddr : Nat := 0
  user : Nat := 0
  natPort : Nat := 0
  expLast : Nat := 0
  expPkts : Nat := 0
  expBytes : Nat := 0
  deriving DecidableEq, Repr

/-- A context (R268, Table 9.9): STATE 0 FREE, 1 PENDING, 2 ACTIVE; the record named, none for NONE; the order
of its last hit; and, while it is PENDING, the field groups that software has set (R291; bit 8 PINNED). -/
structure Ctx where
  state : Nat := 0
  pendAt : Nat := 0
  dirty : Bool := false
  transient : Bool := false
  record : Nat := 0
  used : Nat := 0
  ovr : Nat := 0
  img : FlowRec := {}
  deriving DecidableEq, Repr

/-- A Skein event (Table 9.8). -/
structure SkEvent where
  type : Nat
  reason : Nat
  ctx : Nat
  dirty : Bool
  transient : Bool
  record : Nat
  stitch : Nat
  key : List Nat
  img : FlowRec
  deriving DecidableEq, Repr

/-- What a staged Skein change does (R290): set the field groups of a mask from an image, evict, or set PINNED. -/
inductive SkOp where
  | update (mask : Nat) (img : FlowRec)
  | evict
  | pin (on : Bool)
  deriving DecidableEq, Repr

/-- A staged Skein change to a flow. -/
structure SkChange where
  digest : Nat
  profile : Nat
  op : SkOp
  deriving DecidableEq, Repr

/-! ### Bobbins (chapter 10) -/

/-- What a thread works on: nothing, a stitch run, an init run, a Skein event, or a frame that it holds (R298). -/
inductive BobWork where
  | idle
  | stitch
  | init
  | event (e : SkEvent)
  | frame (f : Nat)
  /-- A frame handler that has given up its frame by FWD or DROP. -/
  | done (f digest : Nat)
  deriving DecidableEq, Repr

/-- What a thread waits for (R299): nothing, a token of the bobbin, the result of a table operation for a
register, room in a DRAM channel, or the reads that END waits for (R320). -/
inductive BobWait where
  | run
  | token (k : Nat)
  | table (rd v : Nat)
  | room
  | fin
  deriving DecidableEq, Repr

/-- A bobbin thread (R297, R304, R306): registers, program counter, work, wait, the stitch of its dispatch, the
PERF_RD of its handler entry, its header buffer and whether HST has written it. -/
structure BobThr where
  regs : Tab Nat := []
  pc : Nat := 0
  work : BobWork := .idle
  wait : BobWait := .run
  handler : Nat := 0
  source : Nat := 0
  since : Nat := 0
  perfRd : Bool := false
  order : Bool := false
  hdr : List Nat := []
  hst : Bool := false
  deriving DecidableEq, Repr

/-- A DRAM access in flight (R317, R318): its token, unless END has freed it, the thread, the window address, the
DRAM address, the local address, the size, the issuing program counter, and for a write its bytes. -/
structure BobAcc where
  tok : Option Nat
  thread : Nat
  window : Nat
  addr : Nat
  lm : Nat
  size : Nat
  pc : Nat
  data : Option (List Nat)
  deriving DecidableEq, Repr

/-- The bobbins: threads at 4b + t, local memory at 16,384b + a, accesses in flight of each bobbin in issue
order, DONE tokens at 128b + k, which queue gave the last work item, the overrun bits of work-area word 5
for the next run, RELEASE requests (R329), init runs due in a hoop (R333), the segment maps at 64h + k, the performance
counters at 8b + n and the time from which each counts what it counts. -/
structure BobSt where
  thr : Tab BobThr := []
  lm : Tab Nat := []
  acc : Tab (List BobAcc) := []
  done : Tab Bool := []
  alt : Tab Bool := []
  ovr : Tab Nat := []
  rel : Tab Bool := []
  init : Tab Bool := []
  seg : Tab MapBlk := []
  perf : Tab Nat := []
  clocked : Tab Nat := []
  deriving DecidableEq, Repr

/-! ### The lookup of a frame (chapters 6 to 9) -/

/-- The headers of Table 6.1. -/
inductive HdrKind where
  | eth | vlan | hsr | mpls | cw | ip4 | ip6 | ext | frag6 | ah | gre | udp | tcp | vxlan | ptp | sv | goose
  /-- C37.118.2, over TCP or not. -/
  | c37 (tcp : Bool)
  deriving DecidableEq, Repr

/-- A header that was parsed: its kind, its first byte and its length. -/
structure Hdr where
  kind : HdrKind
  pos : Nat
  len : Nat
  deriving DecidableEq, Repr

/-- What parsing has found so far. -/
structure ParseSt where
  hdrs : List Hdr := []
  /-- The innermost claimed end (R185). -/
  claim : Option Nat := none
  /-- The first byte of a redundancy trailer (R192). -/
  trailer : Option Nat := none
  /-- The end that the last IP header claims. -/
  ipEnd : Nat := 0
  limit : Bool := false
  conflict : Bool := false
  bad : Bool := false
  frag : Bool := false
  fragLater : Bool := false
  csumBad : Bool := false
  nested : Bool := false
  /-- The header before which PARSE_LIMIT ended parsing. -/
  cut : Option HdrKind := none
  /-- The header whose claim conflicted. -/
  clash : Option HdrKind := none
  /-- A TCP segment for C37.118.2 that does not begin with a frame (R180). -/
  midFrame : Bool := false
  deriving DecidableEq, Repr

/-- A time record (Table 6.4) with what its words hold. -/
structure TimeRec where
  kind : Nat := 0
  stat : Nat := 0
  id : Nat := 0
  sync : Nat := 0
  tLo : Nat := 0
  tHi : Nat := 0
  aux : Nat := 0
  extra : Nat := 0
  deriving DecidableEq, Repr

/-- The parse result of a frame: what parsing found, the time record, the redundancy trailer and the first
bytes of the frame that hold the key fields. -/
structure Parsed where
  st : ParseSt := {}
  time : TimeRec := {}
  prp : Bool := false
  /-- The first 256 bytes, which hold every header that was parsed (R179). -/
  head : List Nat := []
  /-- The first byte of the payload and its end (R194). -/
  pay : Nat := 0
  payEnd : Nat := 0
  /-- The end of the scan window (R194). -/
  win : Nat := 0
  /-- Whether the payload was scanned or skipped, its reported hits as (pattern, offset), and whether there
  were more (R196, R197). -/
  inspected : Bool := false
  skipped : Bool := false
  hits : List (Nat × Nat) := []
  hitOvf : Bool := false
  deriving DecidableEq, Repr

/-- What the classifier decides for a frame. -/
structure ClsResult where
  rule : Option Nat := none
  /-- 0 FORWARD, 1 DROP, 2 REDIRECT, 3 TO_BOBBIN. -/
  disp : Nat := 0
  target : Nat := 0
  cls : Nat := 0
  mirror : Option Nat := none
  policer : Option Nat := none
  handler : Nat := 0
  bobSel : Nat := 0
  profile : Nat := 0
  deriving DecidableEq, Repr

/-- Where the Filet sends a frame (R229). -/
inductive FilDest where
  | port (n : Nat)
  | group (g : Nat)
  | flood (g : Nat)
  /-- A hit with DK 0 whose port is the input port, with HAIRPIN 0. -/
  | hairpin
  | drop
  deriving DecidableEq, Repr

/-- Where Table 9.4 sends a frame: `keep` leaves the classifier and Filet result. -/
inductive SkDest where
  | keep
  | drop
  | port (n : Nat)
  | bobbin (b handler : Nat)
  deriving DecidableEq, Repr

/-- The Skein's part of a lookup result (R271). -/
structure SkResult where
  digest : Nat := 0
  ctx : Option Nat := none
  stale : Bool := false
  /-- MARK_SEL and the value written: 1 PCP, 2 DSCP; 0 none. -/
  markSel : Nat := 0
  markVal : Nat := 0
  dest : SkDest := .keep
  /-- NAT_MODE, NAT_ADDR, NAT_PORT and whether the inner view is rewritten; mode 0 none. -/
  natMode : Nat := 0
  natAddr : Nat := 0
  natPort : Nat := 0
  natInner : Bool := false
  policer : Option Nat := none
  deriving DecidableEq, Repr

/-- The final destination of a frame after the lookup: a bobbin with its handler and source (0 classifier,
1 FILTER 3; Table 10.2). -/
inductive FDest where
  | none
  | port (n : Nat)
  | group (g : Nat)
  | flood (g : Nat)
  | bobbin (b handler source : Nat)
  deriving DecidableEq, Repr

/-- A lookup result (R65): the low 16 bits of the epoch, the parse, the decisions of the classifier, the
Filet and the Skein, whether a policer discards the frame, the class and the final destination. -/
structure LookupRes where
  epoch : Nat := 0
  hoop : Nat := 0
  parsed : Parsed := {}
  cls : ClsResult := {}
  fil : FilDest := .drop
  sk : SkResult := {}
  polDrop : Bool := false
  tclass : Nat := 0
  dest : FDest := .none
  deriving DecidableEq, Repr

/-! ### Reseau (chapter 11) -/

/-- An entry of the cell state table (R342): STATE 0 FREE, 1 USED, 2 RETIRED, the account charged, whether the
cell was allocated during the audit pass that runs (R369), its uncorrectable errors (R372), and the mark of
a cross-link (R524). -/
structure Cell where
  state : Nat := 0
  account : Nat := 0
  inPass : Bool := false
  errs : Nat := 0
  crossed : Bool := false
  deriving DecidableEq, Repr

/-- What an account holds (R358, Table 11.11). -/
structure Acct where
  usedMin : Nat := 0
  usedSh : Nat := 0
  usedHr : Nat := 0
  hold : Bool := false
  hdrmFrames : Nat := 0
  maxUsed : Nat := 0
  deriving DecidableEq, Repr

/-- Where a stored frame stands: it awaits its lookup, its enqueue, a bobbin's disposition, replication, or
its queue entries alone hold it. -/
inductive Stage where
  | lookup
  | result
  | bobbin (b : Nat)
  | replicate
  | queued
  deriving DecidableEq, Repr

/-- Who asked for a transmit stamp (R418): a host send, by function, queue pair and number of the send, or the
firmware, with a PTP page and the kind of message. -/
inductive StampFor where
  | host (fn qp send : Nat)
  | pillow (j kind : Nat)
  deriving DecidableEq, Repr

/-- A stored frame (Table 11.1): its bytes from DA to the last byte before the FCS, its chain, its head
override, REFCNT, the source account, and whether it is receiving, stored or bad. -/
structure Frm where
  used : Bool := false
  bytes : List Nat := []
  cells : List Nat := []
  headCell : Option Nat := none
  head : List Nat := []
  refs : Nat := 0
  src : Nat := 0
  icls : Nat := 0
  inPort : Nat := 0
  /-- The hoop whose ingress pipeline takes the frame. -/
  hoop : Nat := 0
  /-- Arrival time of the first byte in quarter ns, and the stitch to which the frame belongs (R69). -/
  arrival : Nat := 0
  stitch : Nat := 0
  /-- 0 receiving, 1 stored, 2 bad. -/
  state : Nat := 0
  /-- L of a frame that is still in reception, as its lookup took it. -/
  len : Option Nat := none
  /-- Forwarded under OVS_ACT 1 (R162). -/
  oversize : Bool := false
  /-- The receiver, or the source on its way to the enqueue, holds its reference. -/
  rxHeld : Bool := false
  stage : Stage := .lookup
  res : LookupRes := {}
  /-- HOPS and SRC_MEMBER of the data frame of an Aladotra link that brought it (R447). -/
  ald : Option (Nat × Nat) := none
  /-- A stamp is to be kept for the frame (R418). -/
  stamp : Option StampFor := none
  /-- The place of the frame in the order in which frames enter (R171, R349). -/
  serial : Nat := 0
  /-- A NEW of a bobbin built the frame, so no policer is ever charged for it (R392). -/
  built : Bool := false
  /-- The ports that are still to take a copy, once replication has begun (R353). -/
  copies : Option (List Nat) := none
  deriving DecidableEq, Repr

/-- A queue entry (R348): the frame it names and, in the scheduled class, the stitch of its buffer (R69). -/
structure QEnt where
  f : Nat
  sched : Option Nat
  deriving DecidableEq, Repr

/-- A frame in reception on a port (R159): its descriptor where cells were found for it, all bytes received so
far, the time of the first byte, and HOPS and SRC_MEMBER on an Aladotra link. -/
structure RxSt where
  f : Option Nat
  /-- The frame takes no cell: it met a full FIFO, a soft reset or an account without cells. -/
  lost : Bool
  all : List Nat
  arrival : Nat
  ald : Option (Nat × Nat)
  /-- A codeword of the frame could not be corrected, so its blocks are marked as errored (R158). -/
  err : Bool := false
  deriving DecidableEq, Repr

/-- A frame that a port's consumer has taken from its queue: the frame, the class, the start of transmission,
whether it started by cut-through (R354), and whether its gate has closed meanwhile (R387). -/
structure TxSt where
  f : Nat
  cls : Nat
  start : Nat
  cut : Bool
  overrun : Bool
  deriving DecidableEq, Repr

/-- An entry of the audit log (R371). -/
structure AuditEnt where
  kind : Nat
  index : Nat
  stitch : Nat
  deriving DecidableEq, Repr

/-- A stamp kept in the transmit timestamp FIFO of a hoop (R418). -/
structure TsEnt where
  owner : StampFor
  time : Nat
  deriving DecidableEq, Repr

/-- The Reseau (chapter 11): cell states, rotation pointers of the sources, accounts, descriptors, queues, the
frames in reception and in transmission, internal sources that wait (R361), the frames that await replication
in order, the frame queue of each bobbin and the frames that wait for it (R300), the byte counts of the
scheduled buffers (R382), the audit pass that runs (the stitch of its start), the descriptors exempt from it,
the audit log, and the copies that each mirror engine has numbered (Table 11.6). -/
structure RsSt where
  cell : Tab Cell := []
  ptr : Tab Nat := []
  acct : Tab Acct := []
  frm : Tab Frm := []
  queue : Tab (List QEnt) := []
  rx : Tab (Option RxSt) := []
  tx : Tab (Option TxSt) := []
  wait : Tab Bool := []
  repl : List Nat := []
  fq : Tab (List Nat) := []
  fwait : Tab (List Nat) := []
  bud : Tab Nat := []
  audit : Option Nat := none
  exempt : List Nat := []
  log : List AuditEnt := []
  mirId : Tab Nat := []
  /-- The bytes of the last data frame and of the last MAC control frame that each port sent, from DA to FCS. -/
  sent : Tab (List Nat) := []
  sentCtl : Tab (List Nat) := []
  /-- The transmit timestamp FIFO of each hoop, oldest first (R418). -/
  tsf : Tab (List TsEnt) := []
  /-- Host sends whose stamp was lost and whose completion is still to be written (R419). -/
  tsLost : List StampFor := []
  /-- Host sends with a stamp whose frame was discarded before transmission (R491). -/
  tsGone : List StampFor := []
  /-- The next place in the order in which frames enter (R171, R349). -/
  serial : Nat := 0
  deriving DecidableEq, Repr

/-! ### Ports and the traffic manager (chapters 5 and 12) -/

/-- The pause state of a port (R163 to R168): for each class the end of its timer in 1/100 quarter ns, the
time from which it is held without a break plus 1, the end of the watchdog's ignore time; the classes for
which the port holds its partner, the time of its last pause or PFC frame, whether such a frame waits for the frame in
transmission, and the classes that it is to release. -/
structure PauseSt where
  timer : Tab Nat := []
  since : Tab Nat := []
  ignore : Tab Nat := []
  txHold : Nat := 0
  txAt : Nat := 0
  due : Bool := false
  rel : Nat := 0
  deriving DecidableEq, Repr

/-- A gate list (R384): its start in ns, its cycle and its entries. -/
structure GateList where
  t0 : Nat
  cycle : Nat
  entries : List Nat
  deriving DecidableEq, Repr

/-- The traffic manager's state of a port: virtual time, last finish tags, the tags that head frames hold with
the F they replaced (R379), shaper credits in 1/32,000,000 byte with the time at which they stood
(R389), the gate list in force and the pending one (R386). -/
structure TmSt where
  v : Nat := 0
  f : Tab Nat := []
  tag : Tab (Option (Nat × Nat)) := []
  cred : Tab Int := []
  credAt : Nat := 0
  gl : Option GateList := none
  pend : Option GateList := none
  deriving DecidableEq, Repr

/-- The state of a policer (Table 12.4). -/
structure PolSt where
  tokens : Nat := 0
  last : Nat := 0
  deriving DecidableEq, Repr

/-- An entry of the duplicate table (R471): pair, SA, sequence number, and the time of the first frame. -/
structure DupEnt where
  pair : Nat
  sa : Nat
  seq : Nat
  time : Nat
  deriving DecidableEq, Repr

/-- The traffic manager, the policers, the pause machinery and the duplicate table. -/
structure TmAll where
  port : Tab TmSt := []
  pause : Tab PauseSt := []
  pol : Tab PolSt := []
  /-- The duplicate table by bucket. -/
  dup : Tab (List DupEnt) := []
  deriving DecidableEq, Repr

/-! ### The Sampler (chapter 13) -/

/-- What the firmware knows of a PTP domain beside its page: timeTraceable of the grandmaster, the time from
which the domain has been LOCKED, and what its Announce messages say of UTC. -/
structure DomSt where
  traceable : Bool := false
  lockAt : Option Nat := none
  utc : Option UtcNews := none
  deriving DecidableEq, Repr

/-- A capture in the FIFO (Table 13.5). -/
structure CapEnt where
  seq : Nat
  edge : Bool
  input : Nat
  time : Nat
  deriving DecidableEq, Repr

/-- A pulse output: edges must be later than `last`, the pulse in progress ends at `fin`, and the symbols of the
IRIG-B frame in progress (0 zero, 1 one, 2 marker). -/
structure PulseSt where
  last : Option Nat := none
  fin : Option Nat := none
  irig : List Nat := []
  deriving DecidableEq, Repr

/-- The Sampler beside its pages: the time of each channel at its last edge, in units of 1/1,024,000,000,000 quarter ns
(R406), the common rates of the last 10 s with the time from which each held (Table 13.1), consecutive divergent
comparisons of each channel and its departure from the
trimmed rate over them (R408), consecutive good comparisons of a rejoining channel (R409), refreshes that
each hoop missed (Table 16.2), offset measurements since FREE, the domain or source steered from last,
the last offset to the beacons and whether they mark their time traceable, the PTP domains, the time at
which a traceable lock was left (R413), the hold of a firmware restart (R523), the change instant of the
leap announced (R425), the UTC offsets before the one in force, oldest first, each with the time that ended it (R272), the
captured values that wait to cross, oldest first (R421), the
capture FIFO and the captures made (R426), and the pulse outputs. -/
structure SmpSt where
  chan : Tab Nat := []
  rates : List (Nat × Int) := []
  div : Tab Nat := []
  dev : Tab Int := []
  rejoin : Tab Nat := []
  miss : Tab Nat := []
  meas : Nat := 0
  active : Nat := 0
  off3 : Int := 0
  trace3 : Bool := false
  dom : Tab DomSt := []
  holdAt : Option Nat := none
  fwHold : Bool := false
  leapAt : Option Nat := none
  utcPast : List (Nat × Int) := []
  capWait : List CapEnt := []
  cap : List CapEnt := []
  capSeq : Nat := 0
  pulse : Tab PulseSt := []
  deriving DecidableEq, Repr

/-! ### Aladotra (chapter 14) -/

/-- The body of a beacon (Table 14.4); TX_TIME in quarter ns. -/
structure Beacon where
  stitch : Nat := 0
  txTime : Nat := 0
  period : Nat := 0
  flags : Nat := 0
  utc : Nat := 0
  depth : Nat := 0
  lag : Nat := 0
  active : Nat := 0
  standby : Nat := 0
  parent : Nat := 0
  armCid : Nat := 0
  armAt : Nat := 0
  lastCid : Nat := 0
  deriving DecidableEq, Repr

/-- What a device keeps of an Aladotra link: the link frames it has sent and the last SEQ it received (R445,
R446), HCRC errors of the stitch and consecutive exchanges discarded (R474), the last exchanges as
(t4 - t1) - (t3 - t2) in quarter ns (R450), the PROBE in flight with its transmit stamp, what HELLO
said of the peer (SYS_ID, PROTO, DEV_UID, port), its last beacon and the stitch in which it came, the last
link frame sent, the scrambler (R129), whether the peer has PAIR set, the control cells received that are
still to be handled (CTYPE, body, receive stamp, SRC_MEMBER), the scrambled bytes last sent, the bits of them that wait
for a codeword, the last codeword over the port's lanes (R128), the bits that the descrambler has received, at most
58, with the last 58 of them (R129), the control cells that wait for the frame in transmission (CTYPE, body; R448), and the
stitch of the last PROBE (R450). -/
structure LinkSt where
  seq : Nat := 0
  rxSeq : Option Nat := none
  hcrc : Nat := 0
  badEx : Nat := 0
  ex : List Int := []
  probeId : Nat := 0
  probe : Option (Nat × Nat) := none
  hello : Option (Nat × Nat × Nat × Nat) := none
  beacon : Option Beacon := none
  beaconAt : Nat := 0
  out : List Nat := []
  scr : Nat := 2 ^ 58 - 1
  peerPair : Bool := false
  inbox : List (Nat × List Nat × Nat × Nat) := []
  wire : List Nat := []
  code : List Nat := []
  word : List (List Nat) := []
  dsc : Nat × Nat := (0, 0)
  wait : List (Nat × List Nat) := []
  probeAt : Option Nat := none
  deriving DecidableEq, Repr

/-- The Aladotra system as this device sees it: links, the member table, pending system commits, sync records
written since the last GO, content held by manager stitch, and the stitches and times that its states wait
for. -/
structure AldSt where
  link : Tab LinkSt := []
  member : Tab Member := []
  pend : List SysCommit := []
  records : List (List Nat) := []
  badRecord : Bool := false
  held : List Beacon := []
  /-- Content that arrived and is held from the next boundary (R452). -/
  fresh : List Beacon := []
  nextCid : Nat := 1
  /-- The time from which the device has been in LISTEN or ISOLATED without a beacon of its system (R440). -/
  alone : Nat := 0
  /-- The join stitch and the time of its boundary (R455). -/
  joinAt : Option (Nat × Nat) := none
  leaveAt : Option Nat := none
  handAt : Option Nat := none
  /-- The member to which a handover gives the role. -/
  handTo : Nat := 0
  /-- On the active manager, the time from which its standby has been standby in MEMBER state (R469). -/
  standbyAt : Nat := 0
  /-- The first beacon of a new active manager is still to come (R466). -/
  firstBeacon : Bool := false
  /-- The keys of the records of a resynchronisation, and the CID that its last round brings (R464). -/
  sync : List Nat := []
  syncCid : Option Nat := none
  /-- The standby has declared the active manager lost (R465). -/
  lost : Bool := false
  /-- The role fixed at reset: manager-capable (R438). -/
  capable : Bool := false
  /-- The sync journal: CIDs and records of the system commits accepted (R441). -/
  journal : List (Nat × List (List Nat)) := []
  /-- The stitch of the last STATUS cell (R458). -/
  statusAt : Option Nat := none
  deriving DecidableEq, Repr

/-! ### Host DMA (chapter 15) -/

/-- An entry of a send's chain: its index in the ring, the IOVA and length of its bytes, and its word 7. -/
structure ChainEnt where
  idx : Nat
  addr : Nat
  len : Nat
  w7 : Nat
  deriving DecidableEq, Repr

/-- A send that the engine has taken (R487): its number in the ring, the words of its first entry, its chain, the
CPU port and class it uses and the hoop that looks it up, the bytes once they are read, the frames that have
entered and whether all have, and whether it completes with STATUS 3 (R515). -/
structure Send where
  no : Nat
  first : List Nat
  ents : List ChainEnt
  port : Nat
  cls : Nat
  hoop : Option Nat
  bytes : Option (List Nat) := none
  frames : Nat := 0
  entered : Bool := false
  fail : Bool := false
  deriving DecidableEq, Repr

/-- What makes the engine stop at a send (Table 15.5): the reason, the entry and, for reasons 8 and 9, the IOVA. -/
structure SendBad where
  reason : Nat
  idx : Nat
  addr : Nat
  deriving DecidableEq, Repr

/-- The engine of a transmit ring (R482, R485 to R487): the entry at which it stands, whether it reads that entry
and whether another read follows, the chain read so far with the words of its first entry, the sends taken and
not completed in ring order, those that outlived a function-level reset (R494), the number of the next, and
the malformed send at which it has stopped. -/
structure TxEng where
  next : Nat := 0
  reading : Bool := false
  again : Bool := false
  chain : List ChainEnt := []
  first : List Nat := []
  sends : List Send := []
  old : List Send := []
  no : Nat := 0
  bad : Option SendBad := none
  deriving DecidableEq, Repr

/-- A receive ring: its position, and whether the entry there was found with OWN = 0. -/
structure RxEng where
  next : Nat := 0
  full : Bool := false
  deriving DecidableEq, Repr

/-- An interrupt source (R506): armed, its count, and when it counted its first entry. -/
structure IrqSrc where
  armed : Bool := false
  count : Nat := 0
  first : Option Nat := none
  deriving DecidableEq, Repr

/-- A ring parked on a translation (R503, R504): function, pair, direction, whether its page request is
outstanding, and the IOVA. -/
structure Park where
  f : Nat
  q : Nat
  rx : Bool
  sent : Bool
  addr : Nat
  deriving DecidableEq, Repr

/-- A delivery that has begun: its function, its pairs and the free word of its buffer. -/
structure Deliv where
  f : Nat
  qs : List Nat
  word : Nat
  deriving DecidableEq, Repr

/-- The frame of a CPU-port queue that the Needle has taken up, still in its queue (R497): for what it has waited (each
wait counts once), the pairs it waits for, and its delivery once begun. -/
structure RxWait where
  seen : Option Nat := none
  ring : Bool := false
  pool : Bool := false
  share : Bool := false
  f : Nat := 0
  qs : List Nat := []
  held : Option Deliv := none
  deriving DecidableEq, Repr

/-- A write to host memory: the function that makes it, the IOVA and the bytes. -/
structure HostWrite where
  f : Nat
  addr : Nat
  bytes : List Nat
  deriving DecidableEq, Repr

/-- The Needle and the Floss: transmit and receive rings at 64f + q, interrupt sources at 128f + 2q and, for
receive, one more, parked rings in order, the buffer store at 8f + p with the newest handle first, frees
discarded at the quota, share slot counts, the next SHARE_ID of each function, the heads of the CPU-port queues
at 8k + c, whether the PCIe link is down by surprise, what the last command that wrote host memory wrote, and for each CPU
port one more than the transmit ring 64f + q that was served last (R488). -/
structure NdlSt where
  tx : Tab TxEng := []
  rx : Tab RxEng := []
  irq : Tab IrqSrc := []
  park : List Park := []
  store : Tab (List Nat) := []
  ovr : Tab Nat := []
  share : Tab Nat := []
  turn : Tab Nat := []
  wait : Tab RxWait := []
  down : Bool := false
  out : List HostWrite := []
  rr : Tab Nat := []
  deriving DecidableEq, Repr

/-! ### Power (chapter 17) -/

/-- A level sequence of a panel (Table 17.2): the level it goes to, the time at which its voltage request was last
sent, and whether it has been sent again (R534). -/
structure LevelSeq where
  target : Nat
  since : Nat := 0
  resent : Bool := false
  deriving DecidableEq, Repr

/-- What throttles a panel (R536, R537): the level that pair limits and the die-to-die port hold, the level that
TJ_HOT holds, the time of the last lowering, the time from which every pair has been well within its limits plus 1,
the time from which the panel has been 5 degrees below TJ_HOT plus 1, and the time of the last recovery step. -/
structure Throttle where
  pair : Nat := 0
  tj : Nat := 0
  loweredAt : Nat := 0
  calmAt : Nat := 0
  coolAt : Nat := 0
  stepAt : Nat := 0
  deriving DecidableEq, Repr

/-- An entry attempt of a hoop (R543): H1 or H2, and how many blocks of Table 17.3 have agreed. -/
structure HoopEntry where
  h2 : Bool
  agreed : Nat := 0
  deriving DecidableEq, Repr

/-- The wake-pattern detector of a port (R172, R174): the physical lane and the receive inversion that it holds from the
entry into H2 or D3, and whether it has matched a frame since the port's link was last up. -/
structure Detector where
  phys : Nat := 0
  inv : Bool := false
  matched : Bool := false
  deriving DecidableEq, Repr

/-- Where the device stands with D3 (Table 17.5): awake, in the handshake of Table 17.4 (blocks agreed, and hoops
agreed within block 3), ready for PME_Turn_Off, or asleep. -/
inductive D3Stage where
  | awake
  | entering (agreed hoops : Nat)
  | ready
  | asleep
  deriving DecidableEq, Repr

/-- What stands between the device and its clocks: nothing, a thermal trip that holds it in warm reset (R538), or
rails that are down (R582). -/
inductive Supply where
  | on
  | tripped
  | off
  deriving DecidableEq, Repr

/-- The power controller and the reset machinery: level sequences, the voltage set for each tile less its reset
value, throttles, temperatures in 1/8 degree and measured voltages of the tiles, the conditions that held at the
last scan, consecutive failed replays and the range end of each die-to-die port, entry attempts of hoops, H2 requests that await the end of
a boundary's work, the times
at which hoops entered H1 and from which their idle time counts, D3 with what it recorded (R430), the hoops that its
attempt put into H2, PME_En and the PM_PME messages sent, the soft reset requested and latched (R552), the hoops that
still have to apply it (R554), hoop resets that run (R515), the supply, a rail that fell in D3 (R582), and pins. -/
structure PwrSt where
  seq : Tab (Option LevelSeq) := []
  vset : Tab Nat := []
  thr : Tab Throttle := []
  temp : Tab Int := []
  vmeas : Tab Nat := []
  hot : List (Nat × Nat) := []
  run : Tab Nat := []
  skewEnd : Tab Bool := []
  entry : Tab (Option HoopEntry) := []
  want : Tab Bool := []
  h1At : Tab Nat := []
  idleFrom : Tab Nat := []
  d3 : D3Stage := .awake
  /-- T_e in quarter ns, L_e and the stitch count at the D3 entry. -/
  slept : Option (Nat × Nat × Nat) := none
  d3Hoops : Tab Bool := []
  pmeEn : Bool := false
  pmes : Nat := 0
  soft : Option CommitReq := none
  softNow : Bool := false
  softDue : Tab Bool := []
  reset : Tab Bool := []
  supply : Supply := .on
  railLost : Bool := false
  /-- The wake-pattern detectors, by port (R172). -/
  det : Tab Detector := []
  /-- THERM_TRIP_N driven low (R538). -/
  tripLow : Bool := false
  /-- PCIE_WAKE_N driven low (R547). -/
  wakeLow : Bool := false
  /-- PERST# asserted. -/
  perst : Bool := false
  deriving DecidableEq, Repr

/-! ### Life cycle (chapter 18) -/

/-- The fuses and the Mordant: the transition bits T0 to T4 (R558; every device leaves Kradjaune in PROVISION),
the role bits burned beyond that of manufacture, the owner key slots and their revoke bits, the debug grant key,
the bits of the anti-rollback counter, the lane generations in order, the fuse log in order (words of Table 18.6,
first word in the lowest bits), changes without a log entry (R566), the request that runs, a warm reset that waits for
its end (R566), how often a nonce has been drawn, whether a debug grant is open, and what OP 8 has written, by
flash offset / 1,024. -/
structure MorSt where
  t : Nat := 1
  role : Nat := 0
  keys : Tab (List Nat) := []
  revoked : Tab Bool := []
  debugKey : List Nat := []
  arb : Nat := 0
  lanes : List (List Nat) := []
  log : List (List Nat) := []
  /-- Changes that have no log entry: OP, old and new count. -/
  lost : List (Nat × Nat × Nat) := []
  req : Option Nat := none
  resetDue : Option BootPins := none
  served : Nat := 0
  grant : Bool := false
  flash : Tab (List Nat) := []
  deriving DecidableEq, Repr

/-! ### The state -/

/-- The state of the block. -/
structure State where
  /-- The values in force of RO and W1C fields and the last written values of RW fields, by field number (R13, R89). -/
  reg : Tab Nat := []
  /-- The values in force of RWS and RWV fields (R105). -/
  act : Tab Nat := []
  /-- The shadow values of RWS and RWV fields. -/
  shd : Tab Nat := []
  /-- The shadow values latched at the last close of each page's group (R50). -/
  lat : Tab Nat := []
  /-- The RW values as they have reached the blocks (R119). -/
  blk : Tab Nat := []
  /-- The upsets of the copies of RWV fields, at twice the field's number for the shadow, one more for the value in force (R106). -/
  vote : Tab Vote := []
  /-- The words of the indirect tables in force, by word number (R110). -/
  ind : Tab Nat := []
  /-- The shadow words of the shadowed indirect tables. -/
  indS : Tab Nat := []
  /-- The shadow words latched at the last close. -/
  indL : Tab Nat := []
  /-- Pages with a write to a shadowed space since the last apply of their group, by page base (R597). -/
  indWr : Tab Bool := []
  /-- Those of them that came after the latch of the coming apply (R50, R597). -/
  indLate : Tab Bool := []
  /-- The indirect pairs, by page base (R111 to R114). -/
  pair : Tab IndSt := []
  /-- What is crossing to the block of a page, oldest first, by page base (R119, R120). -/
  xing : Tab (List Xing) := []
  /-- The data of the last completed host read. -/
  ioData : Nat := 0
  /-- The live statistics counters, by counter number (R525). -/
  cnt : Tab Nat := []
  /-- Their snapshots. -/
  snp : Tab Nat := []
  /-- The 16 commit groups (R97). -/
  groups : Tab GroupSt := []
  /-- What pages remember of joining their group, by page base (R99). -/
  pageGrp : Tab PageGrp := []
  /-- Sampler time in quarter nanoseconds since the PTP epoch (R402); starts at 0 (R48). -/
  now : Nat := 0
  /-- The stitch count, 64 bits (R47); 0 at reset (R48). -/
  stitch : Nat := 0
  /-- The commit epoch, 64 bits (R63). -/
  epoch : Nat := 0
  /-- The time of the last boundary, in quarter nanoseconds. -/
  bndAt : Nat := 0
  /-- The time of the next boundary: P = 10,000 ns after reset (R48). -/
  nextBnd : Nat := 40000
  /-- The commit window of the stitch in progress has closed (R50). -/
  closed : Bool := false
  /-- Commits of a sleeping hoop's pages that fell due: the low 16 bits of the stitch plus 1, at 16 * hoop + group (R59). -/
  sleepDue : Tab Nat := []
  /-- The pending period request: the period in ns and the earliest time of its boundary in quarter ns (R45). -/
  perReq : Option (Nat × Nat) := none
  /-- The fence log, oldest first, at most 256 entries (R521). -/
  fenceLog : List FenceEntry := []
  /-- The functions whose vector 0 condition holds (R522). -/
  irqLevel : Tab Bool := []
  /-- MSI-X messages sent, at 128 * function + vector. -/
  msgs : Tab Nat := []
  /-- MSI-X pending bits, at 128 * function + vector (R478). -/
  msixPend : Tab Bool := []
  /-- MSI-X vectors unmasked by software: unlisted vectors are masked, as PCIe resets them. -/
  msixMask : Tab Bool := []
  /-- The words of the MSI-X table, at (128 * function + vector) * 4 + word (R478). -/
  msixTab : Tab Nat := []
  /-- The model's own counter of free values drawn; no rule of the spec names it. -/
  fresh : Nat := 0
  /-- The lanes (R123 to R152). -/
  lane : Tab LaneHw := []
  /-- The fused polarity and map byte in force for a lane, less its identity: the byte XOR 9 * (l mod 8) (R140, Table 18.5). -/
  laneFuse : Tab Nat := []
  /-- Table entries in uncorrectable error until rewritten, at the word number of their index (R202, R220). -/
  ecc : Tab Bool := []
  /-- The scan credit of each hoop (R197). -/
  scan : Tab ScanSt := []
  /-- The block maps of the classifiers, at 262,144 * panel + block (R209). -/
  clsMap : Tab MapBlk := []
  /-- The Filet entries, at 2^21 * panel + location (R232). -/
  fil : Tab FilEnt := []
  /-- The learn filter of each hoop, oldest first (R238). -/
  learnFilt : Tab (List LearnSeen) := []
  /-- Learn events on their way to the sequencer (R239). -/
  learnFly : List LearnEv := []
  /-- Learn events that the sequencer holds, in release order (R239). -/
  learnSeq : List LearnEv := []
  /-- Released events that each panel has still to apply (R240). -/
  learnPan : Tab (List LearnEv) := []
  /-- Panels whose changing commands wait from the close until the cleanup is done (R254). -/
  filHold : Tab Bool := []
  /-- The OP of a command that waits in a panel (R254). -/
  filWait : Tab Nat := []
  /-- VLAN-table entries written in a panel since the last apply (R255). -/
  vlanWr : Tab (List Nat) := []
  /-- The bytes of the in-package DRAM, by address (R28). -/
  dram : List Host.Cell := []
  /-- Poisoned 32-byte chunks of DRAM, by address / 32, as they differ from what the spare left them (R518). -/
  poison : Tab Bool := []
  /-- The spare was taken without a copy, so every line of its channel started poisoned (R518). -/
  spareBlank : Bool := false
  /-- The period before the last boundary, in ns (R271). -/
  perOld : Nat := 10000
  /-- The periods before that, oldest first: the boundary that ended each, in quarter ns, and the period in ns (R271). -/
  perPast : List (Nat × Nat) := []
  /-- The change instant of the last leap, in Sampler seconds (R425). -/
  leapLast : Option Nat := none
  /-- The contexts, at 32,768 * hoop + index (R268). -/
  ctx : Tab Ctx := []
  /-- The model's own counter that orders the hits of contexts (R269). -/
  lru : Nat := 0
  /-- The Skein event queue of each bobbin, oldest first (R279). -/
  evq : Tab (List SkEvent) := []
  /-- Staged changes of each hoop's Skein (R290). -/
  skStaged : Tab (List SkChange) := []
  /-- The OP of the Skein command that runs in each hoop: BUSY is 1 while it does (R290). -/
  skOp : Tab Nat := []
  /-- Staged changes latched at the close (R291). -/
  skLat : Tab (List SkChange) := []
  /-- The overlay in force that is still to be merged (R291). -/
  skOvl : Tab (List SkChange) := []
  /-- The bobbins (chapter 10). -/
  bob : BobSt := {}
  /-- The Reseau (chapter 11). -/
  rs : RsSt := {}
  /-- The traffic manager, the policers, the pause machinery (chapters 5 and 12) and the duplicate table (R471). -/
  tm : TmAll := {}
  /-- The Sampler (chapter 13). -/
  smp : SmpSt := {}
  /-- Aladotra (chapter 14). -/
  ald : AldSt := {}
  /-- The Needle and the Floss (chapter 15). -/
  ndl : NdlSt := {}
  /-- Power states and resets (chapter 17), with the die-to-die ports (chapter 16). -/
  pwr : PwrSt := {}
  /-- The fuses and the Mordant (chapter 18). -/
  mor : MorSt := {}
  /-- The commands that wait, first in first out. -/
  pending : List Instr := []
  deriving DecidableEq, Repr

/-- Why the block stops. Nothing in the spec stops it, so no rule raises one: a unit fails into its fence
(R512). Safe: a stop proves nothing about the hardware that goes on. -/
inductive Fault where
  /-- Raised by no command of this model. Safe. -/
  | noFault
  deriving DecidableEq, Repr

/-- Why a command has no meaning here. -/
inductive Refusal where
  /-- The command is not modelled yet; raised by `exec` alone. Safe: the model says nothing of it. -/
  | notModelled (mnemonic : String)
  deriving DecidableEq, Repr

/-- The block right after a cold reset (R48, R550): every table lists nothing, so every field, counter and
memory reads its reset value. -/
def State.reset : State := {}

end Sys2Proof.Machine
end

