-- ==== Sys2Proof/Machine/Ops.lean ====
section
/-! DEFINITION. The operations that every block shares: reading and writing register fields and table words,
counters, sticky bits with the summary and interrupts they raise (R95, R520 to R522), fences (R513),
free values. -/

namespace Sys2Proof.Machine

/-! ### Register fields -/

/-- What a RO, RW or W1C field of a page holds. -/
def rd (s : State) (p : Page) (f : Field) : Nat := tabGet s.reg (fieldReset p f) (fieldKey p f)

/-- Whether a one-bit field is 1. -/
def rdB (s : State) (p : Page) (f : Field) : Bool := rd s p f != 0

/-- The value in force of a RWS or RWV field (R105). -/
def cfg (s : State) (p : Page) (f : Field) : Nat := tabGet s.act (fieldReset p f) (fieldKey p f)

/-- Whether a one-bit RWS or RWV field is 1 in force. -/
def cfgB (s : State) (p : Page) (f : Field) : Bool := cfg s p f != 0

/-- The shadow value of a RWS or RWV field. -/
def shw (s : State) (p : Page) (f : Field) : Nat := tabGet s.shd (fieldReset p f) (fieldKey p f)

/-- The latched value of a RWS or RWV field (R50). -/
def ltc (s : State) (p : Page) (f : Field) : Nat := tabGet s.lat (fieldReset p f) (fieldKey p f)

/-- The value of a RW field as it has reached its block (R119). -/
def bk (s : State) (p : Page) (f : Field) : Nat := tabGet s.blk (fieldReset p f) (fieldKey p f)

/-- The device or a write sets a RO, RW or W1C field, cut to its width. -/
def wr (s : State) (p : Page) (f : Field) (v : Nat) : State :=
  { s with reg := tabPut s.reg (fieldReset p f) (fieldKey p f) (trunc f.width v) }

/-- A shadow value is written (R105). -/
def wrShd (s : State) (p : Page) (f : Field) (v : Nat) : State :=
  { s with shd := tabPut s.shd (fieldReset p f) (fieldKey p f) (trunc f.width v) }

/-- A value comes into force without a commit: only the firmware and resets do this. -/
def wrAct (s : State) (p : Page) (f : Field) (v : Nat) : State :=
  { s with act := tabPut s.act (fieldReset p f) (fieldKey p f) (trunc f.width v) }

/-- A RW value reaches its block (R119). -/
def wrBlk (s : State) (p : Page) (f : Field) (v : Nat) : State :=
  { s with blk := tabPut s.blk (fieldReset p f) (fieldKey p f) (trunc f.width v) }

/-- A count kept in a field, saturating at the field's largest value. -/
def countSat (s : State) (p : Page) (f : Field) : State :=
  wr s p f (sat (2 ^ f.width - 1) (rd s p f + 1))

/-- A count kept in a field, wrapping. -/
def countWrap (s : State) (p : Page) (f : Field) : State := wr s p f (rd s p f + 1)

/-! ### Words of indirect tables -/

/-- What word `w` of space `n` of a page reads where nothing was written: Table 8.5's port and VLAN
entries, Table 11.11's account settings, Table 15.10's function table and the entry of PPS_OUT (R427) have
reset values. -/
def wordReset (p : Page) (n w : Nat) : Nat :=
  match p, n with
  | .fil _, 2 => if w < 128 then 0x10001 else 1
  | .fil _, 3 => w % 2
  | .pulse, 1 => if w = 128 then 1 else if w = 129 then 100_000_000 else if w = 130 then 1_000_000_000 else 0
  | .rsx, 1 => if w % 2 = 0 then 16 else 0xB041_0000
  | .ndl, 2 => if w = 0 then 64 * 2 ^ 16 + 2 ^ 10 + 2 ^ 9 + 2 ^ 8 + 0x7F else 0
  | _, _ => 0

/-- A word of a table, in force. -/
def word (s : State) (p : Page) (n w : Nat) : Nat := tabGet s.ind (wordReset p n w) (wordKey p n w)

/-- A shadow word of a table. -/
def wordS (s : State) (p : Page) (n w : Nat) : Nat := tabGet s.indS (wordReset p n w) (wordKey p n w)

/-- A latched word of a table. -/
def wordL (s : State) (p : Page) (n w : Nat) : Nat := tabGet s.indL (wordReset p n w) (wordKey p n w)

/-- `n` words of a table from word `w`. -/
def words (s : State) (p : Page) (n w len : Nat) : List Nat :=
  (List.range len).map (fun i => word s p n (w + i))

/-- A word of a table is written in force. -/
def putWord (s : State) (p : Page) (n w v : Nat) : State :=
  { s with ind := tabPut s.ind (wordReset p n w) (wordKey p n w) (trunc 32 v) }

/-- A shadow word of a table is written, which makes the page's shadow dirty (R597). -/
def putWordS (s : State) (p : Page) (n w v : Nat) : State :=
  { s with indS := tabPut s.indS (wordReset p n w) (wordKey p n w) (trunc 32 v)
           indWr := tabPut s.indWr false (pageBase p) true
           indLate := tabPut s.indLate false (pageBase p) true }

/-! ### Counters -/

/-- The live value of counter `i` of a page. -/
def counter (s : State) (p : Page) (i : Nat) : Nat := tabGet s.cnt 0 (cntKey p i)

/-- A counter of 64 bits counts `n`, wrapping at 2^64 (R176, R373 and the like). -/
def bump (s : State) (p : Page) (i n : Nat) : State :=
  { s with cnt := tabPut s.cnt 0 (cntKey p i) (trunc 64 (counter s p i + n)) }

/-! ### The error summary and vector 0 (R520 to R522) -/

/-- The PAGE_STICKY_MASK word of the page at a base. -/
def maskAt (s : State) (base : Nat) : Nat := tabGet s.reg 0 ((base + 0x01C) * 32)

/-- The PAGE_IRQ_EN word of the page at a base. -/
def irqEnAt (s : State) (base : Nat) : Nat := tabGet s.reg 0 ((base + 0x020) * 32)

/-- Whether a stored field makes its page report (R520). -/
def entryReports (s : State) (e : Nat × Nat) : Bool :=
  let base := keyBase e.1
  let off := e.1 / 32 - base
  let v := e.2 * 2 ^ (e.1 % 32)
  if off = 0x018 then (v &&& (0xFFFF_FFFF - maskAt s base)) != 0
  else if off = 0x04C then v != 0
  else if off = 0x040 then e.1 % 32 == 0 && e.2 != 0
  else false

/-- Whether a stored field raises its page's interrupt (R95). -/
def entryRaises (s : State) (e : Nat × Nat) : Bool :=
  let base := keyBase e.1
  e.1 / 32 - base == 0x018 && (e.2 * 2 ^ (e.1 % 32) &&& irqEnAt s base) != 0

/-- Whether the page reports to the error summary (R520). -/
def pageReports (s : State) (p : Page) : Bool :=
  s.reg.any (fun e => keyBase e.1 == pageBase p && entryReports s e)

/-- ERR_TOP: bit i is set while a page slot of BAR0 between 4i and 4(i + 1) MiB reports (R521). -/
def errTop (s : State) : Nat :=
  s.reg.foldl (fun top e =>
    if keyBase e.1 < 0x1000_0000 && entryReports s e then top ||| 2 ^ (keyBase e.1 / 0x40_0000) else top) 0

/-- Word `w` of the bitmap of reporting page slots (R521, ERR space 1). -/
def errBitmap (s : State) (w : Nat) : Nat :=
  s.reg.foldl (fun m e =>
    let slot := keyBase e.1 / 0x1000
    if keyBase e.1 < 0x1000_0000 && slot / 32 == w && entryReports s e then m ||| 2 ^ (slot % 32) else m) 0

/-- The function whose vector 0 a page at a base raises (R522). -/
def irqFnAt (base : Nat) : Nat :=
  if 0x0031_0000 ≤ base ∧ base < 0x0035_0000 then (base - 0x0031_0000) / 0x1000
  else if 0x1000_0000 ≤ base then (base - 0x1000_0000) / 0x1_0000
  else 0

/-- The OR of the conditions of vector 0 of function `f` (R522). -/
def irq0Cond (s : State) (f : Nat) : Bool :=
  s.reg.any (fun e => irqFnAt (keyBase e.1) == f && entryRaises s e)
    || (f == 0 && (errTop s &&& rd s .err Fld.ERR_TOP_EN_EN) != 0)

/-- The MSI-X message of a vector is sent, or held pending while the vector is masked (R478, R522). -/
def sendMsix (s : State) (f v : Nat) : State :=
  if tabGet s.msixMask false (128 * f + v) then
    { s with msgs := tabPut s.msgs 0 (128 * f + v) (tabGet s.msgs 0 (128 * f + v) + 1) }
  else { s with msixPend := tabPut s.msixPend false (128 * f + v) true }

/-- Vector 0 of a function follows the OR of its conditions: its message is sent when the OR rises. -/
def irqUpdate (s : State) (f : Nat) : State :=
  let c := irq0Cond s f
  let was := tabGet s.irqLevel false f
  let s := { s with irqLevel := tabPut s.irqLevel false f c }
  if c && !was then sendMsix s f 0 else s

/-- Both vectors that a change of a page can raise follow their conditions. -/
def irqPage (s : State) (p : Page) : State :=
  let f := irqFnAt (pageBase p)
  if f = 0 then irqUpdate s 0 else irqUpdate (irqUpdate s f) 0

/-- A sticky bit of PAGE_STICKY or PAGE_HDR_STICKY is set (R95). -/
def stick (s : State) (p : Page) (f : Field) : State := irqPage (wr s p f 1) p

/-- A sticky bit is set where the condition holds. -/
def stickIf (c : Bool) (s : State) (p : Page) (f : Field) : State := if c then stick s p f else s

/-! ### Pages at their reset values -/

/-- The base address of the page to which a counter number belongs. -/
def cntBase (k : Nat) : Nat := k / 0x1000_0000 * 0x1000

/-- A page returns to its reset values: registers, shadows, tables, counters, the indirect pair and what is on
its way to the block. It is a member of group 0 again (R99). -/
def resetPage (s : State) (p : Page) : State :=
  let b := pageBase p
  let g := tabGet s.groups {} 0
  let fld (t : Tab Nat) : Tab Nat := tabSel (fun k => keyBase k != b) t
  let wrd (t : Tab Nat) : Tab Nat := tabSel (fun k => wordBase k != b) t
  let cnt (t : Tab Nat) : Tab Nat := tabSel (fun k => cntBase k != b) t
  { s with reg := fld s.reg, act := fld s.act, shd := fld s.shd, lat := fld s.lat, blk := fld s.blk
           vote := tabSel (fun k => keyBase (k / 2) != b) s.vote
           ind := wrd s.ind, indS := wrd s.indS, indL := wrd s.indL, ecc := tabSel (fun k => wordBase k != b) s.ecc
           cnt := cnt s.cnt, snp := cnt s.snp
           indWr := tabErase s.indWr b, indLate := tabErase s.indLate b
           pair := tabErase s.pair b, xing := tabErase s.xing b
           pageGrp := tabPut s.pageGrp {} b { seq := g.seq, applySeq := g.applySeq, lastAt := 0 } }

/-! ### Free values -/

/-- A free value of `w` bits is drawn at place `site`. -/
def draw (s : State) (site w : Nat) : Nat × State :=
  (trunc w (Config.free site s.fresh), { s with fresh := s.fresh + 1 })

/-! ### Fences (R512, R513) -/

/-- The page slot of a page (R521). -/
def pageSlot (p : Page) : Nat := pageBase p / 0x1000

/-- Whether the page's unit is fenced. -/
def fenced (s : State) (p : Page) : Bool := rdB s p Fld.PAGE_FENCE_FENCED

/-- An entry goes into the fence log, or is lost when the log is full (R521). -/
def logFence (s : State) (p : Page) (fin : Bool) (cause detail : Nat) : State :=
  if s.fenceLog.length < 256 then
    wr { s with fenceLog := s.fenceLog ++ [⟨fin, cause, pageSlot p, detail, s.stitch⟩] } .err
      Fld.ERR_LOG_LEVEL_LEVEL (s.fenceLog.length + 1)
  else stick s .err Fld.ERR_STICKY_LOG_OVF

/-- The counter of the ERR page that counts fences with a cause (R528). -/
def fenceCounter (cause : Nat) : Nat := cause - 1

/-- A unit is fenced at its first cause; a further cause changes nothing (R513). -/
def fenceUnit (s : State) (p : Page) (cause detail : Nat) : State :=
  if fenced s p then s
  else
    let s := wr s p Fld.PAGE_FENCE_FENCED 1
    let s := wr s p Fld.PAGE_FENCE_CAUSE_CAUSE cause
    let s := wr s p Fld.PAGE_FENCE_CAUSE_DETAIL detail
    let s := bump s .err (fenceCounter cause) 1
    irqPage (logFence s p false cause detail) p

/-- A fence ends: CAUSE returns to 0 and the end is logged (R513). -/
def unfence (s : State) (p : Page) : State :=
  if fenced s p then
    let cause := rd s p Fld.PAGE_FENCE_CAUSE_CAUSE
    let detail := rd s p Fld.PAGE_FENCE_CAUSE_DETAIL
    let s := wr s p Fld.PAGE_FENCE_FENCED 0
    let s := wr s p Fld.PAGE_FENCE_CAUSE_CAUSE 0
    let s := wr s p Fld.PAGE_FENCE_CAUSE_DETAIL 0
    let s := bump s .err 6 1
    irqPage (logFence s p true cause detail) p
  else s

/-- A fatal report (R108, R521): the first one is recorded. -/
def fatalReport (s : State) (p : Page) : State :=
  let s := bump s .err 7 1
  let s := if rdB s .err Fld.ERR_FATAL_VALID then s
    else wr (wr s .err Fld.ERR_FATAL_VALID 1) .err Fld.ERR_FATAL_SLOT (pageSlot p)
  stick s .err Fld.ERR_STICKY_FATAL

/-! ### Units and where they lie (R18, R21, R22) -/

/-- The hoop to whose region a page belongs, where it belongs to one. -/
def pageHoop : Page → Option Nat
  | .hop h => some h
  | .ts h => some h
  | .lan l => some (l / 32)
  | .mac n => some (n / 32)
  | .prk h => some h
  | .skn h => some h
  | .bob b => some (b / 16)
  | .bobh h => some h
  | _ => none

/-- HOP_PWR_STAT.STATE of a hoop: 0 running, 1 H1, 2 H2, 3 entering, 4 leaving (Table 17.10). -/
def hoopState (s : State) (h : Nat) : Nat := rd s (.hop h) Fld.HOP_PWR_STAT_STATE

/-- A hoop that executes no boundary steps: in H1 or H2, or on its way out of H2 (R59). -/
def hoopAsleep (s : State) (h : Nat) : Bool := hoopState s h == 1 || hoopState s h == 2 || hoopState s h == 4

/-- A hoop whose fence is set. -/
def hoopFenced (s : State) (h : Nat) : Bool := fenced s (.hop h)

/-- Whether a page of a fenced hoop shows DOMAIN_OFF (R514): its bobbin, Pricking, Skein, LAN and MAC
pages do. -/
def offWhenFenced : Page → Bool
  | .hop _ => false
  | .ts _ => false
  | _ => true

/-- DOMAIN_OFF of a page (R122, R514, R551): its hoop sleeps or is fenced, or the firmware is not ready. -/
def domainOff (s : State) (p : Page) : Bool :=
  (p != .glb && !rdB s .glb Fld.GLB_RESET_CAUSE_READY) ||
  match pageHoop p with
  | some h => hoopAsleep s h || (hoopFenced s h && offWhenFenced p)
  | none => false

/-! ### Crossings (R119, R120, R122) -/

/-- What waits to cross to the block of a page, oldest first. -/
def xingOf (s : State) (p : Page) : List Xing := tabGet s.xing [] (pageBase p)

/-- The same replaced. -/
def putXing (s : State) (p : Page) (xs : List Xing) : State := { s with xing := tabPut s.xing [] (pageBase p) xs }

/-- Events among what waits. -/
def eventsOf (xs : List Xing) : Nat := (xs.filter (fun x => match x with | .event _ => true | _ => false)).length

/-- An event starts to cross, or is counted behind the one that crosses; beyond 255 counted it is lost (R120). -/
def queueEvent (s : State) (p : Page) (f : Field) : State :=
  if 256 ≤ eventsOf (xingOf s p) then stick s p Fld.PAGE_HDR_STICKY_XING_SAT
  else putXing s p (xingOf s p ++ [.event (fieldKey p f)])

/-- An event of a page's block: it acts now, or the shell holds it while the block's domain is off (R122). -/
def eventNow (s : State) (p : Page) (f : Field) (act : State → State) : State :=
  if domainOff s p then queueEvent s p f else act s

/-- The stitch period in force, in ns (R42, R45). -/
def periodNs (s : State) : Nat := cfg s .stitch Fld.SMP_STITCH_PERIOD_PERIOD_NS

/-- Sampler time in whole nanoseconds. -/
def nowNs (s : State) : Nat := s.now / 4

/-- Sampler time reaches `t`, unless it already has: time never decreases (R403). -/
def advance (s : State) (t : Nat) : State := if s.now < t then { s with now := t } else s

end Sys2Proof.Machine
end

