-- ==== Sys2Proof/Machine/Parser.lean ====
section
/-! DEFINITION. The Pricking parser (chapter 6): the header stack of a frame, its flags, its time record, payload
inspection under the scan credit, and the classifier's key fields of Table 7.1. -/

namespace Sys2Proof.Machine

/-! ### Headers (R178) -/

/-- The settings of a PRK page that parsing uses (Table 6.8). -/
structure PrkCfg where
  csumChk : Bool
  mplsCw : Bool
  tpid1 : Nat
  tpid2 : Nat
  vxlanPort : Nat
  c37Udp : Nat
  c37Tcp : Nat
  deriving DecidableEq, Repr

/-- The settings in force on the PRK page of hoop `h` (R199). -/
def prkCfg (s : State) (h : Nat) : PrkCfg :=
  let p := Page.prk h
  { csumChk := cfgB s p Fld.PRK_CTRL_CSUM_CHK, mplsCw := cfgB s p Fld.PRK_CTRL_MPLS_CW
    tpid1 := cfg s p Fld.PRK_TPID_TPID1, tpid2 := cfg s p Fld.PRK_TPID_TPID2
    vxlanPort := cfg s p Fld.PRK_UDP_PORT_VXLAN_PORT, c37Udp := cfg s p Fld.PRK_UDP_PORT_C37_UDP
    c37Tcp := cfg s p Fld.PRK_TCP_PORT_C37_TCP }

/-- The header that an EtherType names. -/
def etherNext (c : PrkCfg) (e : Nat) : Option HdrKind :=
  if e = c.tpid1 ∨ e = c.tpid2 then some .vlan
  else if e = 0x892F then some .hsr
  else if e = 0x8847 ∨ e = 0x8848 then some .mpls
  else if e = 0x0800 then some .ip4
  else if e = 0x86DD then some .ip6
  else if e = 0x88F7 then some .ptp
  else if e = 0x88BA then some .sv
  else if e = 0x88B8 then some .goose
  else none

/-- The header that an IPv4 Protocol names. -/
def ip4Next (n : Nat) : Option HdrKind :=
  if n = 6 then some .tcp else if n = 17 then some .udp else if n = 47 then some .gre else none

/-- The header that a Next Header of the IPv6 family names. -/
def ip6Next (n : Nat) : Option HdrKind :=
  if n = 0 ∨ n = 43 ∨ n = 60 then some .ext else if n = 44 then some .frag6
  else if n = 51 then some .ah else ip4Next n

/-- The bytes of a header that give its length or that R180 tests: over TCP, the first byte decides whether a C37.118.2
frame begins there (R180). -/
def hdrNeeds : HdrKind → Nat
  | .ip4 => 1 | .ip6 => 1 | .ext => 2 | .ah => 2 | .gre => 2 | .tcp => 13 | .vxlan => 1 | .ptp => 2
  | .c37 _ => 1 | _ => 0

/-- The length of a header at `pos`, as its own fields give it (Table 6.1). -/
def hdrLen (b : List Nat) (pos : Nat) : HdrKind → Nat
  | .eth => 14 | .vlan => 4 | .hsr => 6 | .mpls => 4 | .cw => 4
  | .ip4 => bits (byteAt b pos) 3 0 * 4
  | .ip6 => 40
  | .ext => (byteAt b (pos + 1) + 1) * 8
  | .frag6 => 8
  | .ah => (byteAt b (pos + 1) + 2) * 4
  | .gre => 4 + 4 * (bits (byteAt b pos) 7 7 + bits (byteAt b pos) 5 5 + bits (byteAt b pos) 4 4)
  | .udp => 8
  | .tcp => bits (byteAt b (pos + 12)) 7 4 * 4
  | .vxlan => 8
  | .ptp => if bits (byteAt b pos) 3 0 ≤ 3 then 44 else 34
  | .sv => 8 | .goose => 8 | .c37 _ => 14

/-- A header that breaks its own format (R180). -/
def hdrBad (b : List Nat) (pos : Nat) : HdrKind → Bool
  | .ip4 => bits (byteAt b pos) 7 4 != 4 || decide (bits (byteAt b pos) 3 0 < 5)
  | .ip6 => bits (byteAt b pos) 7 4 != 6
  | .tcp => decide (bits (byteAt b (pos + 12)) 7 4 < 5)
  | .gre => bits (byteAt b (pos + 1)) 2 0 != 0 || bit (byteAt b pos) 6
  | .vxlan => !bit (byteAt b pos) 3
  | .ptp => bits (byteAt b (pos + 1)) 3 0 != 2
  | .c37 false => byteAt b pos != 0xAA
  | _ => false

/-- The end that a header claims for what it encloses, none where it claims nothing (R183). -/
def hdrClaim (b : List Nat) (pos : Nat) : HdrKind → Option Nat
  | .ip4 => some (pos + be16 b (pos + 2))
  | .ip6 => some (pos + 40 + be16 b (pos + 4))
  | .udp => some (pos + be16 b (pos + 4))
  | .sv => some (pos + be16 b (pos + 2))
  | .c37 false => some (pos + be16 b (pos + 2))
  | _ => none

/-- Whether the length claim of a readable header conflicts (R183); `n` is the outer frame length, `ip` the
end that the enclosing IP header claims, `inner` the innermost claimed end. -/
def hdrConflict (b : List Nat) (n ip inner pos : Nat) (k : HdrKind) : Bool :=
  decide (n < pos + hdrLen b pos k) ||
  match k with
  | .ip4 => decide (be16 b (pos + 2) < hdrLen b pos .ip4) || decide (n < pos + be16 b (pos + 2))
  | .ip6 => decide (n < pos + 40 + be16 b (pos + 4)) || (be16 b (pos + 4) == 0 && byteAt b (pos + 6) != 59)
  | .udp => decide (be16 b (pos + 4) < 8) || decide (ip < pos + be16 b (pos + 4))
  | .tcp => decide (ip < pos + hdrLen b pos .tcp)
  | .sv => decide (n < pos + be16 b (pos + 2))
  | .c37 false => decide (inner < pos + be16 b (pos + 2))
  | _ => false

/-- Whether an IP header marks a fragment, and whether its offset is not 0 (R186). -/
def hdrFrag (b : List Nat) (pos : Nat) : HdrKind → Bool × Bool
  | .ip4 =>
    let f := be16 b (pos + 6)
    (bit f 13 || bits f 12 0 != 0, bits f 12 0 != 0)
  | .frag6 => (true, bits (be16 b (pos + 2)) 15 3 != 0)
  | _ => (false, false)

/-- The ones' complement sum of `n` 16-bit words from `pos`. -/
def ipSum (b : List Nat) (pos : Nat) : Nat → Nat
  | 0 => 0
  | n + 1 => ipSum b pos n + be16 b (pos + 2 * n)

/-- Whether the checksum of an IPv4 header is right. -/
def ip4SumOk (b : List Nat) (pos : Nat) : Bool :=
  let t := ipSum b pos (2 * bits (byteAt b pos) 3 0)
  let t := t % 65536 + t / 65536
  let t := t % 65536 + t / 65536
  t == 0xFFFF

/-- The header that follows a header of this kind at `pos` (Table 6.1). -/
def hdrNext (c : PrkCfg) (b : List Nat) (pos : Nat) (k : HdrKind) : Option HdrKind :=
  let fin := pos + hdrLen b pos k
  match k with
  | .eth => etherNext c (be16 b (pos + 12))
  | .vlan => etherNext c (be16 b (pos + 2))
  | .hsr => etherNext c (be16 b (pos + 4))
  | .mpls =>
    if bit (byteAt b (pos + 2)) 0 then
      let nib := bits (byteAt b fin) 7 4
      if b.length ≤ fin then none
      else if nib = 4 then some .ip4
      else if nib = 6 then some .ip6
      else if nib = 0 ∧ c.mplsCw then some .cw
      else none
    else some .mpls
  | .cw => some .eth
  | .ip4 => ip4Next (byteAt b (pos + 9))
  | .ip6 => ip6Next (byteAt b (pos + 6))
  | .ext => ip6Next (byteAt b pos)
  | .ah => ip6Next (byteAt b pos)
  | .frag6 => none
  | .gre =>
    let t := be16 b (pos + 2)
    if t = 0x6558 then some .eth else if t = 0x0800 then some .ip4
    else if t = 0x86DD then some .ip6 else if t = 0x8847 then some .mpls else none
  | .udp =>
    let d := be16 b (pos + 2)
    if d = c.vxlanPort then some .vxlan
    else if d = 319 ∨ d = 320 then some .ptp
    else if d = c.c37Udp then some (.c37 false)
    else none
  | .tcp => if be16 b pos = c.c37Tcp ∨ be16 b (pos + 2) = c.c37Tcp then some (.c37 true) else none
  | .vxlan => some .eth
  | .ptp => none
  | .sv => none
  | .goose => none
  | .c37 _ => none

/-- A tunnel header (R181). -/
def isTunnel : HdrKind → Bool
  | .vxlan => true
  | .gre => true
  | _ => false

/-- A header that carries time or ends a parse on its own. -/
def isIp : HdrKind → Bool
  | .ip4 => true
  | .ip6 => true
  | _ => false

/-- The parse takes header `k` at `pos`, or ends (R179, R180, R183 to R186). No claim reaches into a redundancy trailer
(R185, R192). DESIGN CHOICE: a C37.118.2 header over TCP that begins within byte 255, would end beyond it and does not begin
with 0xAA ends as R180 says, without PARSE_LIMIT. -/
def parseHdr (c : PrkCfg) (b : List Nat) (p : ParseSt) (k : HdrKind) (pos : Nat) :
    ParseSt × Option (HdrKind × Nat) :=
  let n := b.length
  let len := hdrLen b pos k
  let cut := ({ p with limit := true, cut := some k }, none)
  match p.claim with
  | some e => if e ≤ pos then (p, none) else go n len cut e
  | none => go n len cut n
where
  /-- The header begins before the innermost claimed end `inner`. -/
  go (n len : Nat) (cut : ParseSt × Option (HdrKind × Nat)) (inner : Nat) : ParseSt × Option (HdrKind × Nat) :=
    if 16 ≤ p.hdrs.length ∨ 256 < pos + hdrNeeds k then cut
    else if n < pos + hdrNeeds k then ({ p with conflict := true, clash := some k }, none)
    else if k = .c37 true ∧ byteAt b pos ≠ 0xAA then ({ p with midFrame := true }, none)
    else if 256 < pos + len then cut
    else if hdrBad b pos k then ({ p with bad := true }, none)
    else
      let second := isTunnel k && p.hdrs.any (fun h => isTunnel h.kind)
      let p' := { p with
        hdrs := p.hdrs ++ [⟨k, pos, len⟩]
        csumBad := p.csumBad || (k == .ip4 && c.csumChk && !ip4SumOk b pos)
        nested := p.nested || second }
      let f := hdrFrag b pos k
      if hdrConflict b n p.ipEnd inner pos k then
        ({ p' with conflict := true, clash := some k, frag := f.1, fragLater := f.2 }, none)
      else
        let p' := match hdrClaim b pos k with
          | some e => { p' with claim := some (min e (p.trailer.getD e)), ipEnd := if isIp k then e else p'.ipEnd }
          | none => p'
        if f.1 then ({ p' with frag := true, fragLater := f.2 }, none)
        else if second then (p', none)
        else (p', (hdrNext c b pos k).map (fun k' => (k', pos + len)))

/-- Headers are taken until parsing ends; 17 tries reach the limit of 16 headers. -/
def parseLoop (c : PrkCfg) (b : List Nat) : Nat → ParseSt → HdrKind → Nat → ParseSt
  | 0, p, _, _ => p
  | fuel + 1, p, k, pos =>
    match parseHdr c b p k pos with
    | (p', some (k', pos')) => parseLoop c b fuel p' k' pos'
    | (p', none) => p'

/-! ### Redundancy trailer (R192) -/

/-- Whether the last 6 bytes of a frame are a redundancy control trailer. -/
def isPrp (b : List Nat) : Bool :=
  decide (20 ≤ b.length) && be16 b (b.length - 2) == 0x88FB &&
    bits (be16 b (b.length - 4)) 11 0 == b.length - 14

/-! ### Time records (R188 to R190) -/

/-- A record without a time. -/
def noTime (stat : Nat) : TimeRec := { stat := stat }

/-- The five words of a time record (Table 6.4). -/
def timeWords (r : TimeRec) : List Nat :=
  [r.id * 2 ^ 16 + r.sync * 2 ^ 8 + r.stat * 2 ^ 4 + r.kind, r.tLo, r.tHi, r.aux, r.extra]

/-- The length of a BER element whose length field begins at `i`: the length and the first byte of its
value, or none for a form that is not accepted. -/
def berLen (b : List Nat) (i : Nat) : Option (Nat × Nat) :=
  let l := byteAt b i
  if l < 128 then some (l, i + 1)
  else if l = 0x81 then some (byteAt b (i + 1), i + 2)
  else if l = 0x82 then some (be16 b (i + 1), i + 3)
  else none

/-- The step of a BER walk at byte `i` of data that ends at `fin`: STAT 2 beyond the data, STAT 3 beyond
byte 255, else the tag, the length and the first byte of the value. -/
def berAt (b : List Nat) (fin i : Nat) : Nat ⊕ (Nat × Nat × Nat) :=
  if fin ≤ i + 1 then .inl 2
  else if 256 ≤ i + 1 then .inl 3
  else match berLen b (i + 1) with
    | none => .inl 2
    | some (l, v) => if fin < v then .inl 2 else if 256 < v then .inl 3 else .inr (byteAt b i, l, v)

/-- What the walk of an ASDU has read. -/
structure Asdu where
  cnt : Option Nat := none
  ref : Option Nat := none
  syn : Option Nat := none
  deriving DecidableEq, Repr

/-- The elements of the first ASDU from `i` up to `fin` (R189): where smpCnt, refrTm and smpSynch lie, or the
STAT of a walk that fails. -/
def asduWalk (b : List Nat) (fin : Nat) : Nat → Nat → Asdu → Nat ⊕ Asdu
  | 0, _, a => .inr a
  | fuel + 1, i, a =>
    if fin ≤ i then .inr a
    else if 256 ≤ i + 1 && a.cnt.isSome && a.syn.isSome then .inr a
    else match berAt b fin i with
      | .inl st => .inl st
      | .inr (tag, l, v) =>
        if fin < v + l then .inl 2
        else if tag = 0x82 then
          if l ≠ 2 ∨ a.cnt.isSome ∨ a.ref.isSome ∨ a.syn.isSome then .inl 2
          else if 256 < v + l then .inl 3
          else asduWalk b fin fuel (v + l) { a with cnt := some v }
        else if tag = 0x84 then
          if l ≠ 8 ∨ a.ref.isSome ∨ a.cnt.isNone ∨ a.syn.isSome then .inl 2
          else if 256 < v + l then .inl 3
          else asduWalk b fin fuel (v + l) { a with ref := some v }
        else if tag = 0x85 then
          if l ≠ 1 ∨ a.syn.isSome ∨ a.cnt.isNone then .inl 2
          else if 256 < v + l then .inl 3
          else asduWalk b fin fuel (v + l) { a with syn := some v }
        else asduWalk b fin fuel (v + l) a

/-- The time record of an SV header at `pos`, `fin` being the end of its data (R189). DESIGN CHOICE: a noASDU element of
another length than 1 gives its last byte, and one of length 0 the byte before its value. -/
def svTime (b : List Nat) (pos fin : Nat) : TimeRec :=
  match berAt b fin (pos + 8) with
  | .inl st => noTime st
  | .inr (t1, _, i1) =>
    if t1 ≠ 0x60 then noTime 2
    else match berAt b fin i1 with
    | .inl st => noTime st
    | .inr (t2, l2, i2) =>
      if t2 ≠ 0x80 then noTime 2
      else if fin < i2 + l2 then noTime 2
      else if 256 < i2 + l2 then noTime 3
      else
        let n := byteAt b (i2 + l2 - 1)
        match berAt b fin (i2 + l2) with
        | .inl st => noTime st
        | .inr (t3, l3, i3) =>
          if t3 = 0x81 then
            match berAt b fin (i3 + l3) with
            | .inl st => noTime st
            | .inr (t4, _, i4) => if t4 ≠ 0xA2 then noTime 2 else first n i4
          else if t3 ≠ 0xA2 then noTime 2
          else first n i3
where
  /-- The first ASDU of the sequence whose value begins at `i`. -/
  first (n i : Nat) : TimeRec :=
    match berAt b fin i with
    | .inl st => noTime st
    | .inr (t, l, v) =>
      if t ≠ 0x30 ∨ fin < v + l then noTime 2
      else match asduWalk b (v + l) 256 v {} with
        | .inl st => noTime st
        | .inr a =>
          match a.cnt, a.syn with
          | some c, some y =>
            let base : TimeRec := { kind := 2, id := be16 b pos, sync := byteAt b y, aux := be16 b c, extra := n }
            match a.ref with
            | some r => { base with kind := 3, tHi := be32 b r, tLo := be32 b (r + 4) }
            | none => base
          | _, _ => noTime 2

/-- The time record of a C37.118.2 header at `pos` (R189). -/
def c37Time (b : List Nat) (pos fin : Nat) : TimeRec :=
  let y := byteAt b (pos + 1)
  if bits y 6 4 ≠ 0 then noTime 1
  else if bits y 3 0 ≠ 1 ∧ bits y 3 0 ≠ 2 then noTime 2
  else if fin < pos + 14 then noTime 2
  else { kind := 1, id := be16 b (pos + 4), tHi := be32 b (pos + 6), tLo := be32 b (pos + 10), extra := bits y 3 0 }

/-- A correctionField in whole nanoseconds: rounded towards zero, saturated at ±(2^31 − 1) (Table 6.4). -/
def corrNs (c : Nat) : Nat :=
  let i := Int.tdiv (signed 64 c) 65536
  unsigned 32 (if i < -(2 ^ 31 - 1) then -(2 ^ 31 - 1) else if 2 ^ 31 - 1 < i then 2 ^ 31 - 1 else i)

/-- The time record of a PTP header at `pos` (R189). -/
def ptpTime (b : List Nat) (pos fin : Nat) : TimeRec :=
  let m := bits (byteAt b pos) 3 0
  if 3 < m then noTime 1
  else if fin < pos + 44 then noTime 2
  else { kind := 4, id := be16 b (pos + 30), sync := byteAt b (pos + 4)
         tHi := be32 b (pos + 36), tLo := be32 b (pos + 40)
         aux := corrNs (beNat (slice b (pos + 8) 8))
         extra := be16 b (pos + 34) + m * 2 ^ 16 + bits (byteAt b (pos + 6)) 1 1 * 2 ^ 20 }

/-- Whether a header can carry time (R188). -/
def isTimed : HdrKind → Bool
  | .ptp => true
  | .sv => true
  | .goose => true
  | .c37 _ => true
  | _ => false

/-- The time record of a frame (R188 to R190). -/
def timeRec (b : List Nat) (p : ParseSt) : TimeRec :=
  if p.cut = some .goose ∨ p.clash = some .goose then noTime 1
  else if p.cut.any isTimed then noTime 3
  else if p.clash.any isTimed then noTime 5
  else if p.midFrame then noTime 4
  else if p.frag then noTime 0
  else match p.hdrs.find? (fun h => isTimed h.kind) with
    | none => noTime 0
    | some h =>
      let fin := (p.claim.getD b.length).min b.length
      match h.kind with
      | .goose => noTime 1
      | .sv => svTime b h.pos fin
      | .c37 _ => c37Time b h.pos fin
      | _ => ptpTime b h.pos fin

/-! ### The parse result (R182, R187) -/

/-- The parse of the bytes of a frame, less its FCS; `prpOn` says that its port is enabled for PRP. -/
def parseFrame (c : PrkCfg) (prpOn : Bool) (b : List Nat) : Parsed :=
  let prp := prpOn && isPrp b
  let tail := if prp then some (b.length - 6) else none
  let st := parseLoop c b 17 { claim := tail, trailer := tail } .eth 0
  let pay := st.hdrs.foldl (fun _ h => h.pos + h.len) 0
  { st := st, time := timeRec b st, prp := prp, head := b.take 256
    pay := pay, payEnd := (st.claim.getD b.length).min (if prp then b.length - 6 else b.length) }

/-- The parse flags (Table 6.3). -/
def parseFlags (p : Parsed) : Nat :=
  let has (k : HdrKind → Bool) : Bool := p.st.hdrs.any (fun h => k h.kind)
  b2n p.st.limit + 2 * b2n p.st.conflict + 4 * b2n p.st.bad + 8 * b2n p.st.frag
    + 16 * b2n p.st.fragLater + 32 * b2n p.st.csumBad
    + 64 * b2n (p.st.hdrs.any (fun h => h.kind == .ip4 && decide (20 < h.len)))
    + 128 * b2n (has isTunnel) + 256 * b2n p.st.nested + 512 * b2n (p.time.kind != 0)
    + 1024 * b2n p.inspected + 2048 * b2n p.skipped + 4096 * b2n p.hitOvf
    + 8192 * b2n (p.st.hdrs.any (fun h => h.kind == .ptp && decide (bits (byteAt p.head h.pos) 3 0 ≤ 3)))
    + 16384 * b2n (has (· == .hsr)) + 32768 * b2n p.prp

/-! ### Key fields (R206, Table 7.1) -/

/-- The headers of a view: 0 outer, 1 inner; a frame without a tunnel has one view. -/
def viewHdrs (p : Parsed) (inner : Bool) : List Hdr :=
  if p.st.hdrs.any (fun h => isTunnel h.kind) then
    if inner then (p.st.hdrs.dropWhile (fun h => !isTunnel h.kind)).drop 1
    else p.st.hdrs.takeWhile (fun h => !isTunnel h.kind)
  else p.st.hdrs

/-- A tag: VLAN or HSR. -/
def isTag (h : Hdr) : Bool := h.kind == .vlan || h.kind == .hsr

/-- The first Ethernet header of a view and the tags that follow it. -/
def viewEth (hs : List Hdr) : Option (Hdr × List Hdr) :=
  match hs.dropWhile (fun h => h.kind != .eth) with
  | [] => none
  | e :: rest => some (e, rest.takeWhile isTag)

/-- The EtherType that ends a header of the Ethernet family. -/
def etherTypeOf (b : List Nat) (h : Hdr) : Nat := be16 b (h.pos + h.len - 2)

/-- The first header of a kind in a view. -/
def viewFind (hs : List Hdr) (f : HdrKind → Bool) : Option Hdr := hs.find? (fun h => f h.kind)

/-- An L4 header. -/
def isL4 : HdrKind → Bool
  | .udp => true
  | .tcp => true
  | _ => false

/-- The IP protocol of a list of headers: the IPv4 Protocol, or the Next Header of the last IPv6-family header. -/
def protoOf (b : List Nat) (hs : List Hdr) : Option Nat :=
  hs.foldl (fun a h => match h.kind with
    | .ip4 => some (byteAt b (h.pos + 9))
    | .ip6 => some (byteAt b (h.pos + 6))
    | .ext => some (byteAt b h.pos)
    | .frag6 => some (byteAt b h.pos)
    | .ah => some (byteAt b h.pos)
    | _ => a) none

/-- The VXLAN network identifier of the tunnel header. -/
def vniOf (p : Parsed) : Option Nat :=
  match p.st.hdrs.find? (fun h => isTunnel h.kind) with
  | some h => if h.kind = .vxlan then some (beNat (slice p.head (h.pos + 4) 3)) else none
  | none => none

/-- Key field `code` of a view, none where it is not valid (Table 7.1). -/
def keyField (p : Parsed) (port : Nat) (inner : Bool) (code : Nat) : Option Nat :=
  let b := p.head
  let hs := viewHdrs p inner
  let eth := viewEth hs
  let vid := eth.bind (fun e => e.2.find? (fun h => h.kind == .vlan))
  let ip4 := viewFind hs (· == .ip4)
  let ip6 := viewFind hs (· == .ip6)
  let l4 := viewFind hs isL4
  match code with
  | 0 => some port
  | 1 => some (parseFlags p)
  | 2 => eth.map (fun e => etherTypeOf b ((e.2.getLast?).getD e.1))
  | 3 => vid.map (fun h => bits (be16 b h.pos) 11 0)
  | 4 => vid.map (fun h => bits (be16 b h.pos) 15 13)
  | 5 => eth.map (fun e => beNat (slice b e.1.pos 6))
  | 6 => eth.map (fun e => beNat (slice b (e.1.pos + 6) 6))
  | 7 => protoOf b hs
  | 8 => match ip4, ip6 with
    | some h, _ => some (bits (byteAt b (h.pos + 1)) 7 2)
    | none, some h => some (bits (be16 b h.pos) 11 6)
    | none, none => none
  | 9 => ip4.map (fun h => be32 b (h.pos + 12))
  | 10 => ip4.map (fun h => be32 b (h.pos + 16))
  | 11 => ip6.map (fun h => beNat (slice b (h.pos + 8) 16))
  | 12 => ip6.map (fun h => beNat (slice b (h.pos + 24) 16))
  | 13 => l4.map (fun h => be16 b h.pos)
  | 14 => l4.map (fun h => be16 b (h.pos + 2))
  | 15 => (viewFind hs (· == .tcp)).map (fun h => byteAt b (h.pos + 13))
  | 16 => vniOf p
  | _ => none

/-- A key field with an invalid one as 0 (R206). -/
def keyVal (p : Parsed) (port : Nat) (inner : Bool) (code : Nat) : Nat := (keyField p port inner code).getD 0

/-! ### Memory errors (R202, R220 and the like) -/

/-- The entry of a table that an uncorrectable error has marked, until it is rewritten. -/
def eccBad (s : State) (p : Page) (n entry : Nat) : Bool := tabGet s.ecc false (wordKey p n entry)

/-! ### Payload inspection (R193 to R197) -/

/-- The words of entry `e` of a table in force. -/
def entryWords (s : State) (p : Page) (n e : Nat) : List Nat :=
  let w := ((pageSpace p n).map (·.width)).getD 1
  words s p n (w * e) w

/-- The entries of a table with a word in force other than its reset value, rising. -/
def entriesListed (s : State) (p : Page) (n : Nat) : List Nat :=
  let w := ((pageSpace p n).map (·.width)).getD 1
  let lo := wordKey p n 0
  dedup ((s.ind.filter (fun e => decide (lo ≤ e.1) && decide (e.1 < lo + 2 ^ 32))).map (fun e => (e.1 - lo) / w))

/-- Whether a selection entry matches a frame (R193). -/
def selMatches (p : Parsed) (front : Option Nat) (e : List Nat) : Bool :=
  let w0 := e.getD 0 0
  let w1 := e.getD 1 0
  let w2 := e.getD 2 0
  let w3 := e.getD 3 0
  let lastEt := (p.st.hdrs.filter (fun h => h.kind == .eth || isTag h)).getLast?
  let l4 := (p.st.hdrs.filter (fun h => isL4 h.kind)).getLast?
  (match front with | some i => bit w1 i | none => bit w0 29)
    && (!bit w2 9 || lastEt.any (fun h => etherTypeOf p.head h == bits w2 31 16))
    && (!bit w2 8 || protoOf p.head p.st.hdrs == some (bits w2 7 0))
    && ((bits w3 15 0 == 0 && bits w3 31 16 == 0xFFFF) ||
        l4.any (fun h => decide (bits w3 15 0 ≤ be16 p.head (h.pos + 2)) &&
          decide (be16 p.head (h.pos + 2) ≤ bits w3 31 16)))

/-- The selection of a frame in hoop `h`: DEPTH and GROUPS when it is selected (R193). -/
def selectFrame (s : State) (h : Nat) (front : Option Nat) (p : Parsed) : Option (Nat × Nat) :=
  if !cfgB s (.prk h) Fld.PRK_CTRL_INSP_EN || p.st.conflict || p.st.frag || p.st.bad then none
  else
    let es := (List.range 64).filter (fun i => !eccBad s (.prk h) 2 i)
    match (es.map (entryWords s (.prk h) 2)).find? (fun e => bit (e.getD 0 0) 31 && selMatches p front e) with
    | some e => if bit (e.getD 0 0) 30 then some (bits (e.getD 0 0) 20 16, bits (e.getD 0 0) 15 0) else none
    | none => none

/-- An ASCII letter in lower case. -/
def lowerCase (c : Nat) : Nat := if 65 ≤ c ∧ c ≤ 90 then c + 32 else c

/-- Whether a pattern matches the window at an offset (R195). -/
def patMatches (win : List Nat) (groups : Nat) (e : List Nat) (o : Nat) : Bool :=
  let w18 := e.getD 18 0
  let w19 := e.getD 19 0
  let len := bits w18 6 0
  let care := e.getD 16 0 + e.getD 17 0 * 2 ^ 32
  let eq (x y : Nat) : Bool := if bit w18 8 then lowerCase x == lowerCase y else x == y
  bit w18 31 && bit groups (bits w18 19 16) && decide (bits w19 9 0 ≤ o) && decide (o ≤ bits w19 25 16)
    && decide (o + len ≤ win.length)
    && (List.range len).all (fun j => !bit care j || eq (byteAt win (o + j)) (e.getD (j / 4) 0 / 2 ^ (8 * (j % 4)) % 256))

/-- Every hit of a window, by offset and then by pattern (R195, R196). -/
def scanWindow (s : State) (h groups : Nat) (win : List Nat) : List (Nat × Nat) :=
  let ids := ((entriesListed s (.prk h) 1).filter (fun i => !eccBad s (.prk h) 1 i)).map
    (fun i => (i, entryWords s (.prk h) 1 i))
  let ids := ids.foldl (fun acc x => insertBy (·.1) x acc) []
  (List.range win.length).flatMap (fun o =>
    (ids.filter (fun x => patMatches win groups x.2 o)).map (fun x => (x.1, o)))

/-! ### The scan credit (R197) -/

/-- The credit of hoop `h` now, in eighths of a byte: RATE_100G × 12.5 bytes per ns are RATE_100G × 25
eighths in a quarter ns. -/
def scanCredit8 (s : State) (h : Nat) : Nat :=
  let x := tabGet s.scan {} h
  let ceil := cfg s (.prk h) Fld.PRK_INSP_RATE_BURST_KIB * 8192
  let have8 := 524288 - x.spent8
  sat (if ceil < have8 then have8 else ceil)
    (have8 + (if domainOff s (.prk h) then 0 else s.now - x.at4) * 25 * cfg s (.prk h) Fld.PRK_INSP_RATE_RATE_100G)

/-- The credit of hoop `h` is set. -/
def putCredit8 (s : State) (h c : Nat) : State :=
  { s with scan := tabPut s.scan {} h ⟨524288 - c, s.now⟩ }

/-- The credit as it stands when the hoop's clock stops, and its rise from there when the clock runs again: PRK_CREDIT
holds the value it had (R122). -/
def scanSettle (s : State) (h : Nat) : State := putCredit8 s h (scanCredit8 s h)

/-- The credit rises again from what it was. -/
def scanResume (s : State) (h : Nat) : State :=
  { s with scan := tabPut s.scan {} h { tabGet s.scan {} h with at4 := s.now } }

/-- A commit clamps the credit to a new ceiling at the apply, and the credit rises from there at the new
rate (R197). `old` is the state before the apply. -/
def scanApplied (old s : State) (h : Nat) : State :=
  let f := Fld.PRK_INSP_RATE_BURST_KIB
  let c := scanCredit8 old h
  if cfg old (.prk h) f != cfg s (.prk h) f
      || cfg old (.prk h) Fld.PRK_INSP_RATE_RATE_100G != cfg s (.prk h) Fld.PRK_INSP_RATE_RATE_100G then
    putCredit8 s h (sat (cfg s (.prk h) f * 8192) c)
  else s

/-- Selection and scanning of a parsed frame whose bytes are `b`, with the page's counters and sticky bits. -/
def inspect (s : State) (h : Nat) (front : Option Nat) (b : List Nat) (p : Parsed) : State × Parsed :=
  match selectFrame s h front p with
  | none => (s, p)
  | some (depth, groups) =>
    let win := slice b p.pay (min (64 * depth) (p.payEnd - p.pay))
    let c := scanCredit8 s h
    if 8 * win.length ≤ c then
      let s := putCredit8 s h (c - 8 * win.length)
      let hits := scanWindow s h groups win
      let s := bump s (.prk h) 10 1
      let s := bump s (.prk h) 11 win.length
      let s := bump s (.prk h) 13 hits.length
      let ovf := decide (4 < hits.length)
      let s := if ovf then stick (bump s (.prk h) 14 1) (.prk h) Fld.PRK_STICKY_HIT_OVF else s
      (s, { p with inspected := true, win := p.pay + win.length, hits := hits.take 4, hitOvf := ovf })
    else
      let s := bump s (.prk h) 12 1
      (stick s (.prk h) Fld.PRK_STICKY_INSP_SKIP, { p with skipped := true })

/-! ### Parsing in a hoop (R177, R204) -/

/-- One count of a parse result. -/
def countIf (c : Bool) (s : State) (p : Page) (i : Nat) : State := if c then bump s p i 1 else s

/-- A frame is parsed, selected and scanned in hoop `h`; `front` is its port within the hoop, where it came
from a front port. -/
def parseIn (s : State) (h : Nat) (front : Option Nat) (prpOn : Bool) (b : List Nat) : State × Parsed :=
  let p := parseFrame (prkCfg s h) prpOn b
  let g := Page.prk h
  let s := bump s g 0 1
  let s := countIf p.st.limit s g 1
  let s := countIf p.st.conflict s g 2
  let s := countIf p.st.bad s g 3
  let s := countIf (p.st.frag && !p.st.fragLater) s g 4
  let s := countIf p.st.fragLater s g 5
  let s := countIf p.st.csumBad s g 6
  let s := countIf p.st.nested s g 7
  let s := countIf (p.time.kind != 0) s g 8
  let err := decide (2 ≤ p.time.stat)
  let s := countIf err s g 9
  let s := stickIf err s g Fld.PRK_STICKY_TIME_ERR
  inspect s h front b p

/-! ### Commits and the shadow copy (R200, R201) -/

/-- EtherTypes that TPID1 and TPID2 may not be (R201). -/
def tpidTaken (e : Nat) : Bool :=
  [0x0800, 0x86DD, 0x8847, 0x8848, 0x88F7, 0x88BA, 0x88B8, 0x892F].contains e

/-- The latched words of entry `e`. -/
def entryWordsL (s : State) (p : Page) (n e : Nat) : List Nat :=
  let w := ((pageSpace p n).map (·.width)).getD 1
  (List.range w).map (fun i => wordL s p n (w * e + i))

/-- Entries whose latched words differ from those in force or that are listed in either. -/
def entriesLatched (s : State) (p : Page) (n : Nat) : List Nat :=
  let w := ((pageSpace p n).map (·.width)).getD 1
  let lo := wordKey p n 0
  dedup ((s.indL.filter (fun e => decide (lo ≤ e.1) && decide (e.1 < lo + 2 ^ 32))).map (fun e => (e.1 - lo) / w))

/-- A latched pattern that R201 refuses. -/
def patBad (e : List Nat) : Bool :=
  let w18 := e.getD 18 0
  let w19 := e.getD 19 0
  bit w18 31 && (bits w18 6 0 == 0 || decide (64 < bits w18 6 0) || !bit (e.getD 16 0) 0
    || decide (bits w19 25 16 < bits w19 9 0))

/-- A latched selection entry that R201 refuses. -/
def selBad (e : List Nat) : Bool :=
  let w0 := e.getD 0 0
  bit w0 31 && ((bit w0 30 && (bits w0 20 16 == 0 || decide (16 < bits w0 20 16)))
    || decide (bits (e.getD 3 0) 31 16 < bits (e.getD 3 0) 15 0))

/-- The rules of R201 that the latched values of PRK page `h` break. -/
def prkLatchedBad (s : State) (h : Nat) : Bool :=
  let p := Page.prk h
  let t1 := ltc s p Fld.PRK_TPID_TPID1
  let t2 := ltc s p Fld.PRK_TPID_TPID2
  let v := ltc s p Fld.PRK_UDP_PORT_VXLAN_PORT
  let c := ltc s p Fld.PRK_UDP_PORT_C37_UDP
  let badPort (x : Nat) : Bool := x == 0 || x == 319 || x == 320
  let rate := ltc s p Fld.PRK_INSP_RATE_RATE_100G
  let burst := ltc s p Fld.PRK_INSP_RATE_BURST_KIB
  t1 == t2 || tpidTaken t1 || tpidTaken t2 || badPort v || badPort c || v == c
    || ltc s p Fld.PRK_TCP_PORT_C37_TCP == 0 || rate == 0 || decide (9 ≤ rate) || burst == 0 || decide (64 < burst)
    || (entriesLatched s p 1).any (fun e => patBad (entryWordsL s p 1 e))
    || (entriesLatched s p 2).any (fun e => selBad (entryWordsL s p 2 e))

/-- PAT_COUNT: the valid patterns in force (Table 6.9). -/
def patCount (s : State) (h : Nat) : Nat :=
  ((entriesListed s (.prk h) 1).filter (fun i => bit (word s (.prk h) 1 (20 * i + 18)) 31)).length

/-- PRK_SYNC_DONE (R200): the copy of the new contents into the shadow ends and SYNC_BUSY clears. -/
def execPrkSyncDone (h : Nat) (s : State) : Host.Outcome State Fault Refusal :=
  .next (wr s (.prk h) Fld.PRK_STATUS_SYNC_BUSY 0)

end Sys2Proof.Machine
end

