-- ==== Sys2Proof/Machine/Classifier.lean ====
section
/-! DEFINITION. The decision-tree classifier (chapter 7): the block map and its checks, rules, tree walks, the
panel default, rule counters and the swap of trees at a commit. -/

namespace Sys2Proof.Machine

/-! ### The block map (R207 to R211) -/

/-- The map entry of block `k` of panel `p` (Table 7.2): STATE 0 FREE, 1 STAGED, 2 LIVE, 3 RETIRE. -/
def clsBlk (s : State) (p k : Nat) : MapBlk := tabGet s.clsMap {} (262144 * p + k)

/-- A map entry is replaced. -/
def putClsBlk (s : State) (p k : Nat) (b : MapBlk) : State :=
  { s with clsMap := tabPut s.clsMap {} (262144 * p + k) b }

/-- The map entries of panel `p` that are not FREE. -/
def clsBlks (s : State) (p : Nat) : List MapBlk :=
  (tabSel (fun k => k / 262144 == p) s.clsMap).map (·.2)

/-- The number of blocks of panel `p` in a state. -/
def clsCount (s : State) (p st : Nat) : Nat := ((clsBlks s p).filter (fun b => b.state == st)).length

/-- The words of block `k`: one memory under spaces 1, 2 and 3 (R207). -/
def clsWords (s : State) (p k : Nat) : List Nat := words s (.cls p) 1 (16 * k) 16

/-- A reserved destination port (R24): 1031 or 1040 and above. -/
def portReserved (t : Nat) : Bool := t == 1031 || decide (1040 ≤ t)

/-- A rule block that R213 refuses. -/
def ruleBad (w : List Nat) : Bool :=
  let g := fun i => w.getD i 0
  let form := bits (g 0) 29 28
  (bits (g 1) 31 30 == 2 && portReserved (bits (g 1) 10 0))
    || (bits (g 1) 31 30 == 3 && decide (17 ≤ bits (g 2) 22 18))
    || (form == 0 && (decide (32 < bits (g 10) 13 8) || decide (32 < bits (g 10) 5 0)
        || decide (bits (g 11) 31 16 < bits (g 11) 15 0) || decide (bits (g 12) 31 16 < bits (g 12) 15 0)))
    || (form == 1 && (decide (64 < bits (g 12) 14 8) || decide (64 < bits (g 12) 6 0)
        || decide (bits (g 13) 31 16 < bits (g 13) 15 0) || decide (bits (g 14) 31 16 < bits (g 14) 15 0)))
    || (form == 3 && (decide (128 < bits (g 7) 31 24) || decide (128 < bits (g 7) 23 16)))

/-- A node slot that R213 refuses. -/
def slotBad (w0 w1 : Nat) : Bool :=
  bits w0 31 30 == 3 || (bits w0 31 30 == 1 &&
    (decide (17 ≤ bits w0 29 25) || decide (1048575 < bits w1 19 0 + 2 ^ (bits w0 17 15 + 1) - 1)))

/-- A block written through a space (1 node, 2 leaf, 3 rule) that R213 refuses. -/
def blockBad (space : Nat) (w : List Nat) : Bool :=
  match space with
  | 1 => (List.range 4).any (fun i => slotBad (w.getD (4 * i) 0) (w.getD (4 * i + 1) 0))
  | 2 => decide (8 < bits (w.getD 0 0) 3 0)
  | _ => ruleBad w

/-- A write to spaces 1 to 4 is refused. -/
def clsRefuse (s : State) (p : Nat) : State := stick s (.cls p) Fld.CLS_STICKY_RULE_REFUSED

/-- A block is written whole through space 1, 2 or 3: the new state and the ERR of the transfer (R209, R211,
R213). -/
def clsBlockWrite (s : State) (p space k : Nat) (w : List Nat) : State × Nat :=
  let b := clsBlk s p k
  if b.atClose then (clsRefuse s p, 6)
  else if 2 ≤ b.state || blockBad space w then (clsRefuse s p, 2)
  else
    let s := (List.range 16).foldl (fun s i => putWord s (.cls p) 1 (16 * k + i) (w.getD i 0)) s
    let s := { s with ecc := tabSel (fun e => decide (e < wordKey (.cls p) 1 (16 * k)) ||
      decide (wordKey (.cls p) 1 (16 * k + 16) ≤ e)) s.ecc }
    (putClsBlk s p k { b with state := 1, kind := space }, 0)

/-- CMD 1 RETIRE of block `k` (R210). -/
def clsRetire (s : State) (p k : Nat) : State × Nat :=
  let b := clsBlk s p k
  if b.state = 2 then (putClsBlk s p k { b with retPend := true }, 0) else (clsRefuse s p, 2)

/-- CMD 2 UNSTAGE of block `k` (R210, R211). -/
def clsUnstage (s : State) (p k : Nat) : State × Nat :=
  let b := clsBlk s p k
  if b.atClose then (clsRefuse s p, 6)
  else if b.state = 1 then (putClsBlk s p k {}, 0)
  else (clsRefuse s p, 2)

/-- CMD 3 KEEP of block `k` (R210, R211). DESIGN CHOICE: between the close and the boundary it is refused only for the blocks
that the close marked; one whose RET_PEND was set later is kept. -/
def clsKeep (s : State) (p k : Nat) : State × Nat :=
  let b := clsBlk s p k
  if b.atClose then (clsRefuse s p, 6)
  else if b.retPend then (putClsBlk s p k { b with retPend := false }, 0)
  else (clsRefuse s p, 2)

/-- A write of a word to an entry of space 4 (R210). -/
def clsMapWrite (s : State) (p k w : Nat) : State × Nat :=
  match bits w 9 8 with
  | 1 => clsRetire s p k
  | 2 => clsUnstage s p k
  | 3 => clsKeep s p k
  | _ => (s, 0)

/-- A read of an entry of space 4 (R210). -/
def clsMapRead (s : State) (p k : Nat) : Nat :=
  let b := clsBlk s p k
  b.state + 4 * b2n b.retPend + 16 * b.kind

/-! ### Rules (R212) -/

/-- A masked field: a mask other than 0 needs a valid key that agrees under it. -/
def maskTest (key : Option Nat) (mask val : Nat) : Bool :=
  mask == 0 || key.any (fun k => (k &&& mask) == (val &&& mask))

/-- An enabled field. -/
def enTest (key : Option Nat) (en : Bool) (val : Nat) : Bool := !en || key == some val

/-- A prefix of `len` bits of a key of `w` bits. -/
def prefixTest (key : Option Nat) (w len val : Nat) : Bool :=
  len == 0 || key.any (fun k => k / 2 ^ (w - len) == val / 2 ^ (w - len))

/-- A range of ports in a word, HI in bits 31:16 and LO in bits 15:0. -/
def rangeTest (key : Option Nat) (w : Nat) : Bool :=
  w == 0xFFFF_0000 || key.any (fun k => decide (bits w 15 0 ≤ k) && decide (k ≤ bits w 31 16))

/-- Whether a rule matches a frame in a view (R212). -/
def ruleMatches (pr : Parsed) (port : Nat) (inner : Bool) (w : List Nat) : Bool :=
  let g := fun i => w.getD i 0
  let key := keyField pr port inner
  let hs := viewHdrs pr inner
  let has (k : HdrKind) : Bool := (viewFind hs (· == k)).isSome
  bit (g 0) 31
    && maskTest (key 0) (bits (g 4) 26 16) (bits (g 4) 10 0)
    && maskTest (key 1) (bits (g 5) 31 16) (bits (g 5) 15 0)
    && enTest (key 8) (bit (g 6) 22) (bits (g 6) 21 16)
    && maskTest (key 7) (bits (g 6) 15 8) (bits (g 6) 7 0)
    && (!bit (g 7) 14 || pr.hits.any (fun h => h.1 == bits (g 7) 13 0))
    && match bits (g 0) 29 28 with
      | 0 => has .ip4 && prefixTest (key 9) 32 (bits (g 10) 5 0) (g 8) && prefixTest (key 10) 32 (bits (g 10) 13 8) (g 9)
          && maskTest (key 15) (bits (g 10) 31 24) (bits (g 10) 23 16)
          && rangeTest (key 13) (g 11) && rangeTest (key 14) (g 12)
          && maskTest (key 3) (bits (g 13) 27 16) (bits (g 13) 11 0)
          && enTest (key 16) (bit (g 14) 24) (bits (g 14) 23 0)
      | 1 => has .ip6
          && prefixTest (key 11) 128 (bits (g 12) 6 0) (g 8 * 2 ^ 96 + g 9 * 2 ^ 64)
          && prefixTest (key 12) 128 (bits (g 12) 14 8) (g 10 * 2 ^ 96 + g 11 * 2 ^ 64)
          && maskTest (key 15) (bits (g 12) 31 24) (bits (g 12) 23 16)
          && rangeTest (key 13) (g 13) && rangeTest (key 14) (g 14)
          && maskTest (key 3) (bits (g 15) 27 16) (bits (g 15) 11 0)
      | 2 => has .eth
          && maskTest (key 5) (bits (g 9) 31 16 * 2 ^ 32 + g 10) (bits (g 9) 15 0 * 2 ^ 32 + g 8)
          && maskTest (key 6) (bits (g 12) 31 16 * 2 ^ 32 + g 13) (bits (g 12) 15 0 * 2 ^ 32 + g 11)
          && enTest (key 2) (bit (g 14) 16) (bits (g 14) 15 0)
          && maskTest (key 3) (bits (g 15) 27 16) (bits (g 15) 11 0)
      | _ => has .ip6
          && prefixTest (key 11) 128 (bits (g 7) 23 16) (g 8 * 2 ^ 96 + g 9 * 2 ^ 64 + g 10 * 2 ^ 32 + g 11)
          && prefixTest (key 12) 128 (bits (g 7) 31 24) (g 12 * 2 ^ 96 + g 13 * 2 ^ 64 + g 14 * 2 ^ 32 + g 15)

/-! ### The walk (R214) -/

/-- What a tree gives: a rule, none, or a fault with its REASON and LOC. -/
inductive TreeEnd where
  | none
  | rule (k : Nat)
  | fault (reason loc : Nat)
  deriving DecidableEq, Repr

/-- The REASON for which a walk cannot read `n` words from word `w` of block `k` as a block of a kind, 0 where it can;
the ECC is on each word (R220). -/
def blkReason (s : State) (p k kind w n : Nat) : Nat :=
  let b := clsBlk s p k
  if b.state < 2 then 1
  else if b.kind ≠ kind then 2
  else if (List.range n).any (fun i => eccBad s (.cls p) 1 (16 * k + w + i)) then 4
  else 0

/-- The rules of a leaf in list order; the first that matches is the tree's. -/
def leafWalk (s : State) (p : Nat) (pr : Parsed) (port : Nat) (inner : Bool) : List Nat → TreeEnd
  | [] => .none
  | r :: rs =>
    let why := blkReason s p r 3 0 16
    if why ≠ 0 then .fault why r
    else if ruleMatches pr port inner (clsWords s p r) then .rule r
    else leafWalk s p pr port inner rs

/-- The walk of a tree from a node slot; `fuel` cuts are left. -/
def treeWalk (s : State) (p : Nat) (pr : Parsed) (port : Nat) (inner : Bool) : Nat → Nat → TreeEnd
  | fuel, slot =>
    let why := blkReason s p (slot / 4) 1 (slot % 4 * 4) 4
    let w0 := word s (.cls p) 1 (4 * slot)
    let w1 := word s (.cls p) 1 (4 * slot + 1)
    if why ≠ 0 then .fault why slot
    else if bits w0 31 30 = 2 then
      let leaf := bits w1 17 0
      let n := bits (word s (.cls p) 1 (16 * leaf)) 3 0
      let why := blkReason s p leaf 2 0 (n + 1)
      if why ≠ 0 then .fault why leaf
      else leafWalk s p pr port inner ((List.range n).map (fun i => bits (word s (.cls p) 1 (16 * leaf + 1 + i)) 17 0))
    else if bits w0 31 30 = 1 then
      match fuel with
      | 0 => .fault 3 slot
      | fuel + 1 =>
        let v := keyVal pr port inner (bits w0 29 25) / 2 ^ bits w0 24 18 % 2 ^ (bits w0 17 15 + 1)
        treeWalk s p pr port inner fuel (bits w1 19 0 + v)
    else .none

/-- The end of tree `t`, none where it is not enabled. -/
def treeEnd (s : State) (p : Nat) (pr : Parsed) (port t : Nat) : TreeEnd :=
  if cfgB s (.cls p) (Fld.CLS_TREE_EN t) then
    treeWalk s p pr port (cfgB s (.cls p) (Fld.CLS_TREE_VIEW t)) 24 (cfg s (.cls p) (Fld.CLS_TREE_ROOT t))
  else .none

/-- The PRIORITY of a rule. -/
def rulePriority (s : State) (p r : Nat) : Nat := bits (word s (.cls p) 1 (16 * r)) 16 0

/-- The winner among tree results in tree order: the lowest PRIORITY, then the lowest tree (R214). -/
def treeWinner (s : State) (p : Nat) (es : List TreeEnd) : Option Nat :=
  es.foldl (fun w e => match w, e with
    | none, .rule r => some r
    | some x, .rule r => if rulePriority s p r < rulePriority s p x then some r else some x
    | w, _ => w) none

/-- A fault of tree `t` is counted and recorded (R220). -/
def treeFault (p : Nat) (s : State) (t reason loc : Nat) : State :=
  let g := Page.cls p
  let s := bump s g 5 1
  let s := wr s g Fld.CLS_FAULT_TREE t
  let s := wr s g Fld.CLS_FAULT_REASON reason
  let s := wr s g Fld.CLS_FAULT_LOC loc
  let s := stick s g Fld.CLS_STICKY_TREE_FAULT
  if reason = 4 then stick (bump s g 7 1) g Fld.CLS_STICKY_RULE_UNCORR else s

/-! ### The result (R215 to R217) -/

/-- The class of a frame whose rule sets none (R217). -/
def defaultClass (s : State) (p : Nat) (pr : Parsed) (port : Nat) : Nat :=
  match cfgB s (.cls p) Fld.CLS_DEFAULT_CLASS_FROM_PCP, keyField pr port false 4 with
  | true, some pcp => pcp
  | _, _ => cfg s (.cls p) Fld.CLS_DEFAULT_DEF_CLASS

/-- The result that a winning rule gives (R216, R217). -/
def ruleResult (s : State) (p : Nat) (pr : Parsed) (port r : Nat) : ClsResult :=
  let w := fun i => word s (.cls p) 1 (16 * r + i)
  { rule := some r
    disp := bits (w 1) 31 30
    target := bits (w 1) 10 0
    cls := if bit (w 1) 29 then bits (w 1) 28 26 else defaultClass s p pr port
    mirror := if bit (w 1) 25 then some (bits (w 1) 24 22) else none
    policer := if bit (w 2) 31 then some (bits (w 2) 17 0) else none
    handler := bits (w 2) 30 23
    bobSel := bits (w 2) 22 18
    profile := if bit (w 3) 30 then bits (w 3) 29 24 else cfg s (.cls p) Fld.CLS_DEFAULT_DEF_PROFILE }

/-- The panel default (R215). -/
def defaultResult (s : State) (p : Nat) (pr : Parsed) (port : Nat) : ClsResult :=
  { disp := cfg s (.cls p) Fld.CLS_DEFAULT_DEF_DISP
    target := cfg s (.cls p) Fld.CLS_DEFAULT_DEF_TARGET
    cls := defaultClass s p pr port
    profile := cfg s (.cls p) Fld.CLS_DEFAULT_DEF_PROFILE }

/-- The index of the frames count of rule counter `c` among the page's counters; the bytes count follows it. -/
def ruleCnt (c : Nat) : Nat := 1024 + 2 * c

/-- The counts of a lookup (R215, R222); `len` is the frame's length from DA to FCS. -/
def clsCounts (s : State) (p len : Nat) (r : ClsResult) : State :=
  let g := Page.cls p
  let s := bump s g 0 1
  let s := countIf r.rule.isNone s g 1
  let s := countIf (r.disp == 1) s g 2
  let s := countIf (r.disp == 2) s g 3
  let s := countIf (r.disp == 3) s g 4
  match r.rule with
  | none => s
  | some k =>
    let w3 := word s g 1 (16 * k + 3)
    if bit w3 31 then bump (bump s g (ruleCnt (bits w3 16 0)) 1) g (ruleCnt (bits w3 16 0) + 1) len else s

/-- The classifier looks up a parsed frame of `len` bytes from port `port` in panel `p` (R205). -/
def classify (s : State) (p port len : Nat) (pr : Parsed) : State × ClsResult :=
  let es := (List.range 4).map (treeEnd s p pr port)
  let s := (List.range 4).foldl (fun s t => match es.getD t .none with
    | .fault reason loc => treeFault p s t reason loc
    | _ => s) s
  let r := match treeWinner s p es with
    | some k => ruleResult s p pr port k
    | none => defaultResult s p pr port
  (clsCounts s p len r, r)

/-! ### Commits (R211, R218, R219) -/

/-- The rules of R219 that the latched values of CLS page `p` break. -/
def clsLatchedBad (s : State) (p : Nat) : Bool :=
  let g := Page.cls p
  (List.range 4).any (fun t => ltc s g (Fld.CLS_TREE_EN t) == 1 &&
      (let b := clsBlk s p (ltc s g (Fld.CLS_TREE_ROOT t) / 4)
       b.kind != 1 || !(b.state == 1 || b.state == 2) || b.retPend))
    || ltc s g Fld.CLS_DEFAULT_DEF_DISP == 3
    || (ltc s g Fld.CLS_DEFAULT_DEF_DISP == 2 && portReserved (ltc s g Fld.CLS_DEFAULT_DEF_TARGET))
    || decide (131072 < ((clsBlks s p).filter (fun b => b.kind == 3 &&
        ((b.state == 2 && !b.retPend) || b.state == 1))).length)

/-- The map entries of panel `p` under a function. -/
def clsMapAll (s : State) (p : Nat) (f : MapBlk → MapBlk) : State :=
  { s with clsMap := tabMap (fun k => k / 262144 == p) {} f s.clsMap }

/-- The close marks the blocks that will change at the boundary (R211). -/
def clsClose (s : State) (p : Nat) : State :=
  clsMapAll s p (fun b => { b with atClose := b.state == 1 || b.retPend })

/-- The apply makes STAGED blocks LIVE and blocks with RET_PEND RETIRE (R218). -/
def clsApplied (s : State) (p : Nat) : State :=
  clsMapAll s p (fun b =>
    if b.atClose then
      if b.state = 1 then { b with state := 2, atClose := false }
      else { b with state := 3, retPend := false, atClose := false }
    else b)

/-- Step 1 of every boundary frees the RETIRE blocks of panel `p` (R218). -/
def clsFree (s : State) (p : Nat) : State := clsMapAll s p (fun b => if b.state = 3 then {} else b)

end Sys2Proof.Machine
end

