-- ==== Sys2Proof/Machine/Filet.lean ====
section
/-! DEFINITION. The Filet (chapter 8): entries, probes, the learn sequencer, ageing, and the staged commands of
software. -/

namespace Sys2Proof.Machine

/-! ### Entries (R230 to R233) -/

/-- The number of locations of a Filet (R232). -/
def filLocs : Nat := 1056768

/-- Entry `loc` of panel `p`. -/
def filEnt (s : State) (p loc : Nat) : FilEnt := tabGet s.fil {} (2097152 * p + loc)

/-- An entry is written; a written entry is no longer in error. -/
def putFil (s : State) (p loc : Nat) (e : FilEnt) : State :=
  { s with fil := tabPut s.fil {} (2097152 * p + loc) e
           ecc := tabPut s.ecc false (wordKey (.fil p) 1 loc) false }

/-- The entries of panel `p` with their locations, rising. -/
def filList (s : State) (p : Nat) : List (Nat × FilEnt) :=
  ((tabSel (fun k => k / 2097152 == p) s.fil).map (fun e => (e.1 % 2097152, e.2))).filter (fun e => e.2.valid)

/-- The port to which an entry with DK 0 points: bits 10:0 of DEST (Table 8.2). -/
def filDestPort (e : FilEnt) : Nat := e.dest % 2048

/-- The words of an entry (Table 8.2). -/
def filWords (e : FilEnt) : List Nat :=
  [e.key % 2 ^ 32, e.key / 2 ^ 32 % 2 ^ 32,
   b2n e.valid * 2 ^ 31 + b2n e.user * 2 ^ 30 + e.stg * 2 ^ 28 + b2n e.hit * 2 ^ 27 + b2n e.aged * 2 ^ 26
     + b2n e.locked * 2 ^ 25 + e.mvSec * 2 ^ 16 + e.moves * 2 ^ 12,
   e.dk * 2 ^ 30 + e.dest]

/-- The bucket of a key (R231): bits 17:0 of the CRC-32C of its bytes, least significant byte first, from
HASH_SEED. -/
def filBucket (seed key : Nat) : Nat :=
  ((leBytes 8 key).foldl (fun c b => crcSteps 0x82F6_3B78 8 (c ^^^ b)) seed) % 2 ^ 18

/-- The bucket of a key under the seed in force. -/
def bucketOf (s : State) (p key : Nat) : Nat := filBucket (cfg s (.fil p) Fld.FIL_HASH_SEED_SEED) key

/-- The locations of the bucket of a key. -/
def bucketLocs (s : State) (p key : Nat) : List Nat := (List.range 4).map (fun i => 4 * bucketOf s p key + i)

/-- The entries of the overflow store that are listed. -/
def ovfList (s : State) (p : Nat) : List (Nat × FilEnt) := (filList s p).filter (fun e => decide (1048576 ≤ e.1))

/-- The location of a key among entries that satisfy `f`: its bucket first, then the overflow store (R232). -/
def filFind (s : State) (p key : Nat) (f : FilEnt → Bool) : Option Nat :=
  let hit (e : FilEnt) : Bool := e.valid && e.key == key && f e
  match (bucketLocs s p key).find? (fun l => hit (filEnt s p l)) with
  | some l => some l
  | none => ((ovfList s p).find? (fun e => hit e.2)).map (·.1)

/-- An entry that lookups see (R246). -/
def filSeen (e : FilEnt) : Bool := e.stg != 1

/-- The lowest free slot of the bucket of a key. -/
def freeSlot (s : State) (p key : Nat) : Option Nat := (bucketLocs s p key).find? (fun l => !(filEnt s p l).valid)

/-- The first number from `i` on that is not among rising numbers. -/
def firstGap : Nat → List Nat → Nat
  | i, [] => i
  | i, x :: xs => if x = i then firstGap (i + 1) xs else if i < x then i else firstGap i xs

/-- The lowest free overflow entry. -/
def freeOvf (s : State) (p : Nat) : Option Nat :=
  let i := firstGap 1048576 ((ovfList s p).map (·.1))
  if i < filLocs then some i else none

/-- Sticky OVF_FULL where the overflow store has become full. -/
def ovfCheck (s : State) (p : Nat) : State := stickIf (freeOvf s p).isNone s (.fil p) Fld.FIL_STICKY_OVF_FULL

/-- An entry is placed at a location that was free. -/
def placeFil (s : State) (p loc : Nat) (e : FilEnt) : State :=
  let s := putFil s p loc e
  if 1048576 ≤ loc then ovfCheck s p else s

/-- An entry goes: VALID is cleared. -/
def clearFil (s : State) (p loc : Nat) : State := putFil s p loc { filEnt s p loc with valid := false }

/-! ### Probes (R227 to R229) -/

/-- The word of an input port in the port table (R260). -/
def filPort (s : State) (p port : Nat) : Nat :=
  word s (.fil p) 2 (if port < 1024 then port % 128 else if port < 1031 then 128 + (port - 1024) else 135)

/-- The VID of a frame's keys (R227). -/
def filVid (s : State) (p port : Nat) (pr : Parsed) : Nat :=
  match keyField pr port false 3 with
  | some v => if v = 0 then bits (filPort s p port) 11 0 else v
  | none => bits (filPort s p port) 11 0

/-- A MAC key (Table 8.1). -/
def macKey (vid mac : Nat) : Nat := vid * 2 ^ 48 + mac

/-- The exact-match key of a frame under the port's KEY_MODE, where it has one (R228). -/
def exactKey (s : State) (p port : Nat) (pr : Parsed) : Option Nat :=
  match bits (filPort s p port) 15 14 with
  | 1 => (keyField pr port false 10).map (fun d => 2 ^ 60 + filVid s p port pr * 2 ^ 48 + d)
  | 2 => (viewFind (viewHdrs pr false) (· == .mpls)).map (fun h => 2 * 2 ^ 60 + bits (be32 pr.head h.pos) 31 12)
  | _ => none

/-- HIT of an entry that a destination probe found (R244). -/
def destHit (s : State) (p loc : Nat) : State :=
  let e := filEnt s p loc
  if e.user || cfgB s (.fil p) Fld.FIL_CTRL_DA_HIT then putFil s p loc { e with hit := true } else s

/-- The destination probes: the entry found, with its counters (R228). -/
def destProbe (s : State) (p port : Nat) (pr : Parsed) : State × Option Nat :=
  let g := Page.fil p
  let mac (s : State) : State × Option Nat :=
    match filFind s p (macKey (filVid s p port pr) (keyVal pr port false 5)) filSeen with
    | some l => (bump (destHit s p l) g 1 1, some l)
    | none => (s, none)
  match exactKey s p port pr with
  | none => mac s
  | some k =>
    match filFind s p k filSeen with
    | some l => (bump (destHit s p l) g 4 1, some l)
    | none => mac (bump s g 5 1)

/-- The individual/group bit of an address. -/
def groupAddr (mac : Nat) : Bool := bit mac 40

/-- The destination result; `fwd` says that the disposition is FORWARD, without which no discard and no flood
is counted (R229). -/
def destResult (s : State) (p port : Nat) (pr : Parsed) (fwd : Bool) (hit : Option Nat) : State × FilDest :=
  let g := Page.fil p
  match hit with
  | some l =>
    let e := filEnt s p l
    if e.dk = 0 then
      if filDestPort e = port ∧ !bit (filPort s p port) 17 then (countIf fwd s g 18, .hairpin) else (s, .port (filDestPort e))
    else if e.dk = 1 then (s, .group e.dest)
    else (countIf fwd s g 19, .drop)
  | none =>
    let w := word s g 3 (2 * filVid s p port pr)
    if groupAddr (keyVal pr port false 5) then (countIf fwd s g 3, .flood (bits w 31 16))
    else (countIf fwd s g 2, .flood (bits w 15 0))

/-! ### Learn events (R237, R238) -/

/-- A learn event is raised, unless the hoop's filter holds its triple from the last 4,096 ns (R238). -/
def raiseLearn (s : State) (h key port arrival : Nat) : State :=
  let f := tabGet s.learnFilt [] h
  if f.any (fun t => t.key == key && t.port == port && decide (s.now ≤ t.at4 + 16384)) then s
  else
    let f := f.filter (fun t => !(t.key == key && t.port == port))
    let f := (if 64 ≤ f.length then f.drop 1 else f) ++ [⟨key, port, s.now⟩]
    { s with learnFilt := tabPut s.learnFilt [] h f, learnFly := s.learnFly ++ [⟨key, port, arrival, h / 4⟩] }

/-- What the source probe of a front-port frame raises, once learning is enabled for it (R237). -/
def sourceLearn (s : State) (p h port arrival key : Nat) : State :=
  match filFind s p key filSeen with
  | none => raiseLearn s h key port arrival
  | some l =>
    let e := filEnt s p l
    let here := e.dk == 0 && filDestPort e == port
    if e.user then countIf (!here) s (.fil p) 14
    else if here then (if e.hit then s else raiseLearn s h key port arrival)
    else if e.locked then bump s (.fil p) 11 1
    else raiseLearn s h key port arrival

/-- The source probe (R228, R237, R244): `front` says that the frame came from a front port, `learns` that it may
learn, `disp` is the classifier's disposition. -/
def sourceProbe (s : State) (p h port arrival : Nat) (pr : Parsed) (front learns : Bool) (disp : Nat) : State :=
  let sa := keyVal pr port false 6
  let vid := filVid s p port pr
  let key := macKey vid sa
  let bad := groupAddr sa || sa == 0
  let s1 := countIf (front && bad) s (.fil p) 15
  let learn := front && learns && !bad && disp != 1 && cfgB s (.fil p) Fld.FIL_CTRL_LEARN_EN
    && bit (filPort s p port) 16 && bit (word s (.fil p) 3 (2 * vid + 1)) 0
  let s2 := if learn then sourceLearn s1 p h port arrival key else s1
  match filFind s p key filSeen with
  | some l => if (filEnt s p l).user then putFil s2 p l { filEnt s2 p l with hit := true } else s2
  | none => s2

/-- The Filet lookup of a frame in hoop `h` (R225): destination probes, then the source probe. -/
def filLookup (s : State) (h port arrival : Nat) (pr : Parsed) (front learns : Bool) (disp : Nat) : State × FilDest :=
  let p := h / 4
  let s := bump s (.fil p) 0 1
  let d := destProbe s p port pr
  let r := destResult d.1 p port pr (disp == 0) d.2
  (sourceProbe r.1 p h port arrival pr front learns disp, r.2)

/-! ### The learn sequencer (R239) -/

/-- The release time of an event: its arrival time plus 2,000 ns. -/
def learnDue (e : LearnEv) : Nat := e.arrival + 8000

/-- Release order: arrival time, then input port (R239). -/
def learnBefore (x y : LearnEv) : Bool :=
  decide (x.arrival < y.arrival) || (x.arrival == y.arrival && decide (x.port < y.port))

/-- An event joins those that the sequencer holds. -/
def learnInsert (x : LearnEv) : List LearnEv → List LearnEv
  | [] => [x]
  | y :: ys => if learnBefore x y then x :: y :: ys else y :: learnInsert x ys

/-- An event is released to all eight panels. -/
def learnOut (s : State) (e : LearnEv) : State :=
  { s with learnPan := (List.range 8).foldl (fun m p => tabPut m [] p (tabGet m [] p ++ [e])) s.learnPan }

/-- LEARN_EVENT_ARRIVAL (R239): event `i` of those under way reaches the sequencer at time `t`. DESIGN CHOICE: an event
that is late and meets a full sequencer is released as late, not discarded. -/
def execLearnEventArrival (i t : Nat) (s : State) : Host.Outcome State Fault Refusal :=
  match s.learnFly[i]? with
  | none => .next s
  | some e =>
    let s := advance { s with learnFly := s.learnFly.eraseIdx i } t
    if learnDue e < s.now then
      .next (stick (bump (learnOut s e) (.fil e.panel) 17 1) (.fil e.panel) Fld.FIL_STICKY_LEARN_LATE)
    else if 16384 ≤ s.learnSeq.length then
      .next (stick (bump s (.fil e.panel) 16 1) (.fil e.panel) Fld.FIL_STICKY_LEARN_DROP)
    else .next { s with learnSeq := learnInsert e s.learnSeq }

/-- LEARN_RELEASE (R239): at time `t` the first event held is due and goes to all panels. -/
def execLearnRelease (t : Nat) (s : State) : Host.Outcome State Fault Refusal :=
  let s' := advance s t
  match s.learnSeq with
  | [] => .next s
  | e :: es => if learnDue e ≤ s'.now then .next (learnOut { s' with learnSeq := es } e) else .next s

/-! ### Memory errors (R202, R220, R222, R258) -/

/-- A memory error found on use in hoop `h`: the device corrects it, or marks the entry and reports it. -/
def memError (h : Nat) (s : State) (e : MemErr) : State :=
  let p := h / 4
  let mark (s : State) (g : Page) (n i : Nat) : State := { s with ecc := tabPut s.ecc false (wordKey g n i) true }
  match e with
  | .pattern i uncorr =>
    if uncorr then stick (bump (mark s (.prk h) 1 i) (.prk h) 16 1) (.prk h) Fld.PRK_STICKY_PAT_UNCORR
    else bump s (.prk h) 15 1
  | .selection i uncorr =>
    if uncorr then stick (bump (mark s (.prk h) 2 i) (.prk h) 16 1) (.prk h) Fld.PRK_STICKY_PAT_UNCORR
    else bump s (.prk h) 15 1
  | .rule k uncorr => if uncorr then mark s (.cls p) 1 k else bump s (.cls p) 6 1
  | .ruleCounter c =>
    let s := { s with cnt := tabPut (tabPut s.cnt 0 (cntKey (.cls p) (ruleCnt c)) 0) 0 (cntKey (.cls p) (ruleCnt c + 1)) 0 }
    stick s (.cls p) Fld.CLS_STICKY_CNT_UNCORR
  | .filet loc uncorr =>
    if uncorr then
      let s := mark (clearFil s p loc) (.fil p) 1 loc
      let s := bump s (.fil p) 22 1
      let s := wr (wr s (.fil p) Fld.FIL_ERR_LOC_VALID 1) (.fil p) Fld.FIL_ERR_LOC_LOC loc
      stick s (.fil p) Fld.FIL_STICKY_ECC_UNCORR
    else bump s (.fil p) 21 1
  | _ => s

/-- The memory errors that a command or an apply in panel `p` meets (R258). -/
def filErrs (s : State) (p : Nat) (errs : List MemErr) : State := errs.foldl (memError (4 * p)) s

/-! ### Applying a learn event (R240, R241) -/

/-- A move of a data entry (R241). -/
def learnMove (s : State) (p loc : Nat) (ev : LearnEv) : State :=
  let g := Page.fil p
  let e := filEnt s p loc
  let sec := ev.arrival / 4000000000 % 64
  let c := if e.mvSec = sec then e.moves + 1 else 1
  let lock := decide (cfg s g Fld.FIL_CTRL_MOVE_LIMIT < c)
  let s := putFil s p loc { e with
    dk := 0, dest := ev.port, hit := true, aged := false
    mvSec := sec, moves := sat 15 c, locked := e.locked || lock }
  let s := bump s g 9 1
  if lock then stick (bump s g 12 1) g Fld.FIL_STICKY_MOVE_LOCK else s

/-- A new data entry, or the failure of its insertion (R233). -/
def learnNew (s : State) (p : Nat) (ev : LearnEv) : State :=
  let g := Page.fil p
  let e : FilEnt := { valid := true, key := ev.key, dest := ev.port, hit := true }
  match freeSlot s p ev.key with
  | some l => bump (placeFil s p l e) g 7 1
  | none =>
    match freeOvf s p with
    | some l => bump (placeFil s p l e) g 7 1
    | none => stick (bump s g 10 1) g Fld.FIL_STICKY_INSERT_FAIL

/-- A panel applies an event to its own table (Table 8.3). DESIGN CHOICE: an event for a LOCKED entry on its own port,
which two rows of the table match, is a refresh. -/
def learnApply (s : State) (p : Nat) (ev : LearnEv) : State :=
  let g := Page.fil p
  let s := bump s g 6 1
  match filFind s p ev.key filSeen with
  | some l =>
    let e := filEnt s p l
    if e.user then bump s g 14 1
    else if e.dk = 0 ∧ filDestPort e = ev.port then
      bump (putFil s p l { e with hit := true, aged := false }) g 8 1
    else if e.locked then bump s g 11 1
    else learnMove s p l ev
  | none =>
    match filFind s p ev.key (fun _ => true) with
    | some _ => bump s g 14 1
    | none => learnNew s p ev

/-- LEARN_APPLY (R240): panel `p` applies the next event released to it. -/
def execLearnApply (p : Nat) (errs : List MemErr) (s : State) : Host.Outcome State Fault Refusal :=
  match tabGet s.learnPan [] p with
  | [] => .next s
  | e :: es => .next (learnApply (filErrs { s with learnPan := tabPut s.learnPan [] p es } p errs) p e)

/-! ### Ageing (R242, R243) -/

/-- A visit of the sweeper to an entry (R243). -/
def sweepVisit (p : Nat) (s : State) (le : Nat × FilEnt) : State :=
  let e := le.2
  if e.stg ≠ 0 then s
  else if e.hit then putFil s p le.1 { e with hit := false, aged := false }
  else if !e.aged then putFil s p le.1 { e with aged := true }
  else if e.user then s
  else bump (clearFil s p le.1) (.fil p) 13 1

/-- The allotment of stitch `n` in panel `p` (R242); group g holds locations 4g to 4g + 3. -/
def filSweep (s : State) (p n : Nat) : State :=
  let div := cfg s (.fil p) Fld.FIL_AGE_AGE_DIV
  let step := cfg s (.fil p) Fld.FIL_AGE_AGE_STEP
  if !cfgB s (.fil p) Fld.FIL_CTRL_AGE_EN || div = 0 || step = 0 || n % div != 0 then s
  else
    let j := n / div % ((264192 + step - 1) / step)
    ((filList s p).filter (fun e => decide (j * step ≤ e.1 / 4) && decide (e.1 / 4 < j * step + step))).foldl
      (sweepVisit p) s

/-! ### Commands of software (R245 to R254) -/

/-- Whether the Reseau holds a multicast group: its VALID in the shadow (R351). -/
def groupHeld (s : State) (g : Nat) : Bool := decide (g < 16384) && bit (wordS s .rsx 3 (34 * g)) 31

/-- FIL_STAGED: the staged changes of a page (R252). -/
def filStaged (s : State) (p : Nat) : Nat := ((filList s p).filter (fun e => e.2.stg != 0)).length

/-- A command ends with a result. -/
def filEnd (s : State) (p result : Nat) : State :=
  wr (wr s (.fil p) Fld.FIL_CMD_STAT_BUSY 0) (.fil p) Fld.FIL_CMD_STAT_RESULT result

/-- A command ends REFUSED (R245). -/
def filRefuse (s : State) (p : Nat) : State := stick (filEnd s p 5) (.fil p) Fld.FIL_STICKY_CMD_REFUSED

/-- The location concerned. -/
def filLoc (s : State) (p loc : Nat) : State := wr s (.fil p) Fld.FIL_CMD_STAT_LOC loc

/-- The entry at a location is returned in OUT0 to OUT3. -/
def filOut (s : State) (p loc : Nat) : State :=
  let w := filWords (filEnt s p loc)
  filLoc ((List.range 4).foldl (fun s i => wr s (.fil p) (Fld.FIL_CMD_OUT_WORDn i) (w.getD i 0)) s) p loc

/-- The device sets FIL_WALK_POS. -/
def filPos (s : State) (p pos : Nat) : State :=
  wrBlk (wr s (.fil p) Fld.FIL_WALK_POS_POS pos) (.fil p) Fld.FIL_WALK_POS_POS pos

/-- The command key. -/
def filKey (s : State) (p : Nat) : Nat :=
  bk s (.fil p) Fld.FIL_CMD_KEY_HI_KEY * 2 ^ 32 + bk s (.fil p) Fld.FIL_CMD_KEY_LO_KEY

/-- The class filter CLS_SEL. -/
def filSel (s : State) (p : Nat) (e : FilEnt) : Bool :=
  match bk s (.fil p) Fld.FIL_CMD_ARG_CLS_SEL with
  | 0 => true
  | 1 => !e.user
  | _ => e.user

/-- The VID filter. -/
def filVidOk (s : State) (p : Nat) (e : FilEnt) : Bool :=
  bk s (.fil p) Fld.FIL_CMD_ARG_VID_EN == 0 ||
    (decide (e.key / 2 ^ 60 ≤ 1) && e.key / 2 ^ 48 % 4096 == bk s (.fil p) Fld.FIL_CMD_ARG_VID)

/-- Entry points at PORT. -/
def filAtPort (s : State) (p : Nat) (e : FilEnt) : Bool :=
  e.dk == 0 && filDestPort e == bk s (.fil p) Fld.FIL_CMD_ARG_PORT

/-- SEARCH (R247). -/
def filSearch (s : State) (p : Nat) : State :=
  if 3 ≤ filKey s p / 2 ^ 60 then filRefuse s p
  else
    let k := filKey s p
    match (filFind s p k (fun e => e.stg == 1)).or (filFind s p k (fun _ => true)) with
    | some l => filEnd (filOut s p l) p 0
    | none => filEnd s p 1

/-- NEXT (R248). -/
def filNext (s : State) (p : Nat) : State :=
  if bk s (.fil p) Fld.FIL_CMD_ARG_CLS_SEL = 3 then filRefuse s p
  else
    let ok (e : Nat × FilEnt) : Bool :=
      decide (bk s (.fil p) Fld.FIL_WALK_POS_POS ≤ e.1) && filSel s p e.2 && filVidOk s p e.2 &&
        (bk s (.fil p) Fld.FIL_CMD_ARG_PORT_EN == 0 || filAtPort s p e.2)
    match (filList s p).find? ok with
    | some e => filEnd (filPos (filOut s p e.1) p (e.1 + 1)) p 0
    | none => filEnd (filPos s p 0) p 3

/-- A new slot for a user entry under R234, after a relocation where one is needed. -/
def userSlot (s : State) (p key : Nat) : State × Option Nat :=
  match freeSlot s p key with
  | some l => (s, some l)
  | none =>
    match freeOvf s p with
    | none => (s, none)
    | some o =>
      let can := (bucketLocs s p key).filter (fun l =>
        let e := filEnt s p l
        !e.user && e.stg == 0 && !e.locked)
      match (can.find? (fun l => !(filEnt s p l).hit)).or can.head? with
      | some l => (bump (placeFil (clearFil s p l) p o (filEnt s p l)) (.fil p) 20 1, some l)
      | none => (s, some o)

/-- INSERT (R249). -/
def filInsert (s : State) (p : Nat) : State :=
  let k := filKey s p
  let dk := bk s (.fil p) Fld.FIL_CMD_DATA_DK
  let dest := bk s (.fil p) Fld.FIL_CMD_DATA_DEST
  let e : FilEnt := { valid := true, user := true, key := k, stg := 1, dk := dk, dest := dest }
  if 3 ≤ k / 2 ^ 60 || dk == 3 || (dk == 0 && portReserved (bits dest 10 0)) || (dk == 1 && !groupHeld s dest) then
    filRefuse s p
  else match filFind s p k (fun x => x.stg == 1) with
    | some l => filEnd (filLoc (putFil s p l e) p l) p 0
    | none =>
      let old := (filFind s p k (fun x => x.stg == 0)).isSome
      if 65536 < filStaged s p + 1 + b2n old then filEnd s p 4
      else match userSlot s p k with
        | (s, none) => filEnd s p 2
        | (s, some l) =>
          let s := match filFind s p k (fun x => x.stg == 0) with
            | some o => putFil s p o { filEnt s p o with stg := 2 }
            | none => s
          filEnd (filLoc (placeFil s p l e) p l) p 0

/-- DELETE (R250). -/
def filDelete (s : State) (p : Nat) : State :=
  let k := filKey s p
  if 3 ≤ k / 2 ^ 60 then filRefuse s p
  else match filFind s p k (fun x => x.stg == 1) with
    | some l => filEnd (filLoc (clearFil s p l) p l) p 0
    | none =>
      match filFind s p k (fun x => x.stg == 0) with
      | some l =>
        if 65536 ≤ filStaged s p then filEnd s p 4
        else filEnd (filLoc (putFil s p l { filEnt s p l with stg := 2 }) p l) p 0
      | none => filEnd s p 1

/-- FLUSH_BY_PORT over the entries from FIL_WALK_POS on (R251). -/
def filFlushLoop (p : Nat) : List (Nat × FilEnt) → State → State
  | [], s => filEnd (filPos s p 0) p 0
  | (l, e) :: es, s =>
    if 65536 ≤ filStaged s p then filEnd (filPos s p l) p 4
    else filFlushLoop p es (putFil s p l { e with stg := 2 })

/-- FLUSH_BY_PORT (R251). -/
def filFlush (s : State) (p : Nat) : State :=
  if bk s (.fil p) Fld.FIL_CMD_ARG_CLS_SEL = 3 then filRefuse s p
  else
    filFlushLoop p ((filList s p).filter (fun e => decide (bk s (.fil p) Fld.FIL_WALK_POS_POS ≤ e.1)
      && e.2.stg == 0 && filAtPort s p e.2 && filSel s p e.2 && filVidOk s p e.2)) s

/-- DISCARD_STAGED (R253). -/
def filDiscard (s : State) (p : Nat) : State :=
  filEnd ((filList s p).foldl (fun s e =>
    if e.2.stg = 1 then clearFil s p e.1
    else if e.2.stg = 2 then putFil s p e.1 { e.2 with stg := 0 }
    else s) s) p 0

/-- The operation OP runs. -/
def filRun (s : State) (p op : Nat) : State :=
  match op with
  | 1 => filSearch s p
  | 2 => filNext s p
  | 3 => filInsert s p
  | 4 => filDelete s p
  | 5 => filFlush s p
  | 6 => filDiscard s p
  | _ => filRefuse s p

/-- Whether an operation changes entries. -/
def filChanges (op : Nat) : Bool := decide (3 ≤ op) && decide (op ≤ 6)

/-- Commands that change entries wait: a commit is latched and not applied, or its cleanup runs (R254). -/
def filWaits (s : State) (p : Nat) : Bool := tabGet s.filHold false p || rdB s (.fil p) Fld.FIL_STATUS_CLEANUP

/-- Command OP is started: discarded while BUSY is 1; an operation that changes entries waits from the
close until the cleanup is done (R245, R254). -/
def filStart (s : State) (p op : Nat) : State :=
  if rdB s (.fil p) Fld.FIL_CMD_STAT_BUSY then stick s (.fil p) Fld.FIL_STICKY_CMD_REFUSED
  else if filChanges op && filWaits s p then
    { wr s (.fil p) Fld.FIL_CMD_STAT_BUSY 1 with filWait := tabPut s.filWait 0 p op }
  else filRun s p op

/-- FIL_SEARCH (R247). -/
def execFilSearch (p : Nat) (errs : List MemErr) (s : State) : Host.Outcome State Fault Refusal :=
  .next (filStart (filErrs s p errs) p 1)

/-- FIL_NEXT (R248). -/
def execFilNext (p : Nat) (errs : List MemErr) (s : State) : Host.Outcome State Fault Refusal :=
  .next (filStart (filErrs s p errs) p 2)

/-- FIL_INSERT (R249). -/
def execFilInsert (p : Nat) (errs : List MemErr) (s : State) : Host.Outcome State Fault Refusal :=
  .next (filStart (filErrs s p errs) p 3)

/-- FIL_DELETE (R250). -/
def execFilDelete (p : Nat) (errs : List MemErr) (s : State) : Host.Outcome State Fault Refusal :=
  .next (filStart (filErrs s p errs) p 4)

/-- FLUSH_BY_PORT (R251). -/
def execFlushByPort (p : Nat) (errs : List MemErr) (s : State) : Host.Outcome State Fault Refusal :=
  .next (filStart (filErrs s p errs) p 5)

/-- FIL_DISCARD_STAGED (R253). -/
def execFilDiscardStaged (p : Nat) (errs : List MemErr) (s : State) : Host.Outcome State Fault Refusal :=
  .next (filStart (filErrs s p errs) p 6)

/-- FIL_CLEANUP_DONE (R254): the rewrite ends and CLEANUP clears. -/
def execFilCleanupDone (p : Nat) (s : State) : Host.Outcome State Fault Refusal :=
  .next (wr s (.fil p) Fld.FIL_STATUS_CLEANUP 0)

/-- FIL_CMD_RESUME (R254): the command that waited starts. DESIGN CHOICE: it takes its key, data and arguments as they
stand now, not as they stood at GO. -/
def execFilCmdResume (p : Nat) (errs : List MemErr) (s : State) : Host.Outcome State Fault Refusal :=
  let op := tabGet s.filWait 0 p
  if op = 0 ∨ filWaits s p then .next s
  else .next (filRun (filErrs { s with filWait := tabPut s.filWait 0 p 0 } p errs) p op)

/-! ### Commits (R254, R255) -/

/-- The rules of R255 that the latched values of FIL page `p` break. -/
def filLatchedBad (s : State) (p : Nat) : Bool :=
  let g := Page.fil p
  let step := ltc s g Fld.FIL_AGE_AGE_STEP
  let vlanBad (v : Nat) : Bool :=
    let w := wordL s g 3 (2 * v)
    !groupHeld s (bits w 31 16) || !groupHeld s (bits w 15 0)
  step == 0 || decide (4096 < step) || ltc s g Fld.FIL_AGE_AGE_DIV == 0 || ltc s g Fld.FIL_CTRL_MOVE_LIMIT == 0
    || (ltc s g Fld.FIL_HASH_SEED_SEED != cfg s g Fld.FIL_HASH_SEED_SEED && !(filList s p).isEmpty)
    || (List.range 136).any (fun i =>
        let w := wordL s g 2 i
        bits w 15 14 == 3 || (decide (128 ≤ i) && bit w 16))
    || (tabGet s.vlanWr [] p).any vlanBad

/-- The close holds back commands that change entries (R254). -/
def filClose (s : State) (p : Nat) : State := { s with filHold := tabPut s.filHold false p true }

/-- A commit that was refused holds nothing back any more. -/
def filUnhold (s : State) (p : Nat) : State := { s with filHold := tabPut s.filHold false p false }

/-- The apply: staged adds come into force, staged deletes disappear, CLEANUP reads 1 (R254). -/
def filApplied (s : State) (p : Nat) : State :=
  let s := (filList s p).foldl (fun s e =>
    if e.2.stg = 1 then putFil s p e.1 { e.2 with stg := 0 }
    else if e.2.stg = 2 then clearFil s p e.1
    else s) s
  let s := wr s (.fil p) Fld.FIL_STATUS_CLEANUP 1
  { s with vlanWr := tabPut s.vlanWr [] p [], filHold := tabPut s.filHold false p false }

/-! ### Counts that registers report (Table 8.6) -/

/-- COUNT_USER and COUNT_DATA: entries in force of a class. -/
def filInForce (s : State) (p : Nat) (user : Bool) : Nat :=
  ((filList s p).filter (fun e => e.2.user == user && e.2.stg != 1)).length

/-- OVF_USED. -/
def filOvfUsed (s : State) (p : Nat) : Nat := (ovfList s p).length

end Sys2Proof.Machine
end

