-- ==== Sys2Proof/Machine/Lane.lean ====
section
/-! DEFINITION. The serial lanes (chapter 4): signal detection, acquisition, taps, transition stuffing,
low-power states, test patterns and error injection. -/

namespace Sys2Proof.Machine

/-! ### Reading a lane -/

/-- What lane `l` holds beside its registers. -/
def laneHw (s : State) (l : Nat) : LaneHw := tabGet s.lane {} l

/-- The lane's own record replaced. -/
def putLane (s : State) (l : Nat) (x : LaneHw) : State := { s with lane := tabPut s.lane {} l x }

/-- RATE in force (Table 4.1). -/
def laneRate (s : State) (l : Nat) : Nat := cfg s (.lan l) Fld.LAN_MODE_RATE

/-- CODING in force: 1 is Aladotra (R128). -/
def laneCoding (s : State) (l : Nat) : Nat := cfg s (.lan l) Fld.LAN_MODE_CODING

/-- LPM_STATE of the lane (Table 4.8): 0 active, 1 QUIET, 2 OFF or disabled, 3 leaving QUIET. -/
def laneLpm (s : State) (l : Nat) : Nat := rd s (.lan l) Fld.LAN_STATUS_LPM_STATE

/-- A lane trains its link when MEDIUM is 2 or 3 and TRAIN_EN is 1 (R127, Table 4.4). -/
def laneTrains (s : State) (l : Nat) : Bool :=
  cfgB s (.lan l) Fld.LAN_MODE_TRAIN_EN && decide (2 ≤ cfg s (.lan l) Fld.LAN_MODE_MEDIUM)

/-- The signal detector is powered in every lane state but H2 and D3 (R137, R147); D3 puts every hoop into H2, and a
hoop on its way out of H2 has no power yet. -/
def detectorOn (s : State) (l : Nat) : Bool := hoopState s (l / 32) != 2 && hoopState s (l / 32) != 4

/-! ### Latencies (R133) -/

/-- The range of TX_LAT at each RATE, lowest value and number of values, in quarter ns (Table 4.9). -/
def txLatRange : Nat → Nat × Nat
  | 1 => (152, 29) | 2 => (64, 13) | 3 => (60, 13) | 4 => (32, 7) | _ => (16, 4)

/-- The range of RX_LAT at each RATE (Table 4.9). -/
def rxLatRange : Nat → Nat × Nat
  | 1 => (208, 29) | 2 => (88, 13) | 3 => (84, 13) | 4 => (44, 7) | _ => (22, 4)

/-- Both latencies are measured afresh at a lock: free values within Table 4.9. -/
def measureLatency (s : State) (l : Nat) : State :=
  let r := laneRate s l
  let t := Config.free 1 s.fresh
  let x := Config.free 1 (s.fresh + 1)
  let s := { s with fresh := s.fresh + 2 }
  let s := wr s (.lan l) Fld.LAN_LATENCY_TX_LAT ((txLatRange r).1 + t % (txLatRange r).2)
  wr s (.lan l) Fld.LAN_LATENCY_RX_LAT ((rxLatRange r).1 + x % (rxLatRange r).2)

/-- Both latencies are 0 without lock. -/
def clearLatency (s : State) (l : Nat) : State :=
  wr (wr s (.lan l) Fld.LAN_LATENCY_TX_LAT 0) (.lan l) Fld.LAN_LATENCY_RX_LAT 0

/-! ### Polarity and map (R139, R140) -/

/-- The fused byte of a lane: TX_SRC in bits 2:0, RX_SRC in bits 5:3, TX_INV in bit 6, RX_INV in bit 7
(Table 18.5); the identity where no fuse is programmed. -/
def fuseByte (s : State) (l : Nat) : Nat := (tabGet s.laneFuse 0 l) ^^^ (9 * (l % 8))

/-- PAGE_STATUS reports the effective map and polarity (R140). -/
def showMap (s : State) (l : Nat) : State :=
  let p := Page.lan l
  let fuse := cfgB s p Fld.LAN_MAP_USE_FUSE
  let b := fuseByte s l
  let s := wr s p Fld.LAN_STATUS_PHYS_TX (if fuse then bits b 2 0 else cfg s p Fld.LAN_MAP_TX_SRC)
  let s := wr s p Fld.LAN_STATUS_PHYS_RX (if fuse then bits b 5 3 else cfg s p Fld.LAN_MAP_RX_SRC)
  let s := wr s p Fld.LAN_STATUS_EFF_TX_INV (if fuse then bits b 6 6 else cfg s p Fld.LAN_MAP_TX_INV)
  wr s p Fld.LAN_STATUS_EFF_RX_INV (if fuse then bits b 7 7 else cfg s p Fld.LAN_MAP_RX_INV)

/-! ### Taps (R134) -/

/-- The four taps of LAN_TX_EQ in force as one word: PRE2, PRE1, MAIN, POST1 from the top. -/
def tapsCommitted (s : State) (l : Nat) : Nat :=
  let p := Page.lan l
  cfg s p Fld.LAN_TX_EQ_PRE2 * 2 ^ 24 + cfg s p Fld.LAN_TX_EQ_PRE1 * 2 ^ 16
    + cfg s p Fld.LAN_TX_EQ_MAIN * 2 ^ 8 + cfg s p Fld.LAN_TX_EQ_POST1

/-- Tap `i` of a word of taps, 0 POST1 to 3 PRE2, signed. -/
def tapOf (w i : Nat) : Int := signed 8 (bits w (8 * i + 7) (8 * i))

/-- A word of taps with tap `i` replaced. -/
def tapPut (w i : Nat) (v : Int) : Nat := setBits w (8 * i) 8 (unsigned 8 v)

/-- The limits of R134: MAIN at least 32, the magnitudes adding up to at most 64. -/
def tapsValid (w : Nat) : Bool :=
  decide (32 ≤ tapOf w 1) &&
    decide ((tapOf w 3).natAbs + (tapOf w 2).natAbs + tapOf w 1 + (tapOf w 0).natAbs ≤ 64)

/-- One unit towards a value. -/
def towards (x goal : Int) : Int := if x < goal then x + 1 else if goal < x then x - 1 else x

/-! ### Acquisition (R138, Table 4.4) -/

/-- The checker seeks again. -/
def chkUnsync (s : State) (l : Nat) : State :=
  if (laneHw s l).chk = {} then s else putLane s l { laneHw s l with chk := {} }

/-- A lane that leaves service or a mode of its receiver forgets the frozen image of its equaliser. -/
def eqFree (s : State) (l : Nat) : State :=
  if (laneHw s l).eq = none then s else putLane s l { laneHw s l with eq := none }

/-- The lane restarts Table 4.4 from the CDR lock step: lock, adaptation, training and checker
synchronisation are gone. -/
def reacquire (s : State) (l : Nat) : State :=
  let p := Page.lan l
  let s := wr s p Fld.LAN_STATUS_CDR_LOCK 0
  let s := wr s p Fld.LAN_STATUS_ADAPT_DONE 0
  let s := wr s p Fld.LAN_STATUS_TRAIN_STATE 0
  let s := chkUnsync (wr s p Fld.LAN_STATUS_CHK_SYNC 0) l
  clearLatency s l

/-- The lane leaves service and restarts Table 4.4 under its configuration in force (R138, R142): the
transmitter starts from the committed taps; a disabled or OFF lane stays down. -/
def laneRestart (s : State) (l : Nat) : State :=
  let p := Page.lan l
  let s := reacquire s l
  let s := showMap s l
  let off := laneRate s l == 0 || cfg s p Fld.LAN_POWER_LPM == 2
  let s := wr s p Fld.LAN_STATUS_LPM_STATE (if off then 2 else 0)
  let s := wr s p Fld.LAN_TX_EQ_CUR_TAPS (if off then 0 else tapsCommitted s l)
  putLane s l { inj := (laneHw s l).inj, held := (laneHw s l).held
                gen := patStart (cfg s p Fld.LAN_PAT_CTRL_GEN_PAT) l }

/-- The loss of lock as the lane reports it (R137, Table 4.4). -/
def loseLock (s : State) (l : Nat) : State :=
  let p := Page.lan l
  let s := wr s p Fld.LAN_STATUS_CDR_LOCK 0
  let s := countSat s p Fld.LAN_EVENT_COUNT_UNLOCK
  let s := clearLatency s l
  stick s p Fld.LAN_STICKY_CDR_UNLOCK

/-- A lane carries nothing and its transmitter is in electrical idle, as in a fenced hoop or with held pads (R515, R542);
its detector stays powered (R137). -/
def laneOff (s : State) (l : Nat) : State := wr (reacquire s l) (.lan l) Fld.LAN_STATUS_LPM_STATE 2

/-- A lane goes OFF with its detector unpowered, as in H2 and D3 (R147). -/
def laneDown (s : State) (l : Nat) : State := wr (laneOff s l) (.lan l) Fld.LAN_STATUS_SIGNAL 0

/-! ### The commands -/

/-- SIGNAL_RISE (R137, R138): SIGNAL rises, and a lane whose RATE is not 0 starts Table 4.4. A lane in
QUIET or leaving it holds its CDR state (R144) and only shows the signal. -/
def execSignalRise (l : Nat) (s : State) : Host.Outcome State Fault Refusal :=
  if !detectorOn s l || rdB s (.lan l) Fld.LAN_STATUS_SIGNAL then .next s
  else
    let s := wr s (.lan l) Fld.LAN_STATUS_SIGNAL 1
    .next (if laneRate s l != 0 && laneLpm s l == 0 then reacquire s l else s)

/-- SIGNAL_FALL (R137): SIGNAL falls; while the lane carries traffic the fall sets LOS, and it ends clock
recovery. -/
def execSignalFall (l : Nat) (s : State) : Host.Outcome State Fault Refusal :=
  let p := Page.lan l
  if !rdB s p Fld.LAN_STATUS_SIGNAL then .next s
  else
    let s := wr s p Fld.LAN_STATUS_SIGNAL 0
    if laneLpm s l == 1 || laneLpm s l == 3 then .next s
    else
      let traffic := laneRate s l != 0 && laneLpm s l == 0
      let s := if traffic then stick (countSat s p Fld.LAN_EVENT_COUNT_LOS) p Fld.LAN_STICKY_LOS else s
      let s := if rdB s p Fld.LAN_STATUS_CDR_LOCK then loseLock s l else s
      .next (reacquire s l)

/-- CDR_LOCK_ACQUIRED (R133, R138): clock recovery locks on a lane with signal, and the
latencies are measured; a lane that trains its link starts training, from the committed taps (R134). -/
def execCdrLockAcquired (l : Nat) (s : State) : Host.Outcome State Fault Refusal :=
  let p := Page.lan l
  if laneRate s l == 0 || laneLpm s l == 2 || !rdB s p Fld.LAN_STATUS_SIGNAL
      || rdB s p Fld.LAN_STATUS_CDR_LOCK then .next s
  else
    let s := wr s p Fld.LAN_STATUS_CDR_LOCK 1
    let s := measureLatency s l
    .next (if laneTrains s l && !rdB s p Fld.LAN_STATUS_ADAPT_DONE && rd s p Fld.LAN_STATUS_TRAIN_STATE == 0
      then wr (wr s p Fld.LAN_STATUS_TRAIN_STATE 1) p Fld.LAN_TX_EQ_CUR_TAPS (tapsCommitted s l) else s)

/-- CDR_LOCK_LOST (Table 4.4): the loss sets CDR_UNLOCK; lock is retried until SIGNAL falls. -/
def execCdrLockLost (l : Nat) (s : State) : Host.Outcome State Fault Refusal :=
  if rdB s (.lan l) Fld.LAN_STATUS_CDR_LOCK then .next (loseLock s l) else .next s

/-- ADAPT_COMPLETE (R138): adaptation first completes on a lane that does not train, and ADAPT_DONE is
set; EQ_LIMIT when an adapted value is at the end of its range (R135). -/
def execAdaptComplete (l : Nat) (limit : Bool) (s : State) : Host.Outcome State Fault Refusal :=
  let p := Page.lan l
  if !rdB s p Fld.LAN_STATUS_CDR_LOCK then .next s
  else
    let s := if laneTrains s l then s else wr s p Fld.LAN_STATUS_ADAPT_DONE 1
    let s := if (laneHw s l).restart = none then s else putLane s l { laneHw s l with restart := none }
    .next (stickIf limit s p Fld.LAN_STICKY_EQ_LIMIT)

/-- TRAIN_DONE (R138): training ends with TRAIN_STATE 2, and ADAPT_DONE is set at the same instant. -/
def execTrainDone (l : Nat) (s : State) : Host.Outcome State Fault Refusal :=
  let p := Page.lan l
  if rd s p Fld.LAN_STATUS_TRAIN_STATE != 1 then .next s
  else .next (wr (wr s p Fld.LAN_STATUS_TRAIN_STATE 2) p Fld.LAN_STATUS_ADAPT_DONE 1)

/-- TRAIN_FAIL (Table 4.4): TRAIN_STATE 3 and TRAIN_FAIL. -/
def execTrainFail (l : Nat) (s : State) : Host.Outcome State Fault Refusal :=
  let p := Page.lan l
  if rd s p Fld.LAN_STATUS_TRAIN_STATE != 1 then .next s
  else .next (stick (wr s p Fld.LAN_STATUS_TRAIN_STATE 3) p Fld.LAN_STICKY_TRAIN_FAIL)

/-- TRAIN_RESTART (Table 4.4): 10 ms after a failure, training runs again from the committed taps
(R134, R142). -/
def execTrainRestart (l : Nat) (s : State) : Host.Outcome State Fault Refusal :=
  let p := Page.lan l
  if rd s p Fld.LAN_STATUS_TRAIN_STATE != 3 then .next s
  else .next (wr (wr s p Fld.LAN_STATUS_TRAIN_STATE 1) p Fld.LAN_TX_EQ_CUR_TAPS (tapsCommitted s l))

/-- TRAIN_STEP_REQUEST (R134): while training runs, tap `tap` (0 POST1, 1 MAIN, 2 PRE1, 3 PRE2) moves one
unit up or down, or the step is refused beyond the limits with EQ_LIMIT. -/
def execTrainStepRequest (l tap : Nat) (up : Bool) (s : State) : Host.Outcome State Fault Refusal :=
  let p := Page.lan l
  if rd s p Fld.LAN_STATUS_TRAIN_STATE != 1 then .next s
  else
    let w := rd s p Fld.LAN_TX_EQ_CUR_TAPS
    let w' := tapPut w tap (tapOf w tap + (if up then 1 else -1))
    .next (if tapsValid w' then wr s p Fld.LAN_TX_EQ_CUR_TAPS w' else stick s p Fld.LAN_STICKY_EQ_LIMIT)

/-- TX_TAP_STEP (R142): after 1,024 symbols each tap moves one unit towards the newly committed value; at
that value the ramp ends. -/
def execTxTapStep (l : Nat) (s : State) : Host.Outcome State Fault Refusal :=
  if !(laneHw s l).ramp then .next s
  else
    let w := rd s (.lan l) Fld.LAN_TX_EQ_CUR_TAPS
    let g := tapsCommitted s l
    let w' := (List.range 4).foldl (fun a i => tapPut a i (towards (tapOf w i) (tapOf g i))) w
    let s := wr s (.lan l) Fld.LAN_TX_EQ_CUR_TAPS w'
    .next (if w' = g then putLane s l { laneHw s l with ramp := false } else s)

/-! ### Sending (R128 to R132, R148, R150, R151) -/

/-- The stuff symbol for run level `x`: 1 − x on an NRZ lane, 3 − x on a PAM4 lane (R130). -/
def stuffSymbol (rate x : Nat) : Nat := if rate ≤ 2 then 1 - x else 3 - x

/-- A symbol that the lane sends (R130, R132): the run counts it, and after the 24th of a run a stuff symbol follows and
starts a new run. Its slot joins the debt, or at a debt of 64 the lane holds the link layer for one symbol. With the
levels on the line and the stuff symbols among them. -/
def sendSymbol (rate : Nat) (h : LaneHw) (x : Nat) : LaneHw × List Nat × Nat :=
  let run := if h.txRun ≠ 0 ∧ x = h.txLevel then h.txRun + 1 else 1
  if run = 24 then
    let y := stuffSymbol rate x
    ({ h with txLevel := y, txRun := 1, debt := if h.debt < 64 then h.debt + 1 else 64
              held := if h.debt < 64 then h.held else h.held + 1 }, [x, y], 1)
  else ({ h with txLevel := x, txRun := run }, [x], 0)

/-- Symbols that the lane sends, one after the other. -/
def sendSymbols (rate : Nat) : LaneHw → List Nat → LaneHw × List Nat × Nat
  | h, [] => (h, [], 0)
  | h, x :: xs =>
    let a := sendSymbol rate h x
    let b := sendSymbols rate a.1 xs
    (b.1, a.2.1 ++ b.2.1, a.2.2 + b.2.2)

/-- The errors that wait at a target each strike the next bit (R151). -/
def strikeBits (h : LaneHw) (t : Nat) (bs : List Nat) : LaneHw × List Nat :=
  let n := min (h.inj.getD t 0) bs.length
  (if n = 0 then h else { h with inj := listSet h.inj t (h.inj.getD t 0 - n) },
   bs.take n |>.map (fun b => 1 - b % 2) |> (· ++ bs.drop n))

/-- USER[63:0] in force (R148). -/
def patUser (s : State) (l : Nat) : Nat :=
  cfg s (.lan l) Fld.LAN_PAT_USER_HI_USER * 2 ^ 32 + cfg s (.lan l) Fld.LAN_PAT_USER_LO_USER

/-- The bits that the lane sends in place of those that its port offers: with GEN_EN the generator's, one for one (R148). -/
def sourceBits (s : State) (l : Nat) (h : LaneHw) (bs : List Nat) : LaneHw × List Nat :=
  if cfgB s (.lan l) Fld.LAN_PAT_CTRL_GEN_EN then
    let r := patTake (laneRate s l) (cfg s (.lan l) Fld.LAN_PAT_CTRL_GEN_PAT) (patUser s l) bs.length h.gen
    strikeBits { h with gen := r.2 } 0 r.1
  else (h, bs)

/-- The levels of bits before stuffing: Gray mapping, and precoding with PRECODE_TX (Table 4.3, stage 5). -/
def lineLevels (s : State) (l : Nat) (h : LaneHw) (bs : List Nat) : LaneHw × List Nat :=
  let xs := modulate (laneRate s l) bs
  if cfgB s (.lan l) Fld.LAN_MODE_PRECODE_TX && decide (3 ≤ laneRate s l) then
    let r := precode h.txPre xs
    ({ h with txPre := r.2 }, r.1)
  else (h, xs)

/-- Inverted polarity on the line (R139). -/
def polarity (rate : Nat) (inv : Bool) (xs : List Nat) : List Nat :=
  if inv then xs.map (stuffSymbol rate) else xs

/-- The lane puts symbols on its line: under CODING 1 with transition stuffing. -/
def putLine (s : State) (l : Nat) (h : LaneHw) (xs : List Nat) : State :=
  let p := Page.lan l
  let rate := laneRate s l
  let r := if laneCoding s l = 1 then sendSymbols rate h xs else (h, xs, 0)
  let out := polarity rate (rdB s p Fld.LAN_STATUS_EFF_TX_INV) r.2.1
  let s := putLane s l { r.1 with line := out }
  let s := if r.2.2 = 0 then s else wr s p Fld.LAN_STUFF_COUNT_STUFFED (rd s p Fld.LAN_STUFF_COUNT_STUFFED + r.2.2)
  stickIf (decide (h.held < r.1.held)) s p Fld.LAN_STICKY_STUFF_STALL

/-- LOOPBACK in force (R150): 1 near-end, 2 far-end. -/
def laneLoop (s : State) (l : Nat) : Nat := cfg s (.lan l) Fld.LAN_PAT_CTRL_LOOPBACK

/-- A lane that sends its stream: in service and neither in QUIET nor in a burst. -/
def laneSends (s : State) (l : Nat) : Bool := laneRate s l != 0 && laneLpm s l == 0

/-- The lane sends the bits that its port offers. Since the last stuff symbol `repaid` slots were repaid from fill. In
far-end loopback its own source and its generator are ignored. -/
def laneSend (s : State) (l : Nat) (bs : List Nat) (repaid : Nat) : State :=
  if !laneSends s l || laneLoop s l == 2 then s
  else
    let h := laneHw s l
    let a := sourceBits s l { h with debt := h.debt - repaid } bs
    let b := strikeBits a.1 1 a.2
    let c := lineLevels s l b.1 b.2
    putLine s l c.1 c.2

/-! ### Receiving (R128, R131, R148 to R151) -/

/-- A symbol that the lane receives (R131): after 24 of a run it is discarded and starts a new run, a violation where it
equals the run. With what is left of it, and the violations. -/
def takeSymbol (h : LaneHw) (x : Nat) : LaneHw × List Nat × Nat :=
  if h.rxRun = 24 then ({ h with rxLevel := x, rxRun := 1 }, [], b2n (x == h.rxLevel))
  else ({ h with rxLevel := x, rxRun := if h.rxRun ≠ 0 ∧ x = h.rxLevel then h.rxRun + 1 else 1 }, [x], 0)

/-- Symbols that the lane receives, one after the other. -/
def takeSymbols : LaneHw → List Nat → LaneHw × List Nat × Nat
  | h, [] => (h, [], 0)
  | h, x :: xs =>
    let a := takeSymbol h x
    let b := takeSymbols a.1 xs
    (b.1, a.2.1 ++ b.2.1, a.2.2 + b.2.2)

/-- Stuff violations are counted and reported (R131). -/
def countViols (s : State) (l n : Nat) : State :=
  if n = 0 then s
  else
    let p := Page.lan l
    stick (wr s p Fld.LAN_EVENT_COUNT_STUFF_VIOL (sat 255 (rd s p Fld.LAN_EVENT_COUNT_STUFF_VIOL + n))) p
      Fld.LAN_STICKY_STUFF_VIOL

/-- A bit of the receive stream at the checker (R149), under the settings that have reached the lane. -/
def chkBit (s : State) (l b : Nat) : State :=
  let p := Page.lan l
  let code := bk s p Fld.LAN_PAT_CTRL_CHK_PAT
  let h := laneHw s l
  if bk s p Fld.LAN_PAT_CTRL_CHK_EN = 0 ∨ 9 ≤ code then s
  else if rdB s p Fld.LAN_STATUS_CHK_SYNC then
    let r := chkCompare (laneRate s l) code (patUser s l) h.chk b
    let s := putLane s l { h with chk := r.1 }
    let s := wr s p Fld.LAN_CHK_BITS_BITS (sat (2 ^ 48 - 1) (rd s p Fld.LAN_CHK_BITS_BITS + 1))
    let s := if r.2.1 then wr s p Fld.LAN_CHK_ERR_ERRS (sat (2 ^ 48 - 1) (rd s p Fld.LAN_CHK_ERR_ERRS + 1)) else s
    if r.2.2 then chkUnsync (stick (wr s p Fld.LAN_STATUS_CHK_SYNC 0) p Fld.LAN_STICKY_CHK_SYNC_LOST) l else s
  else
    let r := chkSeek (laneRate s l) code (patUser s l) h.chk b
    let s := putLane s l { h with chk := r.1 }
    if r.2 then wr s p Fld.LAN_STATUS_CHK_SYNC 1 else s

/-- The lane receives levels from its line: polarity, far-end loopback through its own transmitter, destuffing under CODING
1, precoding, Gray decoding, the errors injected in the receive stream, and the checker. -/
def laneTake (s : State) (l : Nat) (xs : List Nat) : State :=
  let p := Page.lan l
  let rate := laneRate s l
  if rate = 0 || laneLpm s l == 2 || !rdB s p Fld.LAN_STATUS_CDR_LOCK then s
  else
    let xs := polarity rate (rdB s p Fld.LAN_STATUS_EFF_RX_INV) xs
    let s := if laneLoop s l = 2 ∧ laneSends s l then
        putLane s l { laneHw s l with line := polarity rate (rdB s p Fld.LAN_STATUS_EFF_TX_INV) xs } else s
    let r := if laneCoding s l = 1 then takeSymbols (laneHw s l) xs else (laneHw s l, xs, 0)
    let s := countViols (putLane s l r.1) l r.2.2
    let h := laneHw s l
    let pre := cfgB s p Fld.LAN_MODE_PRECODE_RX && decide (3 ≤ rate)
    let ys := if pre then unprecode h.rxPre r.2.1 else r.2.1
    let a := strikeBits { h with rxPre := r.2.1.getLast?.getD h.rxPre } 2 (demodulate rate ys)
    a.2.foldl (fun s b => chkBit s l b) (putLane s l a.1)

/-- Levels that arrive at the lane's pins; in near-end loopback the lane hears its own transmitter alone (R150). -/
def laneHears (s : State) (l : Nat) (xs : List Nat) : State := if laneLoop s l = 1 then s else laneTake s l xs

/-- In near-end loopback what the lane put on its line returns to its receiver. -/
def laneReturns (s : State) (l : Nat) : State :=
  if laneLoop s l = 1 ∧ laneSends s l then laneTake s l (laneHw s l).line else s

/-- STUFF_INSERT (R128, R130, R132): the lane sends the bits `bs` that its port offers, up to the symbol after which a stuff
symbol follows; since the last one `repaid` slots were repaid from fill. -/
def execStuffInsert (l : Nat) (bs : List Nat) (repaid : Nat) (s : State) : Host.Outcome State Fault Refusal :=
  .next (laneReturns (laneSend s l bs repaid) l)

/-- STUFF_DISCARD (R131): the levels `xs` arrive, up to a stuff symbol, which the lane discards. -/
def execStuffDiscard (l : Nat) (xs : List Nat) (s : State) : Host.Outcome State Fault Refusal := .next (laneHears s l xs)

/-! ### Low-power states (R144 to R146) -/

/-- The time of fill only before QUIET, in ns; IDLE_100NS 0 is treated as 1 (Table 4.7). -/
def quietAfter (s : State) (l : Nat) : Nat := 100 * max 1 (cfg s (.lan l) Fld.LAN_POWER_IDLE_100NS)

/-- QUIET_ENTRY (R144): an active Aladotra lane with LPM 1 enters QUIET after `ns` of fill only. -/
def execQuietEntry (l ns : Nat) (s : State) : Host.Outcome State Fault Refusal :=
  if decide (quietAfter s l ≤ ns) && laneCoding s l == 1 && laneRate s l != 0 && cfg s (.lan l) Fld.LAN_POWER_LPM == 1 && laneLpm s l == 0 then
    .next (eqFree (wr s (.lan l) Fld.LAN_STATUS_LPM_STATE 1) l)
  else .next s

/-- The symbols of a training burst under the settings in force, and the bits of one: PRBS13 (R145). -/
def burstLen (s : State) (l : Nat) : Nat := 1024 * (cfg s (.lan l) Fld.LAN_POWER_BURST + 1)
def burstBits (s : State) (l : Nat) : List Nat :=
  (patTake (laneRate s l) 2 0 (if laneRate s l ≤ 2 then (laneHw s l).burst else 2 * (laneHw s l).burst) (patStart 2 l)).1

/-- A lane in QUIET starts its training burst (R145). -/
def quietExit (s : State) (l : Nat) : State :=
  if laneLpm s l == 1 then
    let s := wr s (.lan l) Fld.LAN_STATUS_LPM_STATE 3
    putLane s l { laneHw s l with burst := burstLen s l, eq := none }
  else s

/-- QUIET_EXIT (R145): the link layer offers a symbol. -/
def execQuietExit (l : Nat) (s : State) : Host.Outcome State Fault Refusal := .next (quietExit s l)

/-- QUIET_EXIT_BOUNDARY (R145): the lane exits ahead of the boundary; only under CODING 1. -/
def execQuietExitBoundary (l : Nat) (s : State) : Host.Outcome State Fault Refusal :=
  .next (if laneCoding s l == 1 then quietExit s l else s)

/-- QUIET_MAX_EXIT (R145): 1 ms in QUIET has passed. -/
def execQuietMaxExit (l : Nat) (s : State) : Host.Outcome State Fault Refusal := .next (quietExit s l)

/-- BURST_END (R145, R146): the lane's own burst ends, and it is active and sends the link stream without a run of its own;
or the burst of its partner ends, and a receiver that has not relocked sets BURST_FAIL and restarts Table 4.4 from the CDR
lock step. DESIGN CHOICE: a failed relock is no loss of CDR lock as well: it sets neither CDR_UNLOCK nor counts UNLOCK. -/
def execBurstEnd (l : Nat) (relocked : Bool) (s : State) : Host.Outcome State Fault Refusal :=
  let p := Page.lan l
  if laneCoding s l != 1 || laneRate s l == 0 || laneLpm s l == 2 then .next s
  else
    let s := if laneLpm s l == 3 then
        putLane (wr s p Fld.LAN_STATUS_LPM_STATE 0) l { laneHw s l with burst := 0, txRun := 0 } else s
    if relocked then .next s
    else
      let s := countSat s p Fld.LAN_EVENT_COUNT_BURST_FAIL
      .next (reacquire (stick s p Fld.LAN_STICKY_BURST_FAIL) l)

/-! ### The checker and injection (R149, R151, R152) -/

/-- CHK_SYNC_ACQUIRED (R149): the levels `xs` arrive, up to the last of 64 consecutive error-free bits. -/
def execChkSyncAcquired (l : Nat) (xs : List Nat) (s : State) : Host.Outcome State Fault Refusal :=
  .next (laneHears s l xs)

/-- CHK_SYNC_LOST (R149): the levels `xs` arrive, up to the bit at which more than 128 of the last 1,024 are in error. -/
def execChkSyncLost (l : Nat) (xs : List Nat) (s : State) : Host.Outcome State Fault Refusal :=
  .next (laneHears s l xs)

/-- Both checker counters return to 0 (R149). -/
def chkClear (s : State) (l : Nat) : State :=
  wr (wr s (.lan l) Fld.LAN_CHK_BITS_BITS 0) (.lan l) Fld.LAN_CHK_ERR_ERRS 0

/-- CHK_CLR (R149, R122). -/
def execChkClr (l : Nat) (s : State) : Host.Outcome State Fault Refusal :=
  .next (eventNow s (.lan l) Fld.LAN_PAT_CTRL_CHK_CLR (chkClear · l))

/-- LAN_EVENT_COUNT returns to 0 (R152). -/
def evtClear (s : State) (l : Nat) : State :=
  let p := Page.lan l
  let s := wr s p Fld.LAN_EVENT_COUNT_STUFF_VIOL 0
  let s := wr s p Fld.LAN_EVENT_COUNT_BURST_FAIL 0
  let s := wr s p Fld.LAN_EVENT_COUNT_UNLOCK 0
  wr s p Fld.LAN_EVENT_COUNT_LOS 0

/-- EVT_CLR (R152, R122). -/
def execEvtClr (l : Nat) (s : State) : Host.Outcome State Fault Refusal :=
  .next (eventNow s (.lan l) Fld.LAN_PAT_CTRL_EVT_CLR (evtClear · l))

/-- One bit error waits for the next bit at the target that TARGET selects; with TARGET 0 and GEN_EN 0, and on a disabled
lane, nothing is injected (R124, R151). At most 255 wait behind the next (R120). -/
def inject (s : State) (l : Nat) : State :=
  let t := cfg s (.lan l) Fld.LAN_INJECT_TARGET
  let h := laneHw s l
  if laneRate s l == 0 || (t == 0 && !cfgB s (.lan l) Fld.LAN_PAT_CTRL_GEN_EN) then s
  else if 256 ≤ h.inj.getD t 0 then stick s (.lan l) Fld.PAGE_HDR_STICKY_XING_SAT
  else putLane s l { h with inj := listSet h.inj t (h.inj.getD t 0 + 1) }

/-- INJ_ONE (R151). -/
def execInjOne (l : Nat) (s : State) : Host.Outcome State Fault Refusal :=
  .next (eventNow s (.lan l) Fld.LAN_INJECT_INJ_ONE (inject · l))

/-- INJECT_PERIODIC (R151): 2^INJ_RATE bits have passed, with INJ_RATE 8 to 31. -/
def execInjectPeriodic (l : Nat) (s : State) : Host.Outcome State Fault Refusal :=
  .next (if 8 ≤ cfg s (.lan l) Fld.LAN_INJECT_INJ_RATE then inject s l else s)

/-- An RW value reaches the lane (R149): a change of CHK_EN from 0 to 1 clears the checker's counters, and a checker that is
off, or set to another pattern, is not synchronised. -/
def chkReach (s : State) (l : Nat) (f : Field) (v : Nat) : State :=
  let p := Page.lan l
  let old := bk s p f
  let s := wrBlk s p f v
  if bk s p f = old ∨ (f ≠ Fld.LAN_PAT_CTRL_CHK_EN ∧ f ≠ Fld.LAN_PAT_CTRL_CHK_PAT) then s
  else
    let s := chkUnsync (wr s p Fld.LAN_STATUS_CHK_SYNC 0) l
    if f = Fld.LAN_PAT_CTRL_CHK_EN ∧ old = 0 then chkClear s l else s

/-! ### Commits (R134, R141 to R143) -/

/-- The rules of R143 that the lane's latched values break. -/
def laneLatchedBad (s : State) (l : Nat) : Bool :=
  let p := Page.lan l
  let rate := ltc s p Fld.LAN_MODE_RATE
  let coding := ltc s p Fld.LAN_MODE_CODING
  let medium := ltc s p Fld.LAN_MODE_MEDIUM
  let lpm := ltc s p Fld.LAN_POWER_LPM
  let gen := ltc s p Fld.LAN_PAT_CTRL_GEN_PAT
  let inj := ltc s p Fld.LAN_INJECT_INJ_RATE
  let taps := ltc s p Fld.LAN_TX_EQ_PRE2 * 2 ^ 24 + ltc s p Fld.LAN_TX_EQ_PRE1 * 2 ^ 16
    + ltc s p Fld.LAN_TX_EQ_MAIN * 2 ^ 8 + ltc s p Fld.LAN_TX_EQ_POST1
  decide (6 ≤ rate) || decide (2 ≤ coding) || (decide (2 ≤ medium) && rate == 5) || (coding == 1 && rate == 1)
    || (ltc s p Fld.LAN_MODE_TRAIN_EN == 1 && decide (medium < 2))
    || ((ltc s p Fld.LAN_MODE_PRECODE_TX == 1 || ltc s p Fld.LAN_MODE_PRECODE_RX == 1) && (rate == 1 || rate == 2))
    || !tapsValid taps || ltc s p Fld.LAN_RX_CTRL_ADAPT == 3
    || lpm == 3 || (lpm == 1 && coding == 0)
    || decide (9 ≤ gen) || (gen == 6 && (rate == 1 || rate == 2)) || ltc s p Fld.LAN_PAT_CTRL_LOOPBACK == 3
    || (decide (1 ≤ inj) && decide (inj ≤ 7)) || ltc s p Fld.LAN_INJECT_TARGET == 3

/-- The effective source of a lane that takes part in a commit or not (R141). -/
def effSource (s : State) (isDue : Page → Bool) (fsrc : Field) (lo : Nat) (l : Nat) : Nat :=
  let p := Page.lan l
  let get := if isDue p then ltc s p else cfg s p
  if get Fld.LAN_MAP_USE_FUSE == 1 then bits (fuseByte s l) (lo + 2) lo else get fsrc

/-- Whether the sources of an octet are a permutation of 0 to 7 in both directions (R141). -/
def octetOk (s : State) (isDue : Page → Bool) (o : Nat) : Bool :=
  let ls := (List.range 8).map (fun i => 8 * o + i)
  (dedup (ls.map (effSource s isDue Fld.LAN_MAP_TX_SRC 0))).length == 8
    && (dedup (ls.map (effSource s isDue Fld.LAN_MAP_RX_SRC 3))).length == 8

/-- The fields whose committed change takes a lane out of service (R142). -/
def laneServiceFields : List Field :=
  [Fld.LAN_MODE_RATE, Fld.LAN_MODE_CODING, Fld.LAN_MODE_MEDIUM, Fld.LAN_MODE_TRAIN_EN, Fld.LAN_MODE_PRECODE_TX,
   Fld.LAN_MODE_PRECODE_RX, Fld.LAN_MAP_USE_FUSE, Fld.LAN_MAP_RX_SRC, Fld.LAN_MAP_TX_SRC, Fld.LAN_MAP_RX_INV,
   Fld.LAN_MAP_TX_INV, Fld.LAN_PAT_CTRL_GEN_EN, Fld.LAN_PAT_CTRL_LOOPBACK]

/-- A change of ADAPT (R135): ADAPT 2 restarts the adaptation once from CTLE_PRESET. -/
def adaptApplied (old s : State) (l : Nat) : State :=
  let p := Page.lan l
  if cfg old p Fld.LAN_RX_CTRL_ADAPT = cfg s p Fld.LAN_RX_CTRL_ADAPT then s
  else if cfg s p Fld.LAN_RX_CTRL_ADAPT = 2 then
    putLane s l { laneHw s l with eq := none, restart := some (cfg s p Fld.LAN_RX_CTRL_CTLE_PRESET) }
  else eqFree s l

/-- The equaliser of a lane stands still: frozen under ADAPT 1 with no training in progress, or held in QUIET (R135, R144). -/
def eqHeld (s : State) (l : Nat) : Bool :=
  laneLpm s l == 1 || (cfg s (.lan l) Fld.LAN_RX_CTRL_ADAPT == 1 && rd s (.lan l) Fld.LAN_STATUS_TRAIN_STATE != 1)

/-- An image of the equaliser that the receiver has found by itself (R136): a CTLE code and 15 taps. -/
def eqDraw (s : State) : List Nat × State :=
  (List.range 16).foldl (fun (r : List Nat × State) i =>
    let d := draw r.2 17 (if i = 0 then 4 else 16)
    (r.1 ++ [d.1], d.2)) ([], s)

/-- The adapted equaliser of a receiver as it is read (R136): a new image while it adapts, the same while it stands. -/
def eqWords (s : State) (l : Nat) : List Nat × State :=
  match (laneHw s l).eq with
  | some ws => if eqHeld s l then (ws, s) else eqDraw s
  | none =>
    let r := eqDraw s
    if eqHeld s l then (r.1, putLane r.2 l { laneHw r.2 l with eq := some r.1 }) else r

/-- What an applied commit does to a lane, `old` being the state before the apply (R142): a restart, a ramp
of the taps, or an exit from QUIET. -/
def laneApplied (old s : State) (l : Nat) : State :=
  let p := Page.lan l
  let lpmOld := cfg old p Fld.LAN_POWER_LPM
  let lpmNew := cfg s p Fld.LAN_POWER_LPM
  if laneServiceFields.any (fun f => cfg old p f != cfg s p f)
      || (lpmOld != lpmNew && (lpmOld == 2 || lpmNew == 2)) then laneRestart s l
  else
    let s := if lpmNew == 0 then quietExit s l else s
    let s := adaptApplied old s l
    let s := if cfg old p Fld.LAN_PAT_CTRL_GEN_PAT == cfg s p Fld.LAN_PAT_CTRL_GEN_PAT then s
      else putLane s l { laneHw s l with gen := patStart (cfg s p Fld.LAN_PAT_CTRL_GEN_PAT) l }
    if tapsCommitted old l != tapsCommitted s l && laneRate s l != 0
        && rd s p Fld.LAN_STATUS_TRAIN_STATE != 1 then
      putLane s l { laneHw s l with ramp := true }
    else s

end Sys2Proof.Machine
end

