-- ==== Sys2Proof/Machine/Ports.lean ====
section
/-! DEFINITION. What the ports and the traffic manager know at an instant: rates (R153, R354), gates
(R384 to R388), class holds, shaper credits (R389) and finish tags (R379). -/

namespace Sys2Proof.Machine

/-! ### Ports -/

/-- The line rate of a lane at each RATE, in kbit/s (Table 4.1). -/
def laneKbps : Nat → Nat
  | 1 => 10_312_500 | 2 => 25_781_250 | 3 => 53_125_000 | 4 => 106_250_000 | 5 => 212_500_000 | _ => 0

/-- The rate of an Ethernet port at each SPEED, in kbit/s (Table 5.6). -/
def speedKbps : Nat → Nat
  | 0 => 10_000_000 | 1 => 25_000_000 | 2 => 50_000_000 | 3 => 100_000_000 | 4 => 200_000_000
  | 5 => 400_000_000 | 6 => 800_000_000 | 7 => 1_600_000_000 | _ => 0

/-- The port is enabled (R153). -/
def portEnabled (s : State) (n : Nat) : Bool := cfgB s (.mac n) Fld.MAC_PORT_CFG_ENABLE

/-- The number of lanes of a port. -/
def portWidth (s : State) (n : Nat) : Nat := 2 ^ cfg s (.mac n) Fld.MAC_PORT_CFG_WIDTH

/-- The port carries an Aladotra link (R153). -/
def isAld (s : State) (n : Nat) : Bool := laneCoding s n == 1

/-- A port's rate in kbit/s (R354). -/
def portKbps (s : State) (n : Nat) : Nat :=
  if isAld s n then portWidth s n * laneKbps (laneRate s n)
  else speedKbps (cfg s (.mac n) Fld.MAC_PORT_CFG_SPEED)

/-- LINK_UP of a front port (R155, R443). -/
def linkUp (s : State) (n : Nat) : Bool := rdB s (.mac n) Fld.MAC_STATUS_LINK_UP

/-- The scheduled class is served by cyclic queuing (R68). -/
def schedOn (s : State) : Bool := cfgB s .stitch Fld.SMP_STITCH_CTRL_SCHED_EN

/-- SCHED_CLASS in force. -/
def schedClass (s : State) : Nat := cfg s .stitch Fld.SMP_STITCH_CTRL_SCHED_CLASS

/-- OVERHEAD of a port (Table 12.6). -/
def overhead (s : State) (p : Nat) : Nat := cfg s (.tmg p) Fld.TMG_PORT_CFG_OVERHEAD

/-! ### Frames and queues as they stand -/

/-- Descriptor `f`. -/
def frm (s : State) (f : Nat) : Frm := tabGet s.rs.frm {} f

/-- Descriptor `f` replaced. -/
def putFrm (s : State) (f : Nat) (x : Frm) : State := { s with rs := { s.rs with frm := tabPut s.rs.frm {} f x } }

/-- L of a frame: from DA to FCS (Table 11.1). -/
def frmLen (x : Frm) : Nat := (if x.state = 0 then x.len else none).getD (x.bytes.length + 4)

/-- A frame of class `c` that port `p` has chosen is counted (Table 12.8). -/
def countChosen (s : State) (p c len : Nat) : State := bump (bump s (.tmg p) (4 * c) 1) (.tmg p) (4 * c + 1) len

/-- Output queue `q` (R25), head first. -/
def queueOf (s : State) (q : Nat) : List QEnt := tabGet s.rs.queue [] q

/-- Output queue `q` replaced. -/
def putQueue (s : State) (q : Nat) (es : List QEnt) : State :=
  { s with rs := { s.rs with queue := tabPut s.rs.queue [] q es } }

/-- The frame that a port's consumer holds. -/
def txOf (s : State) (p : Nat) : Option TxSt := tabGet s.rs.tx none p

/-- The consumer's frame replaced. -/
def putTx (s : State) (p : Nat) (x : Option TxSt) : State := { s with rs := { s.rs with tx := tabPut s.rs.tx none p x } }

/-- The traffic manager's state of a port. -/
def tmOf (s : State) (p : Nat) : TmSt := tabGet s.tm.port {} p

/-- The traffic manager's state of a port replaced. -/
def putTm (s : State) (p : Nat) (x : TmSt) : State := { s with tm := { s.tm with port := tabPut s.tm.port {} p x } }

/-- The pause state of a port. -/
def pauseOf (s : State) (p : Nat) : PauseSt := tabGet s.tm.pause {} p

/-- The pause state of a port replaced. -/
def putPause (s : State) (p : Nat) (x : PauseSt) : State :=
  { s with tm := { s.tm with pause := tabPut s.tm.pause {} p x } }

/-! ### Gates (R384 to R388) -/

/-- The position in a list at time `t` (quarter ns), in quarter ns from the start of its cycle (R385). -/
def gatePos (g : GateList) (t : Nat) : Nat :=
  (((t : Int) - (4 * g.t0 : Nat)) % ((4 * g.cycle : Nat) : Int)).toNat

/-- The entry that contains position `x`, and its end; the last entry stays in force to the end of the
cycle (R385). -/
def gateWalk (cycle : Nat) : List Nat → Nat → Nat → Nat → Nat × Nat
  | [], i, _, _ => (i, cycle)
  | [_], i, _, _ => (i, cycle)
  | w :: ws, i, from_, x =>
    let fin := from_ + 4 * bits w 23 0
    if x < fin then (i, if fin < cycle then fin else cycle) else gateWalk cycle ws (i + 1) fin x

/-- The entry of a list in force at `t`, and the time at which it ends. -/
def gateEntry (g : GateList) (t : Nat) : Nat × Nat :=
  let x := gatePos g t
  let r := gateWalk (4 * g.cycle) g.entries 0 0 x
  (r.1, t + (r.2 - x))

/-- The list that runs at `t`: the pending one from its start (R386). -/
def gateListAt (s : State) (p t : Nat) : Option GateList :=
  match (tmOf s p).pend with
  | some g => if 4 * g.t0 ≤ t then some g else (tmOf s p).gl
  | none => (tmOf s p).gl

/-- The gates in force at `t`; all open where no list runs. -/
def gatesAt (s : State) (p t : Nat) : Nat :=
  match gateListAt s p t with
  | some g => bits (g.entries.getD (gateEntry g t).1 0) 31 24
  | none => 0xFF

/-- The next instant after `t` at which the gates may change; none where no list runs or waits. -/
def gateNext (s : State) (p t : Nat) : Option Nat :=
  let run := (gateListAt s p t).map (fun g => (gateEntry g t).2)
  let start := (tmOf s p).pend.bind (fun g => if t < 4 * g.t0 then some (4 * g.t0) else none)
  match run, start with
  | some a, some b => some (if a < b then a else b)
  | some a, none => some a
  | none, b => b

/-- The instant at which the gate of class `c` next closes, seen from `t`; none where it never does within
the entries that `n` steps reach (R387). -/
def gateCloses (s : State) (p c : Nat) : Nat → Nat → Option Nat
  | 0, _ => none
  | n + 1, t =>
    if !bit (gatesAt s p t) c then some t
    else match gateNext s p t with
      | some t' => gateCloses s p c n t'
      | none => none

/-- Steps that pass the whole of both lists twice. -/
def gateFuel (s : State) (p : Nat) : Nat :=
  let len := fun (g : Option GateList) => (g.map (fun x => x.entries.length)).getD 0
  2 * (len (tmOf s p).gl + len (tmOf s p).pend) + 4

/-- The instant at which the gate of class `c` next closes, seen from the present: a class that stays open through a
whole cycle of the list in force stays open until a pending list starts (R387). -/
def gateClose (s : State) (p c : Nat) : Option Nat :=
  match gateCloses s p c (gateFuel s p) s.now with
  | some t => some t
  | none => (tmOf s p).pend.bind (fun g =>
      if s.now < 4 * g.t0 then gateCloses s p c (gateFuel s p) (4 * g.t0) else none)

/-- The windows of a list within its cycle: whether class `c` is open, and how long in quarter ns. -/
def gateWindows (cycle c : Nat) : List Nat → Nat → List (Bool × Nat)
  | [], _ => []
  | [w], from_ => [(bit w (24 + c), cycle - from_)]
  | w :: ws, from_ =>
    let fin := from_ + 4 * bits w 23 0
    if cycle ≤ fin then [(bit w (24 + c), cycle - from_)]
    else (bit w (24 + c), fin - from_) :: gateWindows cycle c ws fin

/-- The longest unbroken open time of class `c` in a list, counted across the end of the cycle; none where
the gate never closes (R388). -/
def longestOpen (g : GateList) (c : Nat) : Option Nat :=
  let ws := gateWindows (4 * g.cycle) c g.entries 0
  if ws.all (·.1) then none
  else
    let r := (ws ++ ws).foldl (fun (a : Nat × Nat) w =>
      let run := if w.1 then a.1 + w.2 else 0
      (run, if a.2 < run then run else a.2)) (0, 0)
    some r.2

/-- Whether a frame of `len` bytes with OVERHEAD passes the wire of a port within `d` quarter ns. -/
def wireFits (s : State) (p len d : Nat) : Bool :=
  decide ((len + overhead s p) * 32_000_000 ≤ d * portKbps s p)

/-! ### Holds and shapers -/

/-- Class `c` of a port is held by pause or PFC (R164, R165); the recirculation feed takes no frame of a class
whose account is held (Table 11.5); a CPU port takes up no frame behind one that the Needle has at hand (R497). -/
def classHeld (s : State) (p c : Nat) : Bool :=
  if p < 1024 then bit (rd s (.mac p) Fld.MAC_STATUS_TX_HELD) c
  else if 1032 ≤ p ∧ p < 1040 then
    (tabGet s.rs.acct {} (8 * p + c)).hold || rdB s .rsx Fld.RSX_STATUS_QE_HOLD
  else if 1024 ≤ p ∧ p < 1032 then (tabGet s.ndl.wait {} (8 * (p - 1024) + c)).seen.isSome
  else false

/-- Class `c` of a port is shaped. -/
def shaped (s : State) (p c : Nat) : Bool := bit (cfg s (.tmg p) Fld.TMG_SHAPE_EN_SHAPE_EN) c

/-- CRED_MAX of a class in the unit of credits. -/
def credMax (s : State) (p c : Nat) : Int := (cfg s (.tmg p) (Fld.TMG_CRED_MAX_CRED_MAX c) * 32_000_000 : Nat)

/-- The credit of class `c` at time `t`, from the one at the last change (Table 12.3). -/
def creditAt (s : State) (p c t : Nat) : Int :=
  let x := tmOf s p
  let cr := tabGet x.cred 0 c
  let dt : Int := (t - x.credAt : Nat)
  let up : Int := (cfg s (.tmg p) (Fld.TMG_IDLE_SLOPE_SLOPE c) * 1000 : Nat)
  let sending := match txOf s p with | some f => f.cls == c | none => false
  if sending then cr - ((portKbps s p : Int) - up) * dt
  else if (queueOf s (8 * p + c)).isEmpty then
    if 0 < cr then 0 else if 0 < cr + up * dt then 0 else cr + up * dt
  else if bit (gatesAt s p x.credAt) c && !classHeld s p c then
    if credMax s p c < cr + up * dt then credMax s p c else cr + up * dt
  else cr

/-- The credits of a port are brought to the present, before anything changes that they depend on. -/
def settle (s : State) (p : Nat) : State :=
  if p < 1024 then
    let cred := (List.range 8).foldl (fun m c =>
      tabPut m 0 c (if shaped s p c then creditAt s p c s.now else tabGet m 0 c)) (tmOf s p).cred
    putTm s p { tmOf s p with cred := cred, credAt := s.now }
  else s

/-! ### Finish tags (R379) -/

/-- The head of class `c` gives up its tag, and F returns to what it was. -/
def untag (s : State) (p c : Nat) : State :=
  let x := tmOf s p
  match tabGet x.tag none c with
  | some t => putTm s p { x with tag := tabPut x.tag none c none, f := tabPut x.f 0 c t.2 }
  | none => s

end Sys2Proof.Machine
end

