-- ==== Sys2Proof/Machine/Reseau.lean ====
section
/-! DEFINITION. The shared buffer (chapter 11): cells, descriptors and references, accounts and back-pressure,
queues, bad frames, and the buffer auditor. -/

namespace Sys2Proof.Machine

/-! ### Accounts (R356 to R360) -/

/-- Cell `c` of the cell state table. -/
def cellOf (s : State) (c : Nat) : Cell := tabGet s.rs.cell {} c

/-- Cell `c` replaced. -/
def putCell (s : State) (c : Nat) (x : Cell) : State := { s with rs := { s.rs with cell := tabPut s.rs.cell {} c x } }

/-- Account `a`. -/
def acctOf (s : State) (a : Nat) : Acct := tabGet s.rs.acct {} a

/-- Account `a` replaced. -/
def putAcct (s : State) (a : Nat) (x : Acct) : State := { s with rs := { s.rs with acct := tabPut s.rs.acct {} a x } }

/-- MIN of an account. -/
def acctMin (s : State) (a : Nat) : Nat := bits (word s .rsx 1 (2 * a)) 15 0

/-- HDRM of an account: 0 for the internal sources (R358). -/
def acctHdrm (s : State) (a : Nat) : Nat := if a < 8192 then bits (word s .rsx 1 (2 * a)) 31 16 else 0

/-- The reserved cells of a table of account settings (R360): all at their reset values but those listed. -/
def reservedOf (t : Tab Nat) : Nat :=
  let base := (pageBase .rsx + 1) * 0x1_0000_0000
  t.foldl (fun acc e =>
    if base ≤ e.1 ∧ e.1 < base + 16896 ∧ (e.1 - base) % 2 = 0 then
      acc + e.2 % 65536 + (if (e.1 - base) / 2 < 8192 then bits e.2 31 16 else 0) - 16
    else acc) 135168

/-- The cells in a state. -/
def cellCount (s : State) (st : Nat) : Nat := (s.rs.cell.filter (fun e => e.2.state == st)).length

/-- RSX_SHARED_SIZE (R360). -/
def sharedSize (s : State) : Nat := 1_048_576 - reservedOf s.ind - cellCount s 2

/-- RSX_SHARED_USED. -/
def sharedUsed (s : State) : Nat := s.rs.acct.foldl (fun n e => n + e.2.usedSh) 0

/-- RSX_FREE_CELLS. -/
def freeCells (s : State) : Nat := 1_048_576 - cellCount s 1 - cellCount s 2

/-- SH_FREE (R359): the cells of the shared pool that no account holds. -/
def sharedFree (s : State) : Nat := sharedSize s - sharedUsed s

/-- The limit L of an account (R359). -/
def acctLimit (s : State) (a : Nat) : Nat :=
  let w := word s .rsx 1 (2 * a + 1)
  if bit w 31 then sharedFree s * 2 ^ bits w 30 28 / 16 else bits w 19 0

/-- The cells that an account holds. -/
def acctUsed (x : Acct) : Nat := x.usedMin + x.usedSh + x.usedHr

/-- Whether HOLD may clear (R359). -/
def holdClears (s : State) (a : Nat) : Bool :=
  let x := acctOf s a
  let gap := bits (word s .rsx 1 (2 * a + 1)) 27 20
  x.usedHr == 0 && decide (0 < sharedFree s) && (x.usedSh == 0 || decide (x.usedSh + 16 * gap ≤ acctLimit s a))

/-- HOLD of an account is evaluated for clearing (R359). -/
def holdEval (s : State) (a : Nat) : State :=
  if (acctOf s a).hold && holdClears s a then putAcct s a { acctOf s a with hold := false } else s

/-- HOLD of an account is set, and counted where it was clear; the head of a recirculation port's class so loses its
eligibility (R379). -/
def holdSet (s : State) (a : Nat) : State :=
  if (acctOf s a).hold then s
  else
    let s := bump (putAcct s a { acctOf s a with hold := true }) .rsx 11 1
    if 8 * 1032 ≤ a ∧ a < 8 * 1040 then untag s (a / 8) (a % 8) else s

/-- A charge shows in MAX_USED. -/
def noteMax (s : State) (a : Nat) : State :=
  let x := acctOf s a
  if x.maxUsed < acctUsed x then putAcct s a { x with maxUsed := acctUsed x } else s

/-- A cell is charged to an account (R358): whether the account could take it, and the state after, in which
HOLD is set when the shared pool could not. -/
def chargeCell (s : State) (a : Nat) : State × Bool :=
  let x := acctOf s a
  if x.usedMin < acctMin s a then (holdEval (noteMax (putAcct s a { x with usedMin := x.usedMin + 1 }) a) a, true)
  else if x.usedSh < acctLimit s a ∧ 0 < sharedFree s then
    (holdEval (noteMax (putAcct s a { x with usedSh := x.usedSh + 1 }) a) a, true)
  else
    let s := holdSet s a
    if x.usedHr < acctHdrm s a then
      (noteMax (putAcct s a { acctOf s a with usedHr := x.usedHr + 1 }) a, true)
    else (s, false)

/-- A freed cell is credited to an account in the reverse order (R358). -/
def creditCell (s : State) (a : Nat) : State :=
  let x := acctOf s a
  let x := if 0 < x.usedHr then { x with usedHr := x.usedHr - 1 }
    else if 0 < x.usedSh then { x with usedSh := x.usedSh - 1 }
    else { x with usedMin := x.usedMin - 1 }
  holdEval (putAcct s a x) a

/-- Whether an account reads as held (R363). -/
def acctHeld (s : State) (a : Nat) : Bool := (acctOf s a).hold || rdB s .rsx Fld.RSX_STATUS_QE_HOLD

/-! ### Cells (R342, R343) -/

/-- The lowest FREE cell of a bank. -/
def freeInBank (s : State) (b : Nat) : Option Nat :=
  ((List.range 4096).find? (fun i => (cellOf s (256 * i + b)).state == 0)).map (fun i => 256 * i + b)

/-- The cell that the allocator takes next for a source: banks in rotation from its pointer, without the bank
of the frame's previous cell (R343). -/
def nextCell (s : State) (src : Nat) (prev : Option Nat) : Option Nat :=
  (List.range 256).findSome? (fun i =>
    let b := (tabGet s.rs.ptr 0 src + i) % 256
    if prev.map (· % 256) = some b then none else freeInBank s b)

/-- A cell is taken for an account, after cell `prev` of the frame. -/
def takeCell (s : State) (a : Nat) (prev : Option Nat) : State × Option Nat :=
  match nextCell s (a / 8) prev with
  | none => (s, none)
  | some c =>
    match chargeCell s a with
    | (s, false) => (s, none)
    | (s, true) =>
      let s := putCell s c { cellOf s c with state := 1, account := a, inPass := s.rs.audit.isSome }
      let s := { s with rs := { s.rs with ptr := tabPut s.rs.ptr 0 (a / 8) ((c + 1) % 256) } }
      (bump s .rsx 0 1, some c)

/-- `n` cells are taken one after another behind a chain; the chain after, and whether all were found. -/
def takeCells (a : Nat) : Nat → State → List Nat → State × List Nat × Bool
  | 0, s, cs => (s, cs, true)
  | n + 1, s, cs =>
    match takeCell s a cs.getLast? with
    | (s, none) => (s, cs, false)
    | (s, some c) => takeCells a n s (cs ++ [c])

/-- A cell returns to its bitmap and is credited to its account (R346). A cell that gave two errors is RETIRED,
while fewer than 1,024 are (R372). -/
def releaseCell (s : State) (c : Nat) : State :=
  let x := cellOf s c
  let s := if x.errs < 2 then putCell s c { x with state := 0, account := 0, inPass := false }
    else if cellCount s 2 < 1024 then
      bump (putCell s c { x with state := 2, account := 0, inPass := false }) .rsx 24 1
    else stick (putCell s c { x with state := 0, account := 0, inPass := false }) .rsx Fld.RSX_STICKY_RETIRE_FULL
  creditCell s x.account

/-- A holder frees a cell: the first free of a cell that a cross-link marks only clears the mark (R524). -/
def freeCell (s : State) (c : Nat) : State :=
  let x := cellOf s c
  if x.crossed then putCell s c { x with crossed := false }
  else if x.state = 1 then releaseCell s c
  else s

/-! ### Descriptors and references (R344 to R346) -/

/-- The data path works on a descriptor during an audit pass, which exempts it (R369). -/
def exempt (s : State) (f : Nat) : State :=
  if s.rs.audit.isSome && !s.rs.exempt.contains f then { s with rs := { s.rs with exempt := f :: s.rs.exempt } } else s

/-- The last owner frees the descriptor, its chain and its head override cell (R346). A stamp that was asked
for and not made is reported as discarded (R491). -/
def freeFrm (s : State) (f : Nat) : State :=
  let x := frm s f
  let s := (x.cells ++ x.headCell.toList).foldl freeCell s
  let s := match x.stamp with
    | some w => { s with rs := { s.rs with tsGone := s.rs.tsGone ++ [w] } }
    | none => s
  putFrm (exempt s f) f {}

/-- A holder gives up its reference (R345, R346). -/
def dropRef (s : State) (f : Nat) : State :=
  let x := frm s f
  if !x.used then s
  else if x.refs ≤ 1 then freeFrm s f
  else exempt (putFrm s f { x with refs := x.refs - 1 }) f

/-- A further holder takes a reference. -/
def addRef (s : State) (f : Nat) : State :=
  exempt (putFrm s f { frm s f with refs := (frm s f).refs + 1 }) f

/-- The lowest descriptor that is free. -/
def freeDesc (s : State) : Nat := firstGap 0 (tabKeys s.rs.frm)

/-- The next frame that enters takes a later place (R171, R349). -/
def nextSerial (s : State) : State := { s with rs := { s.rs with serial := s.rs.serial + 1 } }

/-- The cells that `len` bytes take (R27). -/
def cellsFor (len : Nat) : Nat := (len + 255) / 256

/-! ### Queues (R348, R363) -/

/-- RSX_FREE_QE: entries of a frame in transmission still hold their place. -/
def freeQe (s : State) : Nat :=
  2_097_152 - (s.rs.queue.foldl (fun n e => n + e.2.length) 0 + s.rs.tx.length)

/-- QE_HOLD follows the free queue entries (R363). -/
def qeCheck (s : State) : State :=
  if rdB s .rsx Fld.RSX_STATUS_QE_HOLD then
    if 1024 * cfg s .rsx Fld.RSX_QE_CFG_QE_XON ≤ freeQe s then wr s .rsx Fld.RSX_STATUS_QE_HOLD 0 else s
  else if freeQe s < 1024 * cfg s .rsx Fld.RSX_QE_CFG_QE_XOFF then
    let s := bump (stick (wr s .rsx Fld.RSX_STATUS_QE_HOLD 1) .rsx Fld.RSX_STICKY_QE_HOLD) .rsx 12 1
    (List.range 64).foldl (fun s i => untag s (1032 + i / 8) (i % 8)) s
  else s

/-- The entries of all class queues of a port. -/
def portEntries (s : State) (p : Nat) : Nat :=
  (List.range 8).foldl (fun n c => n + (queueOf s (8 * p + c)).length) 0

/-- An entry of frame `f` leaves queue `q`, and gives up its tag where it was the head. -/
def unqueue (s : State) (q f : Nat) : State :=
  let s := settle s (q / 8)
  let es := queueOf s q
  let s := if es.head?.map (·.f) = some f then untag s (q / 8) (q % 8) else s
  putQueue s q (es.eraseP (fun e => e.f == f))

/-- A frame that a front port's queue discards without sending it (R157, R515); a disabled slot keeps its counters, and
`count` says that this one does not (R153). -/
def countFlush (s : State) (p : Nat) (count : Bool) : State :=
  stick (if count then bump s (.mac p) 19 1 else s) (.mac p) Fld.MAC_STICKY_TX_FLUSHED

/-- A frame that a fenced hoop's port or a port whose link is down discards at its queues (R157, R515): the
recirculation port of hoop 4p counts for that hoop. -/
def flushes (s : State) (p : Nat) : Bool :=
  if p < 1024 then
    hoopFenced s (p / 32) || (!linkUp s p && cfgB s (.mac p) Fld.MAC_PORT_CFG_LINKDN_ACT)
  else decide (1032 ≤ p ∧ p < 1040) && hoopFenced s (4 * (p - 1032))

/-- A frame discarded at a port's queues is counted in TX_FLUSH; a recirculation port has no MAC page. -/
def flushCount (s : State) (p : Nat) (count : Bool) : State := if p < 1024 then countFlush s p count else s

/-- The stitch of the scheduled buffer that a frame of class `c` joins, where the class is scheduled (R69). -/
def schedOf (s : State) (f c : Nat) : Option Nat :=
  if schedOn s && c == schedClass s then some (frm s f).stitch else none

/-- The key of the byte count of a scheduled buffer. -/
def budKey (p n : Nat) : Nat := 2048 * n + p

/-- The byte count of a scheduled buffer is charged with a frame (R382): whether the frame may join. -/
def budget (s : State) (p f n : Nat) : State × Bool :=
  let lim := cfg s (.tmg p) Fld.TMG_SCHED_BUDGET_BUDGET
  let add := frmLen (frm s f) + overhead s p
  let was := tabGet s.rs.bud 0 (budKey p n)
  let ovr := lim != 0 && decide (lim < was + add)
  let s := if ovr then stick (bump s (.tmg p) 32 1) (.tmg p) Fld.TMG_STICKY_CQF_EXCESS else s
  if ovr && cfgB s (.tmg p) Fld.TMG_PORT_CFG_CQF_DROP then (s, false)
  else ({ s with rs := { s.rs with bud := tabPut s.rs.bud 0 (budKey p n) (was + add) } }, true)

/-- A frame is enqueued on a port and class: the entry takes a reference. A bad frame makes no copy (R355); a
port that discards what reaches its queues counts it; a frame beyond BUDGET is discarded (R382). -/
def enqPort (s : State) (p c f : Nat) : State :=
  let s := settle s p
  if (frm s f).state = 2 then bump s .rsx 9 1
  else if flushes s p then flushCount s p (portEnabled s p)
  else
    match schedOf s f c with
    | none => qeCheck (addRef (putQueue s (8 * p + c) (queueOf s (8 * p + c) ++ [⟨f, none⟩])) f)
    | some n =>
      match budget s p f n with
      | (s, false) => s
      | (s, true) => qeCheck (addRef (putQueue s (8 * p + c) (queueOf s (8 * p + c) ++ [⟨f, some n⟩])) f)

/-- Every frame queued for a port is discarded, and counted in TX_FLUSH where the slot is not disabled (R157, R515). -/
def flushPort (s : State) (p : Nat) (count : Bool) : State :=
  (List.range 8).foldl (fun s c =>
    (queueOf s (8 * p + c)).foldl (fun s e => dropRef (flushCount (unqueue s (8 * p + c) e.f) p count) e.f) s) s |> qeCheck

/-! ### Bad frames (R355) -/

/-- A frame becomes bad: the receiver gives up its reference, and every entry of a copy of which no byte has
left does; a mirror entry stays for its engine, which skips it (R366). -/
def markBad (s : State) (f : Nat) : State :=
  let x := frm s f
  if !x.used || x.state == 2 then s
  else
    let s := putFrm s f { x with state := 2, rxHeld := false }
    let qs := s.rs.queue.filter (fun e => !(decide (8320 ≤ e.1) && decide (e.1 < 8384)) && e.2.any (fun q => q.f == f))
    let s := qs.foldl (fun s e => dropRef (bump (unqueue s e.1 f) .rsx 9 1) f) s
    qeCheck (if x.rxHeld then dropRef s f else s)

/-! ### Frames of internal sources (R361) -/

/-- An internal source may take cells for class `c`: its account is not held (Table 11.5), except that the sends which
the Needle has fetched for a CPU port go on, and the block is not in a soft reset (R552). -/
def sourceReady (s : State) (src c : Nat) : Bool :=
  (decide (1024 ≤ src ∧ src < 1031) || !acctHeld s (8 * src + c)) && rd s .glb Fld.GLB_RESET_CAUSE_SOFT_STATE != 2

/-- A frame of an internal source takes all its cells and a descriptor, which its source holds; or nothing
changes but that the source waits. -/
def openFrame (s : State) (src c : Nat) (x : Frm) : State × Option Nat :=
  let wait (s : State) : State := { s with rs := { s.rs with wait := tabPut s.rs.wait false src true } }
  if !sourceReady s src c then (wait s, none)
  else
    match takeCells (8 * src + c) (cellsFor (x.bytes.length + 4)) s [] with
    | (_, _, false) => (wait (holdSet s (8 * src + c)), none)
    | (s, cs, true) =>
      let f := freeDesc s
      let x := { x with used := true, cells := cs, refs := 1, src := src, icls := c, state := 1, rxHeld := true
                        serial := s.rs.serial }
      (exempt (bump (nextSerial (putFrm s f x)) .rsx 1 1) f, some f)

/-- The source gives its frame to the queues: it holds its own reference no longer. -/
def handOver (s : State) (f : Nat) : State :=
  let x := frm s f
  if x.rxHeld then dropRef (putFrm s f { x with rxHeld := false }) f else s

/-- INTERNAL_SOURCE_RESUME (R361): a source that waited resumes when its account can take a cell and is not
held. -/
def execInternalSourceResume (src c : Nat) (s : State) : Host.Outcome State Fault Refusal :=
  .next (if tabGet s.rs.wait false src && sourceReady s src c && (chargeCell s (8 * src + c)).2
    then { s with rs := { s.rs with wait := tabPut s.rs.wait false src false } } else s)

/-- HOLD_EVALUATE (R359): HOLD of every account is evaluated. -/
def execHoldEvaluate (s : State) : Host.Outcome State Fault Refusal :=
  .next ((tabKeys s.rs.acct).foldl holdEval s)

/-! ### The boundary (R364, R374) -/

/-- `n` cells of one account divided anew, one after another in the order of R358; a cell that no part would take stays
in the shared pool, for no cell is freed. -/
def redivideAcct (a : Nat) : Nat → State → State
  | 0, s => s
  | n + 1, s =>
    let x := acctOf s a
    let x := if x.usedMin < acctMin s a then { x with usedMin := x.usedMin + 1 }
      else if x.usedSh < acctLimit s a ∧ 0 < sharedFree s then { x with usedSh := x.usedSh + 1 }
      else if x.usedHr < acctHdrm s a then { x with usedHr := x.usedHr + 1 }
      else { x with usedSh := x.usedSh + 1 }
    redivideAcct a n (putAcct s a x)

/-- Account and pool settings apply (R364): the cells of every account are divided anew, account by account. -/
def rsxApplied (s : State) : State :=
  let as := tabKeys s.rs.acct
  let was := s
  let s := as.foldl (fun s a => putAcct s a { acctOf s a with usedMin := 0, usedSh := 0, usedHr := 0 }) s
  let s := as.foldl (fun s a => redivideAcct a (acctUsed (acctOf was a)) s) s
  let s := as.foldl (fun s a =>
    if 0 < (acctOf s a).usedHr then holdSet s a else holdEval s a) s
  qeCheck s

/-- Whether a group of the latched table names a port that it must not (R374). -/
def groupBad (s : State) (g : Nat) : Bool :=
  let m (i : Nat) : Nat := wordL s .rsx 3 (34 * g + 1 + i)
  bit (wordL s .rsx 3 (34 * g)) 31 && (bit (m 32) 7 || bits (m 32) 31 16 != 0)

/-- The rules of R374 that the latched values of the main page break. -/
def rsxLatchedBad (s : State) : Bool :=
  let xon := ltc s .rsx Fld.RSX_QE_CFG_QE_XON
  let base := (pageBase .rsx + 3) * 0x1_0000_0000
  let groups := dedup ((s.indL.filter (fun e => base ≤ e.1 ∧ e.1 < base + 34 * 16384)).map (fun e => (e.1 - base) / 34))
  decide (983_040 < reservedOf s.indL) || decide (xon ≤ ltc s .rsx Fld.RSX_QE_CFG_QE_XOFF) || decide (2048 < xon)
    || groups.any (groupBad s)

/-- The rules of R376 that a mirror-engine page's latched values break. -/
def mirLatchedBad (s : State) (k : Nat) : Bool :=
  let p := Page.mir k
  let mode := ltc s p Fld.RSX_MIR_CTRL_MODE
  let dest := ltc s p Fld.RSX_MIR_CTRL_DEST
  let tr := ltc s p Fld.RSX_MIR_CTRL_TRUNC
  mode == 3 || ((dest == 1031 || decide (1040 ≤ dest)) && mode != 0)
    || (decide (1 ≤ tr) && decide (tr ≤ 59)) || decide (16380 < tr)
    || ltc s p Fld.RSX_MIR_QLIMIT_QLIMIT == 0 || (mode == 2 && ltc s p Fld.RSX_MIR_IP_CFG_TTL == 0)

/-- The cells that the frames of a queue occupy. -/
def queueCells (s : State) (q : Nat) : Nat := (queueOf s q).foldl (fun n e => n + (frm s e.f).cells.length) 0

/-- CNT_CLR of the main page: space 5, MAX_USED and HDRM_FRAMES. -/
def rsxCntClr (s : State) : State :=
  (tabKeys s.rs.acct).foldl (fun s a =>
    putAcct s a { acctOf s a with maxUsed := acctUsed (acctOf s a), hdrmFrames := 0 }) s

/-! ### The auditor (R368 to R371) -/

/-- A pass starts at a boundary whose count is a multiple of AUDIT_DIV, or is skipped as late. -/
def auditStart (s : State) : State :=
  let div := cfg s .rsx Fld.RSX_AUDIT_CFG_AUDIT_DIV
  if !cfgB s .rsx Fld.RSX_CTRL_AUDIT_EN || s.stitch % (if div = 0 then 1 else div) != 0 then s
  else if s.rs.audit.isSome then stick (bump s .rsx 14 1) .rsx Fld.RSX_STICKY_AUDIT_LATE
  else
    let s := { s with rs := { s.rs with audit := some s.stitch, exempt := []
                                        cell := tabMap (fun _ => true) {} (fun c => { c with inPass := false }) s.rs.cell } }
    wr (wr s .rsx Fld.RSX_AUDIT_STAT_RUNNING 1) .rsx Fld.RSX_STATUS_AUDIT_RUN 1

/-- A finding goes into the audit log, or is lost when the log is full (R371). -/
def auditLog (s : State) (kind index : Nat) : State :=
  if s.rs.log.length < 256 then
    { s with rs := { s.rs with log := s.rs.log ++ [⟨kind, index, s.rs.audit.getD 0⟩] } }
  else stick s .rsx Fld.RSX_STICKY_AUDIT_LOG_OVF

/-- The descriptors in use, rising. -/
def usedFrms (s : State) : List Nat := tabKeys s.rs.frm

/-- What a walk has marked: cells with the descriptor that marked them, and the number of findings. -/
structure Walk where
  marks : Tab Nat := []
  found : Nat := 0

/-- The descriptor walk meets cell `c` of descriptor `f`. -/
def walkCell (f : Nat) (a : State × Walk) (c : Nat) : State × Walk :=
  let s := a.1
  let w := a.2
  match tabFind w.marks c with
  | some g =>
    let s := stick (bump s .rsx 18 1) .rsx Fld.RSX_STICKY_AUDIT_CROSS
    let s := auditLog (auditLog s 3 g) 3 f
    (putCell s c { cellOf s c with crossed := true }, { w with found := w.found + 1 })
  | none =>
    let w := { w with marks := tabInsert w.marks c f }
    if (cellOf s c).state = 0 then
      let s := auditLog (stick (bump s .rsx 19 1) .rsx Fld.RSX_STICKY_AUDIT_CROSS) 4 c
      let acc := 8 * (frm s f).src + (frm s f).icls
      let s := if cfgB s .rsx Fld.RSX_CTRL_RECLAIM_EN then
          putCell (chargeCell s acc).1 c { cellOf s c with state := 1, account := acc }
        else s
      (s, { w with found := w.found + 1 })
    else (s, w)

/-- The references to a descriptor that the holders of Table 11.2 have. -/
def refsFound (s : State) (f : Nat) : Nat :=
  let x := frm s f
  let held := match x.stage with | .bobbin _ => 1 | .replicate => 1 | _ => 0
  b2n x.rxHeld + held
    + s.rs.queue.foldl (fun n e => n + (e.2.filter (fun q => q.f == f)).length) 0
    + (s.rs.tx.filter (fun e => e.2.map (·.f) == some f)).length

/-- The reference walk compares a descriptor that was not exempt (R370). -/
def walkRefs (a : State × Nat) (f : Nat) : State × Nat :=
  let s := a.1
  let fix := cfgB s .rsx Fld.RSX_CTRL_RECLAIM_EN
  let n := refsFound s f
  if s.rs.exempt.contains f || !(frm s f).used || n == (frm s f).refs then a
  else if n = 0 then
    let s := auditLog (stick (bump s .rsx 16 1) .rsx Fld.RSX_STICKY_AUDIT_RECLAIM) 1 f
    (if fix then freeFrm s f else s, a.2 + 1)
  else
    let s := auditLog (stick (bump s .rsx 17 1) .rsx Fld.RSX_STICKY_AUDIT_REF) 2 f
    (if fix then putFrm s f { frm s f with refs := n } else s, a.2 + 1)

/-- A cell that is USED, unmarked and older than the pass is an orphan. -/
def walkOrphan (marks : Tab Nat) (a : State × Nat) (c : Nat) : State × Nat :=
  let s := a.1
  let x := cellOf s c
  if x.state != 1 || x.inPass || (tabFind marks c).isSome then a
  else
    let s := auditLog (stick (bump s .rsx 15 1) .rsx Fld.RSX_STICKY_AUDIT_RECLAIM) 0 c
    (if cfgB s .rsx Fld.RSX_CTRL_RECLAIM_EN then releaseCell s c else s, a.2 + 1)

/-- AUDIT_PASS_END (R370, R371): the findings of the pass are recorded, and corrected where RECLAIM_EN is 1. -/
def execAuditPassEnd (s : State) : Host.Outcome State Fault Refusal :=
  match s.rs.audit with
  | none => .next s
  | some n =>
    let r := (usedFrms s).foldl (fun a f =>
      ((frm s f).cells ++ (frm s f).headCell.toList).foldl (walkCell f) a) (s, ({} : Walk))
    let cells := tabKeys r.1.rs.cell
    let q := (usedFrms r.1).foldl walkRefs (r.1, r.2.found)
    let q := cells.foldl (walkOrphan r.2.marks) q
    let s := wr q.1 .rsx Fld.RSX_AUDIT_DONE_STITCH n
    let s := wr s .rsx Fld.RSX_AUDIT_STAT_LAST_FOUND (sat 65535 q.2)
    let s := wr (wr s .rsx Fld.RSX_AUDIT_STAT_RUNNING 0) .rsx Fld.RSX_STATUS_AUDIT_RUN 0
    .next (bump { s with rs := { s.rs with audit := none, exempt := [] } } .rsx 13 1)

/-! ### Memory errors (R372) -/

/-- RSX_ERR_LOC takes a location. -/
def rsxErrLoc (s : State) (space loc : Nat) : State :=
  wr (wr (wr s .rsx Fld.RSX_ERR_LOC_VALID 1) .rsx Fld.RSX_ERR_LOC_SPACE space) .rsx Fld.RSX_ERR_LOC_LOC loc

/-- An uncorrectable error in link memory, a descriptor or a queue entry. -/
def descUncorr (s : State) (space loc : Nat) : State :=
  rsxErrLoc (stick (bump s .rsx 23 1) .rsx Fld.RSX_STICKY_DESC_UNCORR) space loc

/-- The frames whose chain holds a cell. -/
def framesAt (s : State) (c : Nat) : List Nat :=
  (s.rs.frm.filter (fun e => e.2.cells.contains c || e.2.headCell == some c)).map (·.1)

/-- An error that the Reseau finds on use (R372). What an uncorrectable error leaves unreachable waits for the
next audit pass: the cells behind a lost link, the reference of a lost queue entry, and the descriptor that
was lost with its cells. -/
def rsxError (s : State) (e : MemErr) : State :=
  match e with
  | .cell c uncorr =>
    if uncorr then
      let s := rsxErrLoc (stick (bump s .rsx 21 1) .rsx Fld.RSX_STICKY_CELL_UNCORR) 0 c
      (framesAt s c).foldl markBad (putCell s c { cellOf s c with errs := (cellOf s c).errs + 1 })
    else bump s .rsx 20 1
  | .link f pos uncorr =>
    if uncorr then
      let s := descUncorr s 1 ((frm s f).cells.getD pos 0)
      let x := frm s f
      if x.used then markBad (putFrm s f { x with cells := x.cells.take (pos + 1) }) f else s
    else bump s .rsx 22 1
  | .descriptor f uncorr =>
    if uncorr then markBad (descUncorr s 2 f) f else bump s .rsx 22 1
  | .queueEntry q pos i uncorr =>
    if uncorr then
      match (queueOf s q)[pos]? with
      | some x => unqueue (descUncorr s 3 i) q x.f
      | none => descUncorr s 3 i
    else bump s .rsx 22 1
  | .cellState c uncorr =>
    if uncorr then (framesAt s c).foldl markBad (descUncorr s 0 c) else bump s .rsx 22 1
  | .group g uncorr =>
    if uncorr then { s with ecc := tabPut s.ecc false (wordKey .rsx 3 g) true } else bump s .rsx 22 1
  | _ => s

end Sys2Proof.Machine
end

