-- ==== Sys2Proof/Machine/Dram.lean ====
section
/-! DEFINITION. The in-package DRAM (R28, R516 to R519), its spare and its errors, and what Sampler time tells the
data plane (R424, R425). -/

namespace Sys2Proof.Machine

/-! ### DRAM -/

/-- The channel of a DRAM address (R28). -/
def ddrChannel (a : Nat) : Nat := a / 256 % 32

/-- The address in the spare area to which an address of remapped channel `c` has moved (R518). -/
def spareAddr (c a : Nat) : Nat :=
  let k := a / 8192
  let r := k % 31
  0x7_8000_0000 + 256 * (32 * (k / 31) + (if r < c then r else r + 1)) + a % 256

/-- The lines of the fenced channel that the copier has passed (R518). -/
def linesCopied (s : State) : Nat := rd s .err Fld.ERR_DDR_COPY_LINES

/-- The address at which an access is served: in the spare once the copier has passed its line (R518). -/
def servedAt (s : State) (a : Nat) : Nat :=
  let g := Page.ddr (ddrChannel a)
  if rdB s g Fld.DDR_STATUS_REMAPPED && (!rdB s g Fld.DDR_STATUS_COPYING || decide (a / 8192 < linesCopied s))
  then spareAddr (ddrChannel a) a else a

/-- The channel that serves an access. -/
def servedBy (s : State) (a : Nat) : Nat := ddrChannel (servedAt s a)

/-- A channel that is fenced with no spare: every access gives an uncorrectable error (R519). -/
def ddrDead (s : State) (c : Nat) : Bool := fenced s (.ddr c) && !rdB s (.ddr c) Fld.DDR_STATUS_REMAPPED

/-- Whether a chunk is poisoned where nothing has changed it since the spare was taken (R518). -/
def poisonStart (s : State) (chunk : Nat) : Bool :=
  s.spareBlank && ddrChannel (32 * chunk) == rd s .err Fld.ERR_DDR_SPARE_CHANNEL

/-- Whether a 32-byte chunk is poisoned. -/
def poisoned (s : State) (chunk : Nat) : Bool := tabGet s.poison (poisonStart s chunk) chunk

/-- The chunks that `n` bytes from `a` touch. -/
def chunksOf (a n : Nat) : List Nat := (List.range ((a + n - 1) / 32 - a / 32 + 1)).map (fun i => a / 32 + i)

/-- Whether a read of `n` bytes at `a` returns an uncorrectable error (R518, R519). -/
def dramBad (s : State) (a n : Nat) : Bool :=
  ddrDead s (servedBy s a) || (chunksOf a n).any (poisoned s)

/-- The canonical form of the DRAM's bytes: addresses rise strictly, and no byte is listed that reads as an unlisted one
does, 0 (DESIGN CHOICE: the spec names no contents at reset). -/
def Memory.wf (m : List Host.Cell) : Bool := tabWf (fun _ => 0#8) m

/-- The bytes at a DRAM address. -/
def dramRead (s : State) (a n : Nat) : List Nat := (List.range n).map (fun i => (tabGet s.dram 0#8 (a + i)).toNat)

/-- A word of 32 bits, little-endian (R11). -/
def dramWord (s : State) (a : Nat) : Nat := leNat (dramRead s a 4)

/-- Bytes are stored without regard to poison. -/
def dramPut (s : State) : Nat → List Nat → State
  | _, [] => s
  | a, b :: bs => dramPut { s with dram := tabPut s.dram 0#8 a (BitVec.ofNat 8 b) } (a + 1) bs

/-- A write to one chunk: a whole chunk clears its poison, a partial write to a poisoned chunk is discarded and
counted (R518). -/
def dramChunk (s : State) (a : Nat) (bs : List Nat) : State :=
  if ddrDead s (servedBy s a) then s
  else if bs.length = 32 then
    dramPut { s with poison := tabPut s.poison (poisonStart s (a / 32)) (a / 32) false } a bs
  else if poisoned s (a / 32) then countWrap s (.ddr (ddrChannel a)) Fld.DDR_ERR_PART_PARTIAL
  else dramPut s a bs

/-- A write of bytes from `a`, chunk by chunk; `fuel` bounds the chunks. -/
def dramWriteLoop : Nat → State → Nat → List Nat → State
  | 0, s, _, _ => s
  | fuel + 1, s, a, bs =>
    if bs.isEmpty then s
    else
      let n := 32 - a % 32
      dramWriteLoop fuel (dramChunk s a (bs.take n)) (a + n) (bs.drop n)

/-- A write of bytes from `a`. -/
def dramWrite (s : State) (a : Nat) (bs : List Nat) : State := dramWriteLoop (bs.length + 1) s a bs

/-! ### Channel fences and the spare (R517, R518) -/

/-- A reason to fence DDR channel `c` (Table 16.3): reasons 3 and 4 fence it only while the spare is free; the
spare, while free, takes the channel over, with a copy but for reason 1. -/
def ddrFence (s : State) (c detail : Nat) : State :=
  if fenced s (.ddr c) then s
  else
    let free := rd s .err Fld.ERR_DDR_SPARE_STATE == 0
    if !free && decide (3 ≤ detail) then stick (bump s .err 9 1) .err Fld.ERR_STICKY_NO_SPARE
    else
      let s := fenceUnit s (.ddr c) 5 detail
      if free then
        let copy := detail != 1
        let s := wr s .err Fld.ERR_DDR_SPARE_STATE (if copy then 1 else 2)
        let s := wr s .err Fld.ERR_DDR_SPARE_CHANNEL c
        let s := wr s (.ddr c) Fld.DDR_STATUS_REMAPPED 1
        let s := wr s (.ddr c) Fld.DDR_STATUS_COPYING (b2n copy)
        let s := wr s .err Fld.ERR_DDR_COPY_LINES 0
        stick { s with spareBlank := !copy } .err Fld.ERR_STICKY_SPARE_USED
      else s

/-- An uncorrectable error is found at a DRAM address (R517). -/
def ddrUncorr (s : State) (a : Nat) : State :=
  let c := servedBy s a
  let g := Page.ddr c
  let addr := servedAt s a
  let s := countSat s g Fld.DDR_ERR_STAT_UE_COUNT
  let s := wr s g Fld.DDR_ERR_ADDR_ADDR addr
  let s := stick s g Fld.DDR_STICKY_UNCORR
  let lim := cfg s g Fld.DDR_ERR_CFG_UE_LIMIT
  if lim ≠ 0 ∧ lim ≤ rd s g Fld.DDR_ERR_STAT_UE_COUNT then ddrFence s c 2 else s

/-! ### Sampler time as the data plane uses it -/

/-- The UTC offset U in force, in seconds (R424). -/
def utcOffset (s : State) : Int := signed 16 (rd s .tod Fld.SMP_UTC_OFFSET)

/-- TRACEABLE of the time status word (R413). -/
def traceable (s : State) : Bool := bit (rd s .tod Fld.SMP_TOD_STAT_STATUS) 3

/-- The change instant of the leap announced, seen from Sampler second `sec` (R425); a source that announces
both leaps announces none (R424). -/
def leapInstant (s : State) (sec : Nat) : Option Nat :=
  let ins := rdB s .tod Fld.SMP_UTC_LEAP61
  let del := rdB s .tod Fld.SMP_UTC_LEAP59
  if ins == del then none
  else
    let utc := (sec : Int) - utcOffset s
    let m := (sec : Int) + (86400 - utc % 86400)
    some (if ins then m.toNat else (m - 1).toNat)

/-- Whether Sampler second `sec` lies in a leap window, from c − 2 s to c + 1 s (R425). -/
def leapNear (s : State) (sec : Nat) : Bool :=
  let near (c : Option Nat) : Bool := c.any (fun c => decide (c ≤ sec + 2) && decide (sec ≤ c))
  near (leapInstant s sec) || near s.leapLast

/-- The UTC offset that was in force at a time in quarter ns (R272). -/
def utcAt (s : State) (t : Nat) : Int :=
  match s.smp.utcPast.find? (fun e => decide (t < e.1)) with | some e => e.2 | none => utcOffset s

/-- The period in force at a time in quarter ns (R271). -/
def periodAt (s : State) (t : Nat) : Nat :=
  match s.perPast.find? (fun e => decide (t < e.1)) with
  | some e => e.2
  | none => if t < s.bndAt then s.perOld else periodNs s

end Sys2Proof.Machine
end

