-- ==== Sys2Proof/Machine/Perf.lean ====
section
/-! DEFINITION. The performance counters of the bobbins (R335, R336). -/

namespace Sys2Proof.Machine

/-- Whether a bobbin can run: neither it nor its hoop is fenced, and the hoop is awake. -/
def bobOn (s : State) (b : Nat) : Bool := !domainOff s (.bob b) && !fenced s (.bob b)

/-- The value of performance counter `n`. -/
def perfOf (s : State) (b n : Nat) : Nat := tabGet s.bob.perf 0 (8 * b + n)

/-- Performance counter `n` is set. -/
def putPerf (s : State) (b n v : Nat) : State :=
  { s with bob := { s.bob with perf := tabPut s.bob.perf 0 (8 * b + n) (trunc 48 v) } }

/-- The wrap of a performance counter sets its PERF_WRAP bit (R336). -/
def perfWrap (s : State) (b n : Nat) : State :=
  irqPage (wr s (.bob b) Fld.BOB_STICKY_PERF_WRAP (rd s (.bob b) Fld.BOB_STICKY_PERF_WRAP ||| 2 ^ n)) (.bob b)

/-- A performance counter counts `k`, and its wrap sets PERF_WRAP. -/
def perfAdd (s : State) (b n k : Nat) : State :=
  let v := perfOf s b n + k
  if 2 ^ 48 ≤ v then perfWrap (putPerf s b n v) b n else putPerf s b n v

/-- The event that counter `n` counts at present, 0 while it is frozen. -/
def perfSel (s : State) (b n : Nat) : Nat :=
  if bit (bk s (.bob b) Fld.BOB_PERF_CTRL_FREEZE) n then 0 else bk s (.bob b) (Fld.BOB_PERF_SEL_EVENT n)

/-- Counter `n` counts edges. -/
def perfEdgeMode (s : State) (b n : Nat) : Bool := bk s (.bob b) (Fld.BOB_PERF_SEL_MODE n) == 1

/-- The conditions of Table 10.11 whose edges the state determines: waits for a token and for a table operation, a DRD
ISSUED, thread 0 running, and the two queues not empty. -/
def perfStateEvent (e : Nat) : Bool := [6, 7, 9, 11, 13, 14].contains e

/-- Whether counter `n` counts clocks: a condition that holds for a time, the edges of a condition that only clocks
determine, or the edges of a pulse, which depend on the clock before (R335). -/
def perfClocked (s : State) (b n : Nat) : Bool :=
  let e := perfSel s b n
  let pulse := e == 2 || e == 8 || e == 12 || e == 15
  let edge := perfEdgeMode s b n
  decide (1 ≤ e) && decide (e ≤ 15) && !(if edge then perfStateEvent e else pulse)

/-- One occurrence of event `e` in a thread (none: in the bobbin) is counted by the counters that select it and
satisfy `on`. -/
def perfCount (s : State) (b e : Nat) (t : Option Nat) (on : State → Nat → Bool) : State :=
  (List.range 8).foldl (fun s n =>
    let sel := t.all (fun t => bit (bk s (.bob b) (Fld.BOB_PERF_SEL_TMASK n)) t)
    if perfSel s b n == e && on s n && sel then perfAdd s b n 1 else s) s

/-- A pulse of event `e` in a thread (none: in the bobbin). -/
def perfPulse (s : State) (b e : Nat) (t : Option Nat) : State := perfCount s b e t (fun s n => !perfClocked s b n)

/-- A condition of the state that was false comes true: the counters in edge mode count it (R335). -/
def perfRise (s : State) (b e : Nat) (t : Option Nat) (was is : Bool) : State :=
  if is && !was then perfCount s b e t (fun s n => perfEdgeMode s b n) else s

/-- Before a change of PERF_SEL or FREEZE, a counter that counted clocks holds from now on the open value that it has
reached; what every counter counts, it counts from now. -/
def perfNote (s : State) (b : Nat) : State :=
  (List.range 8).foldl (fun s n =>
    let s := if perfClocked s b n then let d := draw s 3 48; putPerf d.2 b n d.1 else s
    { s with bob := { s.bob with clocked := tabPut s.bob.clocked 0 (8 * b + n) s.now } }) s

/-- A performance counter is read: a value that counts clocks is a free value. -/
def perfRead (s : State) (b n : Nat) : Nat × State :=
  if perfClocked s b n then draw s 3 48 else (perfOf s b n, s)

/-- CLR sets all eight counters to 0, and they count from now. -/
def perfClear (s : State) (b : Nat) : State :=
  (List.range 8).foldl (fun s n =>
    { putPerf s b n 0 with bob := { (putPerf s b n 0).bob with
      clocked := tabPut (putPerf s b n 0).bob.clocked 0 (8 * b + n) s.now } }) s

/-- PERF_CLR (R336, R122). -/
def execPerfClr (b : Nat) (s : State) : Host.Outcome State Fault Refusal :=
  .next (eventNow s (.bob b) Fld.BOB_PERF_CTRL_CLR (perfClear · b))

/-- Whether counter `n`, which counts clocks, can have reached 2^48 since it began: it counts at most four threads in a
clock, and a clock of 1.5 GHz, the fastest of Table 17.1, takes 8/3 quarter ns. -/
def perfMayWrap (s : State) (b n : Nat) : Bool :=
  perfClocked s b n
    && decide (2 * (2 ^ 48 - perfOf s b n) ≤ 3 * (s.now - tabGet s.bob.clocked 0 (8 * b + n)))

/-- PERF_COUNTER_WRAP (R336): a counter that counts clocks wraps, once it can have; the others wrap as they count. -/
def execPerfCounterWrap (b n : Nat) (s : State) : Host.Outcome State Fault Refusal :=
  .next (if perfMayWrap s b n && bobOn s b then
    perfWrap { putPerf s b n 0 with bob := { (putPerf s b n 0).bob with
      clocked := tabPut (putPerf s b n 0).bob.clocked 0 (8 * b + n) s.now } } b n
    else s)

end Sys2Proof.Machine
end

