-- ==== Sys2Proof/Machine/Skein.lean ====
section
/-! DEFINITION. The Skein (chapter 9): flow keys and digests, the context cache, updates at line rate, age of
information, flow actions, events to the bobbins, installs, sweeps and the commands of software. -/

namespace Sys2Proof.Machine

/-! ### Profiles and digests (R261 to R265) -/

/-- Word `i` of a profile entry in force. -/
def prof (s : State) (h pf i : Nat) : Nat := word s (.skn h) 1 (8 * pf + i)

/-- Whether a profile can track frames: 1 to 63, VALID, and not in error (R261, R294). -/
def profOk (s : State) (h pf : Nat) : Bool := pf != 0 && bit (prof s h pf 0) 31 && !eccBad s (.skn h) 1 pf

/-- The bytes that each key field takes in a flow key, by code (R262, Table 7.1). -/
def keyBytes : List Nat := [2, 2, 2, 2, 1, 6, 6, 1, 1, 4, 4, 16, 16, 2, 2, 1, 3]

/-- The flow key of a frame under profile `pf` (R262). -/
def flowKey (s : State) (h pf port : Nat) (pr : Parsed) : List Nat :=
  let w0 := prof s h pf 0
  let inner := bit w0 30
  let codes := (List.range 17).filter (fun i => bit w0 i)
  let timed := bit w0 17 && pr.time.kind != 0
  let valid := codes.foldl (fun v i => if (keyField pr port inner i).isSome then v + 2 ^ i else v) (b2n timed * 2 ^ 17)
  [pf] ++ beBytes 4 valid
    ++ codes.flatMap (fun i => beBytes (keyBytes.getD i 0) (keyVal pr port inner i))
    ++ (if bit w0 17 then beBytes 2 pr.time.id else [])

/-- One bit step of the CRC-64 of ECMA-182, most significant bit first. -/
def crc64Bit (c b : Nat) : Nat :=
  let top := (c / 2 ^ 63 + b) % 2
  let c' := c * 2 % 2 ^ 64
  if top = 1 then c' ^^^ 0x42F0_E1EB_A9EA_3693 else c'

/-- The CRC of a byte, most significant bit first. -/
def crc64Byte (c b : Nat) : Nat := (List.range 8).foldl (fun c i => crc64Bit c (b / 2 ^ (7 - i) % 2)) c

/-- The flow digest of a key from a seed (R263). -/
def flowDigest (seed : Nat) (key : List Nat) : Nat := key.foldl crc64Byte seed

/-- The digest seed in force. -/
def sknSeed (s : State) (h : Nat) : Nat :=
  cfg s (.skn h) Fld.SKN_SEED_HI_SEED * 2 ^ 32 + cfg s (.skn h) Fld.SKN_SEED_LO_SEED

/-- The home bucket of a digest (R263). -/
def homeBucket (d : Nat) : Nat := bits d 34 16

/-- The record index of slot `i` of the home bucket of a digest in hoop `h` (R267). -/
def homeRecord (h d i : Nat) : Nat := h * 2097152 + 4 * homeBucket d + i

/-- The bobbin of a flow (R40). -/
def flowBobbin (h d : Nat) : Nat := 16 * h + d % 16

/-! ### Records (R266) -/

/-- The 32 words of a flow record (Table 9.2). -/
def recWords (r : FlowRec) : List Nat :=
  leWords 2 r.digest ++
  [b2n r.valid * 2 ^ 31 + b2n r.pinned * 2 ^ 30 + r.profile * 2 ^ 24 + r.filter * 2 ^ 22 + b2n r.closing * 2 ^ 21
     + b2n r.ageValid * 2 ^ 20 + b2n r.qbadLast * 2 ^ 19 + b2n r.staleLast * 2 ^ 18 + r.freshAct * 2 ^ 16
     + r.natMode * 2 ^ 14 + b2n r.polEn * 2 ^ 13 + b2n r.seqValid * 2 ^ 12,
   b2n r.lbValid * 2 ^ 31 + r.lbMember * 2 ^ 24 + r.policer]
  ++ leWords 2 r.pkts ++ leWords 2 r.bytes ++ leWords 2 r.first ++ leWords 2 r.last ++ r.hist
  ++ [r.freshThr, r.ageLast, r.ageMax, r.staleCount, r.seqGaps * 2 ^ 16 + r.seqLast, r.natAddr,
      r.user * 2 ^ 16 + r.natPort, r.expLast]
  ++ leWords 2 r.expPkts ++ leWords 2 r.expBytes

/-- The record that 32 words spell. -/
def recOfWords (w : List Nat) : FlowRec :=
  let g := fun i => w.getD i 0
  let dbl := fun i => g i + g (i + 1) * 2 ^ 32
  let f := g 2
  { digest := dbl 0, valid := bit f 31, pinned := bit f 30, profile := bits f 29 24, filter := bits f 23 22
    closing := bit f 21, ageValid := bit f 20, qbadLast := bit f 19, staleLast := bit f 18
    freshAct := bits f 17 16, natMode := bits f 15 14, polEn := bit f 13, seqValid := bit f 12
    lbValid := bit (g 3) 31, lbMember := bits (g 3) 29 24, policer := bits (g 3) 17 0
    pkts := dbl 4, bytes := dbl 6, first := dbl 8, last := dbl 10
    hist := (List.range 8).map (fun i => g (12 + i))
    freshThr := g 20, ageLast := g 21, ageMax := g 22, staleCount := g 23
    seqGaps := bits (g 24) 31 16, seqLast := bits (g 24) 15 0, natAddr := g 25
    user := bits (g 26) 31 16, natPort := bits (g 26) 15 0, expLast := g 27
    expPkts := dbl 28, expBytes := dbl 30 }

/-- The bytes of a record. -/
def recBytes (r : FlowRec) : List Nat := (recWords r).flatMap (leBytes 4)

/-- Words that bytes spell, little-endian. -/
def wordsOf (bs : List Nat) (n : Nat) : List Nat := (List.range n).map (fun i => leNat (slice bs (4 * i) 4))

/-- Record `i` of the device in DRAM (R29). -/
def dramRec (s : State) (i : Nat) : FlowRec := recOfWords (wordsOf (dramRead s (128 * i) 128) 32)

/-! ### Contexts (R268) -/

/-- Context `i` of hoop `h`. -/
def ctxOf (s : State) (h i : Nat) : Ctx := tabGet s.ctx {} (32768 * h + i)

/-- A context is replaced. -/
def putCtx (s : State) (h i : Nat) (c : Ctx) : State := { s with ctx := tabPut s.ctx {} (32768 * h + i) c }

/-- The contexts of the ways of a digest's set. -/
def setWays (d : Nat) : List Nat := (List.range 8).map (fun w => 8 * bits d 15 4 + w)

/-- The way that holds a flow (R268). -/
def ctxFind (s : State) (h d pf : Nat) : Option Nat :=
  (setWays d).find? (fun i =>
    let c := ctxOf s h i
    c.state != 0 && c.img.digest == d && c.img.profile == pf)

/-- A hit makes the way the most recent of its set. -/
def ctxTouch (s : State) (h i : Nat) : State :=
  let c := ctxOf s h i
  { putCtx s h i { c with used := s.lru + 1 } with lru := s.lru + 1 }

/-! ### Load-balance groups (R277) -/

/-- COUNT of a load-balance group; an entry in error is invalid (R294). -/
def lbCount (s : State) (h g : Nat) : Nat :=
  if eccBad s (.skn h) 2 g then 0 else bits (word s (.skn h) 2 (33 * g)) 6 0

/-- The port of member `i` of a load-balance group. -/
def lbMember (s : State) (h g i : Nat) : Nat :=
  let w := word s (.skn h) 2 (33 * g + 1 + i / 2)
  if i % 2 = 0 then bits w 10 0 else bits w 26 16

/-! ### Events (R279 to R282) -/

/-- The free places in the Skein event queue of bobbin `b`; a fenced bobbin discards what comes (R327). -/
def evqRoom (s : State) (b : Nat) : Nat :=
  if fenced s (.bob b) then 128 else 128 - (tabGet s.evq [] b).length

/-- An event enters the queue of its flow's bobbin, or is lost while the bobbin is fenced (R327). -/
def raiseEvent (s : State) (h : Nat) (e : SkEvent) : State :=
  let b := flowBobbin h e.img.digest
  if fenced s (.bob b) then stick (bump s (.bob b) 14 1) (.bob b) Fld.BOB_STICKY_EVT_LOST
  else
    let q := tabGet s.evq [] b
    perfRise { s with evq := tabPut s.evq [] b (q ++ [e]) } b 14 none (!q.isEmpty) true

/-- The event that a context raises. -/
def ctxEvent (s : State) (i type reason : Nat) (c : Ctx) (key : List Nat) : SkEvent :=
  { type := type, reason := reason, ctx := i, dirty := c.dirty, transient := c.transient, record := c.record
    stitch := s.stitch % 2 ^ 32, key := key, img := c.img }

/-- A flow leaves the cache with an EVICT event, counted by its REASON (R282). -/
def ctxEvict (s : State) (h i reason : Nat) : State :=
  let c := ctxOf s h i
  let s := raiseEvent s h (ctxEvent s i 2 reason c [])
  let s := putCtx s h i {}
  match reason with
  | 0 => bump s (.skn h) 10 1
  | 1 => bump s (.skn h) 11 1
  | 2 => bump s (.skn h) 12 1
  | 3 => bump s (.skn h) 13 1
  | _ => stick (bump s (.skn h) 9 1) (.skn h) Fld.SKN_STICKY_PEND_TIMEOUT

/-! ### Staged changes and the overlay (R290, R291) -/

/-- The number of a field group of UPDATE, by bit, for a record: the groups of R290 and bit 8 for PINNED. -/
def recSet (mask : Nat) (v r : FlowRec) : FlowRec :=
  let r := if bit mask 0 then { r with freshThr := v.freshThr } else r
  let r := if bit mask 1 then { r with freshAct := v.freshAct } else r
  let r := if bit mask 2 then { r with filter := v.filter } else r
  let r := if bit mask 3 then { r with lbValid := v.lbValid, lbMember := v.lbMember } else r
  let r := if bit mask 4 then { r with natMode := v.natMode, natAddr := v.natAddr, natPort := v.natPort } else r
  let r := if bit mask 5 then { r with polEn := v.polEn, policer := v.policer } else r
  let r := if bit mask 6 then { r with user := v.user } else r
  if bit mask 7 then
    { r with pkts := 0, bytes := 0, hist := [0, 0, 0, 0, 0, 0, 0, 0], ageMax := 0, staleCount := 0
             seqGaps := 0, expLast := 0, expPkts := 0, expBytes := 0 }
  else r

/-- A change applied to a record. -/
def recChange (op : SkOp) (r : FlowRec) : FlowRec :=
  match op with
  | .update mask v => recSet mask v r
  | .evict => r
  | .pin on => { r with pinned := on }

/-- The field groups that a change sets. -/
def opMask : SkOp → Nat
  | .update mask _ => mask
  | .evict => 0
  | .pin _ => 256

/-- The fields of a flow as lookups see them: the overlay over the context (R291). Groups 7 and PINNED steer
no frame and wait for the merge. -/
def overlaid (s : State) (h : Nat) (r : FlowRec) : FlowRec :=
  (tabGet s.skOvl [] h).foldl (fun r c =>
    if c.digest = r.digest ∧ c.profile = r.profile then
      match c.op with
      | .update mask v => recSet (mask % 128) v r
      | _ => r
    else r) r

/-- PINNED of a flow as replacement sees it. -/
def pinnedNow (s : State) (h : Nat) (r : FlowRec) : Bool :=
  (tabGet s.skOvl [] h).foldl (fun p c =>
    if c.digest = r.digest ∧ c.profile = r.profile then (match c.op with | .pin on => on | _ => p) else p) r.pinned

/-! ### Allocation (R269, R270) -/

/-- The defaults of a new flow (R270). -/
def newFlow (s : State) (h pf d : Nat) : FlowRec :=
  let w5 := prof s h pf 5
  let count := lbCount s h (bits w5 31 24)
  let lb := bit w5 16 && count != 0
  { digest := d, valid := true, profile := pf, freshAct := bits w5 1 0, freshThr := prof s h pf 1
    lbValid := lb, lbMember := if lb then d / 2 ^ 40 % count else 0 }

/-- The least recently hit ACTIVE way with PINNED 0 of a digest's set. -/
def victim (s : State) (h d : Nat) : Option Nat :=
  (setWays d).foldl (fun v i =>
    let c := ctxOf s h i
    if c.state != 2 || pinnedNow s h c.img then v
    else match v with
      | none => some i
      | some j => if c.used < (ctxOf s h j).used then some i else some j) none

/-- A tracked frame that misses is given a way, or is untracked (R269). -/
def allocate (s : State) (h pf d : Nat) : State × Option Nat :=
  let g := Page.skn h
  let b := flowBobbin h d
  let take (s : State) (i : Nat) : State × Option Nat :=
    let c : Ctx := { state := 1, pendAt := s.stitch % 65536, used := s.lru + 1, img := newFlow s h pf d }
    ({ putCtx s h i c with lru := s.lru + 1 }, some i)
  let full (s : State) : State × Option Nat := (stick (bump s g 2 1) g Fld.SKN_STICKY_EVQ_FULL, none)
  match (setWays d).find? (fun i => (ctxOf s h i).state == 0) with
  | some i => if evqRoom s b = 0 then full s else take s i
  | none =>
    match victim s h d with
    | none => (stick (bump s g 1 1) g Fld.SKN_STICKY_NO_WAY, none)
    | some i =>
      let vb := flowBobbin h (ctxOf s h i).img.digest
      if (vb = b ∧ evqRoom s b < 2 ∧ !fenced s (.bob b)) ∨ evqRoom s vb = 0 ∨ evqRoom s b = 0 then full s
      else take (ctxEvict s h i 0) i

/-- The miss event of a way just allocated, after its first frame has been applied (R269). -/
def missEvent (s : State) (h i : Nat) (key : List Nat) : State :=
  bump (raiseEvent s h (ctxEvent s i 1 0 (ctxOf s h i) key)) (.skn h) 4 1

/-! ### Update at line rate (R271 to R275) -/

/-- The sample time of a time record in ns on the PTP timescale (Table 9.3); `a` is the arrival in ns. -/
def sampleTime (s : State) (h pf a : Nat) (t : TimeRec) : Int :=
  let u := utcAt s (4 * a)
  match t.kind with
  | 1 => ((t.tHi : Int) + u) * 1000000000 + (bits t.tLo 23 0 * 1000000000 / bits (prof s h pf 4) 23 0 : Nat)
  | 2 =>
    let x : Int := (a / 1000000000 * 1000000000 + bits t.aux 15 0 * 1000000000 / bits (prof s h pf 3) 15 0 : Nat)
    if (prof s h pf 2 : Int) < x - a then x - 1000000000 else x
  | 3 => ((t.tHi : Int) + u) * 1000000000 + (bits t.tLo 31 8 * 1000000000 / 2 ^ 24 : Nat)
  | _ => ((t.tHi + bits t.extra 15 0 * 2 ^ 32 : Nat) : Int) * 1000000000 + t.tLo + signed 32 t.aux

/-- Whether a record's time quality is bad (Table 9.3). -/
def timeBad (t : TimeRec) : Bool :=
  match t.kind with
  | 1 => bits t.tLo 27 24 == 0xF
  | 2 => t.sync == 0
  | 3 => bit t.tLo 6 || bit t.tLo 5
  | _ => false

/-- What the freshness check of a frame finds. -/
structure Fresh where
  timed : Bool := false
  stale : Bool := false
  bad : Bool := false
  age : Int := 0
  future : Bool := false
  deriving DecidableEq, Repr

/-- The freshness check of a tracked frame (R272); `fl` is the flow as lookups see it. -/
def freshness (s : State) (h pf a : Nat) (fl : FlowRec) (t : TimeRec) : Fresh :=
  if t.kind = 0 ∨ t.stat ≠ 0 ∨ fl.freshThr = 0 then {}
  else
    let age := (a : Int) - sampleTime s h pf a t
    let strict := bit (prof s h pf 5) 14
    let bad := timeBad t
    let future := decide (age < -(prof s h pf 2 : Int))
    { timed := true, bad := bad, age := age, future := future
      stale := decide ((fl.freshThr : Int) < age) || (strict && (bad || future)) }

/-- The sequence number of a frame and its modulus (R275). -/
def seqOf (s : State) (h pf : Nat) (t : TimeRec) : Option (Nat × Nat) :=
  if !bit (prof s h pf 5) 18 then none
  else match t.kind with
    | 2 => some (bits t.aux 15 0, bits (prof s h pf 3) 15 0)
    | 3 => some (bits t.aux 15 0, bits (prof s h pf 3) 15 0)
    | 4 => some (t.id, 65536)
    | _ => none

/-- A count of 32 bits that saturates. -/
def sat32 (x : Nat) : Nat := sat 0xFFFF_FFFF x

/-- An age as AGE_LAST holds it: signed, saturating at ±(2^31 − 1). -/
def ageWord (a : Int) : Nat :=
  unsigned 32 (if a < -(2 ^ 31 - 1) then -(2 ^ 31 - 1) else if 2 ^ 31 - 1 < a then 2 ^ 31 - 1 else a)

/-- The record of a flow after a frame of `len` bytes whose first byte arrived at `arr` quarter ns (R271,
R273, R275). -/
def recUpdate (s : State) (h pf len arr : Nat) (pr : Parsed) (f : Fresh) (r : FlowRec) : FlowRec :=
  let a := arr / 4
  let p := periodAt s arr
  let w5 := prof s h pf 5
  let bin := a % 1000000000 % p * 8 / p
  let tcp := keyField pr 0 (bit (prof s h pf 0) 30) 15
  let count := lbCount s h (bits w5 31 24)
  let lb := bit w5 16 && !r.lbValid && count != 0
  let r := { r with
    pkts := trunc 64 (r.pkts + 1)
    bytes := trunc 64 (r.bytes + len)
    first := if r.pkts = 0 then a else r.first
    last := max r.last a
    hist := listSet r.hist bin (sat32 (r.hist.getD bin 0 + 1))
    closing := r.closing || (bit w5 17 && tcp.any (fun t => bit t 0 || bit t 2))
    lbValid := r.lbValid || lb
    lbMember := if lb then r.digest / 2 ^ 40 % count else r.lbMember }
  let r := if f.timed then
      { r with
        ageLast := ageWord f.age, ageValid := true, qbadLast := f.bad, staleLast := f.stale
        ageMax := if (r.ageMax : Int) < f.age then (min f.age (2 ^ 32 - 1)).toNat else r.ageMax
        staleCount := if f.stale then sat32 (r.staleCount + 1) else r.staleCount }
    else r
  match seqOf s h pf pr.time with
  | some (n, m) =>
    { r with
      seqGaps := if r.seqValid && n != (r.seqLast + 1) % m then sat 65535 (r.seqGaps + 1) else r.seqGaps
      seqLast := n, seqValid := true }
  | none => r

/-! ### Flow actions (R274, R276) -/

/-- Whether NAT can rewrite a frame (R278). -/
def natFits (pr : Parsed) (inner : Bool) : Bool :=
  let hs := viewHdrs pr inner
  (viewFind hs (· == .ip4)).isSome && (viewFind hs isL4).isSome && !pr.st.frag

/-- The outcome of Table 9.4 for a tracked frame, with its counters; `fl` is the flow as lookups see it after
the update, `act` the freshness action that applies, `disp` and `fd` what the classifier and the Filet gave. -/
def flowAction (s : State) (h pf : Nat) (fl : FlowRec) (act disp : Nat) (fd : FilDest) : State × SkDest :=
  let g := Page.skn h
  let w5 := prof s h pf 5
  let w6 := prof s h pf 6
  let grp := bits w5 31 24
  if disp = 3 then (s, .keep)
  else if act = 3 then (bump s g 19 1, .drop)
  else if fl.filter = 1 then (bump s g 27 1, .drop)
  else if act = 2 then (bump s g 20 1, .port (bits w6 10 0))
  else if fl.filter = 3 then (s, .bobbin (flowBobbin h fl.digest) ((bits (prof s h pf 7) 31 24 + 4) % 256))
  else if fl.filter = 2 then (bump s g 28 1, .port (bits w6 26 16))
  else
    let hit : Bool := match fd with | .port _ => true | .hairpin => true | _ => false
    if bit w5 16 ∧ fl.lbValid ∧ lbCount s h grp ≠ 0 ∧ disp = 0 ∧ hit then
      (s, .port (lbMember s h grp (fl.lbMember % lbCount s h grp)))
    else (s, .keep)

/-- The Skein takes a frame whose flow holds context `i`. -/
def skeinHit (s : State) (h i pf len arr : Nat) (pr : Parsed) (disp : Nat) (fd : FilDest) : State × SkResult :=
  let g := Page.skn h
  let c := ctxOf s h i
  let fl := overlaid s h c.img
  let f := freshness s h pf (arr / 4) fl pr.time
  let w5 := prof s h pf 5
  let img := recUpdate s h pf len arr pr f c.img
  let seqBreak := (seqOf s h pf pr.time).any (fun nm => c.img.seqValid && nm.1 != (c.img.seqLast + 1) % nm.2)
  let s := putCtx s h i { c with img := img, dirty := true }
  let s := countIf seqBreak s g 26
  let s := countIf f.timed s g 17
  let s := countIf f.stale s g 18
  let s := countIf (f.timed && f.bad) s g 21
  let s := countIf (fl.freshThr != 0 && (pr.time.kind == 0 || pr.time.stat != 0)) s g 22
  let s := countIf f.future s g 23
  let hold := f.stale && !traceable s && !bit w5 15
  let leap := f.stale && leapNear s (arr / 4000000000)
  let s := countIf leap s g 24
  let s := countIf hold s g 25
  let act := if f.stale && !hold && !leap then fl.freshAct else 0
  let fl := overlaid s h img
  let d := flowAction s h pf fl act disp fd
  let s := d.1
  let inner := bit (prof s h pf 0) 30
  let gone := d.2 == .drop
  let nat := (fl.natMode == 1 || fl.natMode == 2) && !gone
  let s := countIf (nat && !natFits pr inner) s g 29
  let natOn := nat && natFits pr inner
  let sel := if act = 1 then bits w5 3 2 else 0
  (s, { digest := fl.digest, ctx := some i
        stale := act == 1 || act == 2
        markSel := sel
        markVal := if sel = 1 then bits w5 6 4 else bits w5 13 8
        dest := d.2
        natMode := if natOn then fl.natMode else 0
        natAddr := fl.natAddr, natPort := fl.natPort, natInner := inner
        policer := if fl.polEn && !gone then some fl.policer else none })

/-- The Skein's lookup of a frame (R261, R268): `pf` is its effective profile, `disp` its disposition. -/
def skeinLookup (s : State) (h port pf len arr : Nat) (pr : Parsed) (disp : Nat) (fd : FilDest) :
    State × SkResult :=
  let g := Page.skn h
  if !cfgB s g Fld.SKN_CTRL_EN || !profOk s h pf || disp == 1 then (s, {})
  else
    let key := flowKey s h pf port pr
    let d := flowDigest (sknSeed s h) key
    match ctxFind s h d pf with
    | some i => skeinHit (bump (bump (ctxTouch s h i) g 0 1) g 3 1) h i pf len arr pr disp fd
    | none =>
      match allocate s h pf d with
      | (s, some i) =>
        let r := skeinHit (bump s g 0 1) h i pf len arr pr disp fd
        (missEvent r.1 h i key, r.2)
      | (s, none) => (s, {})

/-- The digest that names a frame's bobbin under BOB_SEL 16: that of its effective profile, none for
profile 0 (R216). -/
def selDigest (s : State) (h port pf : Nat) (pr : Parsed) : Nat :=
  if pf = 0 then 0 else flowDigest (sknSeed s h) (flowKey s h pf port pr)

/-! ### Installs (R284, Table 9.7) -/

/-- A DRAM record merged into a pending image; `over` names the groups that software has set meanwhile. -/
def recMerge (ovr : Nat) (p d : FlowRec) : FlowRec :=
  let keep (i : Nat) : Bool := bit ovr i
  let clear := keep 7
  { p with
    pkts := if clear then p.pkts else trunc 64 (p.pkts + d.pkts)
    bytes := if clear then p.bytes else trunc 64 (p.bytes + d.bytes)
    hist := if clear then p.hist else (List.range 8).map (fun i => sat32 (p.hist.getD i 0 + d.hist.getD i 0))
    staleCount := if clear then p.staleCount else sat32 (p.staleCount + d.staleCount)
    seqGaps := if clear then p.seqGaps else sat 65535 (p.seqGaps + d.seqGaps)
    first := if d.pkts = 0 then p.first else d.first
    last := max p.last d.last
    ageMax := if clear then p.ageMax else max p.ageMax d.ageMax
    ageLast := if p.ageValid then p.ageLast else d.ageLast
    qbadLast := if p.ageValid then p.qbadLast else d.qbadLast
    staleLast := if p.ageValid then p.staleLast else d.staleLast
    ageValid := p.ageValid || d.ageValid
    seqLast := if p.seqValid then p.seqLast else d.seqLast
    seqValid := p.seqValid || d.seqValid
    closing := p.closing || d.closing
    pinned := if keep 8 then p.pinned else d.pinned
    filter := if keep 2 then p.filter else d.filter
    freshAct := if keep 1 then p.freshAct else d.freshAct
    freshThr := if keep 0 then p.freshThr else d.freshThr
    natMode := if keep 4 then p.natMode else d.natMode
    natAddr := if keep 4 then p.natAddr else d.natAddr
    natPort := if keep 4 then p.natPort else d.natPort
    polEn := if keep 5 then p.polEn else d.polEn
    policer := if keep 5 then p.policer else d.policer
    lbValid := if keep 3 then p.lbValid else d.lbValid
    lbMember := if keep 3 then p.lbMember else d.lbMember
    user := if keep 6 then p.user else d.user
    expLast := if clear then p.expLast else d.expLast
    expPkts := if clear then p.expPkts else d.expPkts
    expBytes := if clear then p.expBytes else d.expBytes }

/-- An install of flow (`d`, `pf`) into context `i` with record `rcd` or NONE, merging an image or not: the
new state and whether it was accepted (R284). -/
def skInstall (s : State) (h i d pf rcd : Nat) (transient : Bool) (merge : Option FlowRec) : State × Bool :=
  let g := Page.skn h
  let c := ctxOf s h i
  let home := transient || (decide (homeRecord h d 0 ≤ rcd) && decide (rcd ≤ homeRecord h d 3))
  let img := merge.all (fun m => m.valid && m.digest == d && m.profile == pf)
  if i < 32768 ∧ c.state = 1 ∧ c.img.digest = d ∧ c.img.profile = pf ∧ home ∧ img then
    let new := match merge with | some m => recMerge c.ovr c.img m | none => c.img
    let s := putCtx s h i { c with
      state := 2, dirty := true, transient := transient, record := if transient then 0 else rcd
      ovr := 0, img := new }
    (bump s g (if transient then 7 else if merge.isSome then 6 else 5) 1, true)
  else (stick (bump s g 8 1) g Fld.SKN_STICKY_INSTALL_STALE, false)

/-! ### The sweep (R283, R287) -/

/-- A visit of the sweeper to context `i` at stitch `n`. -/
def sweepCtx (h n : Nat) (s : State) (i : Nat) : State :=
  let g := Page.skn h
  let c := ctxOf s h i
  let pf := c.img.profile
  let room := evqRoom s (flowBobbin h c.img.digest) != 0
  let idle := bits (prof s h pf 3) 31 16
  let expDiv := bits (prof s h pf 7) 23 0
  let k := cfg s g Fld.SKN_CTRL_SWEEP_LOG
  let wb := cfg s g Fld.SKN_CTRL_WB_PASSES
  let defer (s : State) : State := stick (bump s g 16 1) g Fld.SKN_STICKY_SWEEP_DEFER
  if c.state = 1 then
    if cfg s g Fld.SKN_CTRL_PEND_LIMIT ≤ (n + 65536 - c.pendAt) % 65536 then
      if room then ctxEvict s h i 4 else defer s
    else s
  else if c.state = 2 then
    let idleOut := idle != 0 && !c.img.pinned && decide (c.img.last + idle * 1000000 ≤ nowNs s)
    if (c.img.closing && !c.img.pinned) || idleOut then
      if room then ctxEvict s h i (if c.img.closing && !c.img.pinned then 2 else 1) else defer s
    else if expDiv ≠ 0 ∧ expDiv ≤ (n + 2 ^ 32 - c.img.expLast) % 2 ^ 32 then
      if room then
        let s := raiseEvent s h (ctxEvent s i 4 0 c [])
        bump (putCtx s h i { c with
          dirty := false
          img := { c.img with expLast := n % 2 ^ 32, expPkts := c.img.pkts, expBytes := c.img.bytes } }) g 15 1
      else defer s
    else if c.dirty ∧ !c.transient ∧ wb ≠ 0 ∧ n / 2 ^ (15 - k) % wb = 0 then
      if room then
        let s := raiseEvent s h (ctxEvent s i 3 0 c [])
        bump (putCtx s h i { c with dirty := false }) g 14 1
      else defer s
    else s
  else s

/-- The sweep of hoop `h` at step 5 of boundary `n` (R283). -/
def sknSweep (s : State) (h n : Nat) : State :=
  let g := Page.skn h
  if !cfgB s g Fld.SKN_CTRL_SWEEP_EN then s
  else
    let k := cfg s g Fld.SKN_CTRL_SWEEP_LOG
    let j := n % 2 ^ (15 - k)
    let lo := 32768 * h + j * 2 ^ k
    ((tabKeys s.ctx).filter (fun x => decide (lo ≤ x) && decide (x < lo + 2 ^ k))).foldl
      (fun s x => sweepCtx h n s (x - 32768 * h)) s

/-! ### Commands of software (R290) -/

/-- What SEARCH finds: a context, a record in DRAM, an uncorrectable DRAM error, or nothing. -/
inductive SkWhere where
  | ctx (i : Nat)
  | rcd (i : Nat)
  | err
  | none
  deriving DecidableEq, Repr

/-- The search of a flow in the cache, and otherwise in its home bucket. -/
def skSearch (s : State) (h d pf : Nat) : SkWhere :=
  match ctxFind s h d pf with
  | some i => .ctx i
  | none =>
    let rs := (List.range 4).map (homeRecord h d)
    match rs.find? (fun r => dramBad s (128 * r) 128 ||
        (let x := dramRec s r
         x.valid && x.digest == d && x.profile == pf)) with
    | some r => if dramBad s (128 * r) 128 then .err else .rcd r
    | none => .none

/-- A command ends with a RESULT. -/
def sknEnd (s : State) (h result : Nat) : State := wr s (.skn h) Fld.SKN_CMD_STAT_RESULT result

/-- An image goes to the command buffer, and WHERE and LOC are reported. -/
def sknImage (s : State) (h whr loc : Nat) (r : FlowRec) : State :=
  let w := recWords r
  let s := (List.range 32).foldl (fun s i => putWord s (.skn h) 4 i (w.getD i 0)) s
  wr (wr s (.skn h) Fld.SKN_CMD_STAT_WHERE whr) (.skn h) Fld.SKN_CMD_STAT_LOC loc

/-- The digest and profile that a command names. -/
def sknFlow (s : State) (h : Nat) : Nat × Nat :=
  (bk s (.skn h) Fld.SKN_CMD_DIG_HI_DIG * 2 ^ 32 + bk s (.skn h) Fld.SKN_CMD_DIG_LO_DIG,
   bk s (.skn h) Fld.SKN_CMD_ARG_PROFILE)

/-- SEARCH; `err` says that a DRAM read of it meets an uncorrectable error. -/
def sknSearch (s : State) (h : Nat) (err : Bool) : State :=
  let f := sknFlow s h
  if err && (ctxFind s h f.1 f.2).isNone then sknEnd (ddrUncorr s (128 * homeRecord h f.1 0)) h 4
  else match skSearch s h f.1 f.2 with
  | .ctx i => sknEnd (sknImage s h 1 i (ctxOf s h i).img) h 0
  | .rcd r => sknEnd (sknImage s h 2 r (dramRec s r)) h 0
  | .err => sknEnd s h 4
  | .none => sknEnd (wr s (.skn h) Fld.SKN_CMD_STAT_WHERE 0) h 1

/-- READ; `err` as for SEARCH. -/
def sknRead (s : State) (h : Nat) (err : Bool) : State :=
  let r := bk s (.skn h) Fld.SKN_CMD_ARG_INDEX
  if r / 2097152 ≠ h then stick (sknEnd s h 3) (.skn h) Fld.SKN_STICKY_CMD_REFUSED
  else if err then sknEnd (ddrUncorr s (128 * r)) h 4
  else if dramBad s (128 * r) 128 then sknEnd s h 4
  else sknEnd (sknImage s h 2 r (dramRec s r)) h 0

/-- SKN_OVERLAY.STAGED. -/
def sknStaged (s : State) (h : Nat) : Nat := (tabGet s.skStaged [] h).length + (tabGet s.skLat [] h).length

/-- A change is staged for the flow that the command names, where SEARCH finds it. -/
def sknStage (s : State) (h : Nat) (op : SkOp) : State :=
  let f := sknFlow s h
  match skSearch s h f.1 f.2 with
  | .none => sknEnd s h 1
  | .err => sknEnd s h 4
  | _ =>
    if 1024 ≤ sknStaged s h then sknEnd s h 2
    else sknEnd { s with skStaged := tabPut s.skStaged [] h (tabGet s.skStaged [] h ++ [⟨f.1, f.2, op⟩]) } h 0

/-- The operation OP runs. -/
def sknRun (s : State) (h op : Nat) (err : Bool) : State :=
  match op with
  | 1 => sknSearch s h err
  | 2 => sknRead s h err
  | 3 => sknStage s h (.update (bk s (.skn h) Fld.SKN_CMD_MASK_MASK) (recOfWords (words s (.skn h) 4 0 32)))
  | 4 => sknStage s h .evict
  | 5 => sknStage s h (.pin true)
  | 6 => sknStage s h (.pin false)
  | 7 => sknEnd { s with skStaged := tabPut s.skStaged [] h [] } h 0
  | _ => stick s (.skn h) Fld.SKN_STICKY_CMD_REFUSED

/-- GO reaches the Skein (R290): the command starts, or is discarded while another runs. -/
def sknGo (s : State) (h : Nat) : State :=
  let op := bk s (.skn h) Fld.SKN_CMD_OP
  if tabGet s.skOp 0 h ≠ 0 ∨ op = 0 then stick s (.skn h) Fld.SKN_STICKY_CMD_REFUSED
  else { s with skOp := tabPut s.skOp 0 h op }

/-- The command OP of a Skein: it runs to its end, whether GO has started it or it starts now; while another runs it is
discarded; and the shell holds it while the hoop is off (R122). -/
def sknDo (s : State) (h op : Nat) (err : Bool) : State :=
  let p := Page.skn h
  if domainOff s p then
    queueEvent (putXing s p (xingOf s p ++ [.value (fieldKey p Fld.SKN_CMD_OP) op])) p Fld.SKN_CMD_GO
  else if tabGet s.skOp 0 h ≠ 0 ∧ tabGet s.skOp 0 h ≠ op then stick s p Fld.SKN_STICKY_CMD_REFUSED
  else sknRun { s with skOp := tabErase s.skOp h } h op err

/-- SKN_SEARCH (R290). -/
def execSknSearch (h : Nat) (err : Bool) (s : State) : Host.Outcome State Fault Refusal := .next (sknDo s h 1 err)

/-- SKN_READ (R290). -/
def execSknRead (h : Nat) (err : Bool) (s : State) : Host.Outcome State Fault Refusal := .next (sknDo s h 2 err)

/-- SKN_UPDATE (R290). -/
def execSknUpdate (h : Nat) (s : State) : Host.Outcome State Fault Refusal := .next (sknDo s h 3 false)

/-- SKN_EVICT (R290). -/
def execSknEvict (h : Nat) (s : State) : Host.Outcome State Fault Refusal := .next (sknDo s h 4 false)

/-- SKN_PIN (R290). -/
def execSknPin (h : Nat) (s : State) : Host.Outcome State Fault Refusal := .next (sknDo s h 5 false)

/-- SKN_UNPIN (R290). -/
def execSknUnpin (h : Nat) (s : State) : Host.Outcome State Fault Refusal := .next (sknDo s h 6 false)

/-- SKN_DISCARD_STAGED (R290). -/
def execSknDiscardStaged (h : Nat) (s : State) : Host.Outcome State Fault Refusal := .next (sknDo s h 7 false)

/-! ### The merge of the overlay (R291) -/

/-- The record of a flow in its home bucket. -/
def homeFind (s : State) (h d pf : Nat) : Option Nat :=
  ((List.range 4).map (homeRecord h d)).find? (fun r =>
    let x := dramRec s r
    !dramBad s (128 * r) 128 && x.valid && x.digest == d && x.profile == pf)

/-- A change is merged into the context, the pending flow or the DRAM record of its flow, or is lost. -/
def skMerge (s : State) (h : Nat) (c : SkChange) : State :=
  match ctxFind s h c.digest c.profile with
  | some i =>
    if c.op = .evict then ctxEvict s h i 3
    else
      let x := ctxOf s h i
      putCtx s h i { x with
        img := recChange c.op x.img, dirty := true
        ovr := if x.state = 1 then x.ovr ||| opMask c.op else x.ovr }
  | none =>
    match homeFind s h c.digest c.profile with
    | some r => dramWrite s (128 * r) (recBytes (recChange c.op (dramRec s r)))
    | none => stick (bump s (.skn h) 30 1) (.skn h) Fld.SKN_STICKY_UPD_LOST

/-- SKN_OVERLAY_MERGE (R291): the oldest change of the overlay is merged; with the last one OVL_BUSY clears.
An eviction waits for room in its bobbin's event queue. -/
def execSknOverlayMerge (h : Nat) (s : State) : Host.Outcome State Fault Refusal :=
  match tabGet s.skOvl [] h with
  | [] => .next s
  | c :: cs =>
    if c.op = .evict ∧ evqRoom s (flowBobbin h c.digest) = 0 then .next s
    else
    let s := skMerge { s with skOvl := tabPut s.skOvl [] h cs } h c
    .next (if cs.isEmpty then wr s (.skn h) Fld.SKN_STATUS_OVL_BUSY 0 else s)

/-! ### Commits (R290, R296) -/

/-- The close takes the staged changes into the coming commit (R51). -/
def sknClose (s : State) (h : Nat) : State :=
  { s with skLat := tabPut s.skLat [] h (tabGet s.skLat [] h ++ tabGet s.skStaged [] h)
           skStaged := tabPut s.skStaged [] h [] }

/-- A commit that was refused leaves its changes staged. -/
def sknUnlatch (s : State) (h : Nat) : State :=
  { s with skStaged := tabPut s.skStaged [] h (tabGet s.skLat [] h ++ tabGet s.skStaged [] h)
           skLat := tabPut s.skLat [] h [] }

/-- The apply makes the latched changes the overlay in force (R290). -/
def sknApplied (s : State) (h : Nat) : State :=
  let l := tabGet s.skLat [] h
  if l.isEmpty then s
  else
    let s := { s with skOvl := tabPut s.skOvl [] h (tabGet s.skOvl [] h ++ l), skLat := tabPut s.skLat [] h [] }
    wr s (.skn h) Fld.SKN_STATUS_OVL_BUSY 1

/-- A latched profile that R296 refuses. -/
def profBad (s : State) (h pf : Nat) : Bool :=
  let w := fun i => wordL s (.skn h) 1 (8 * pf + i)
  let keysel := bits (w 0) 17 0
  let grp := bits (w 5) 31 24
  bit (w 0) 31 && (bit keysel 1 || keysel == 0 || bits (w 5) 3 2 == 3 || bits (w 3) 15 0 == 0 || bits (w 4) 23 0 == 0
    || portReserved (bits (w 6) 10 0) || portReserved (bits (w 6) 26 16)
    || (bit (w 5) 16 && decide (64 < bits (wordL s (.skn h) 2 (33 * grp)) 6 0)))

/-- A latched load-balance group that R296 refuses: a member below COUNT names a reserved port. -/
def lbBad (s : State) (h g : Nat) : Bool :=
  (List.range (min 64 (bits (wordL s (.skn h) 2 (33 * g)) 6 0))).any (fun i =>
    let w := wordL s (.skn h) 2 (33 * g + 1 + i / 2)
    portReserved (if i % 2 = 0 then bits w 10 0 else bits w 26 16))

/-- The contexts of hoop `h` in a state. -/
def ctxCount (s : State) (h st : Nat) : Nat :=
  ((tabSel (fun k => k / 32768 == h) s.ctx).filter (fun e => e.2.state == st)).length

/-- The rules of R296 that the latched values of SKN page `h` break. -/
def sknLatchedBad (s : State) (h : Nat) : Bool :=
  let g := Page.skn h
  decide (ltc s g Fld.SKN_CTRL_SWEEP_LOG < 3) || ltc s g Fld.SKN_CTRL_PEND_LIMIT == 0
    || ((ltc s g Fld.SKN_SEED_LO_SEED != cfg s g Fld.SKN_SEED_LO_SEED
        || ltc s g Fld.SKN_SEED_HI_SEED != cfg s g Fld.SKN_SEED_HI_SEED)
      && (ctxCount s h 1 + ctxCount s h 2 != 0))
    || (List.range 64).any (fun pf => pf != 0 && profBad s h pf)
    || (List.range 256).any (lbBad s h)

/-! ### Loss of a hoop (R282) and memory errors (R294) -/

/-- The contexts and event queues of a hoop are lost without events. -/
def sknLost (s : State) (h : Nat) : State :=
  { s with ctx := tabSel (fun k => k / 32768 != h) s.ctx
           evq := tabSel (fun b => b / 16 != h) s.evq }

/-- An uncorrectable error in context `i` frees it without an event (R294). -/
def ctxUncorr (s : State) (h i : Nat) : State :=
  let g := Page.skn h
  let s := bump (putCtx s h i {}) g 32 1
  let s := wr (wr (wr s g Fld.SKN_ERR_LOC_VALID 1) g Fld.SKN_ERR_LOC_SPACE 0) g Fld.SKN_ERR_LOC_LOC i
  stick s g Fld.SKN_STICKY_CTX_UNCORR

/-- An uncorrectable error in entry `i` of space 1 or 2 (R294). -/
def sknEntryUncorr (s : State) (h n i : Nat) : State :=
  let g := Page.skn h
  let s := bump { s with ecc := tabPut s.ecc false (wordKey g n i) true } g 32 1
  let s := wr (wr (wr s g Fld.SKN_ERR_LOC_VALID 1) g Fld.SKN_ERR_LOC_SPACE 1) g Fld.SKN_ERR_LOC_LOC i
  stick s g Fld.SKN_STICKY_CTX_UNCORR

/-- A context entry as space 3 reads it (Table 9.9). -/
def ctxWords (c : Ctx) : List Nat :=
  [c.pendAt * 2 ^ 16 + b2n c.dirty * 4 + c.state, b2n c.transient * 2 ^ 31 + c.record, 0, 0] ++ recWords c.img

end Sys2Proof.Machine
end

