-- ==== Sys2Proof/Machine/BobCore.lean ====
section
/-! DEFINITION. The bobbins' threads, memories and queues (chapter 10): work and dispatch, faults and the fence,
release, the stitch handler, segments, handler and window tables, performance counters. -/

namespace Sys2Proof.Machine

/-! ### Threads, local memory, tokens (R297, R305, R316) -/

/-- Thread `t` of bobbin `b`. -/
def thrOf (s : State) (b t : Nat) : BobThr := tabGet s.bob.thr {} (4 * b + t)

/-- A thread replaced. -/
def putThr (s : State) (b t : Nat) (x : BobThr) : State :=
  { s with bob := { s.bob with thr := tabPut s.bob.thr {} (4 * b + t) x } }

/-- General register `r` of a thread; g0 reads as 0 (R297). -/
def gReg (s : State) (b t r : Nat) : Nat := if r = 0 then 0 else tabGet (thrOf s b t).regs 0 r

/-- A general register written, cut to 64 bits; writes to g0 are discarded (R297). -/
def setG (s : State) (b t r v : Nat) : State :=
  if r = 0 then s
  else putThr s b t { thrOf s b t with regs := tabPut (thrOf s b t).regs 0 r (trunc 64 v) }

/-- A thread's wait replaced. -/
def setWait (s : State) (b t : Nat) (w : BobWait) : State :=
  let tok (x : BobWait) : Bool := match x with | .token _ => true | _ => false
  let tab (x : BobWait) : Bool := match x with | .table _ _ => true | _ => false
  let old := (thrOf s b t).wait
  perfRise (perfRise (putThr s b t { thrOf s b t with wait := w }) b 6 (some t) (tok old) (tok w)) b 7 (some t) (tab old) (tab w)

/-- `n` bytes of local memory. -/
def lmRead (s : State) (b a n : Nat) : List Nat := (List.range n).map (fun i => tabGet s.bob.lm 0 (16384 * b + a + i))

/-- Bytes stored in local memory from an address. -/
def lmWrite (s : State) (b : Nat) : Nat → List Nat → State
  | _, [] => s
  | a, x :: xs => lmWrite { s with bob := { s.bob with lm := tabPut s.bob.lm 0 (16384 * b + a) (x % 256) } } b (a + 1) xs

/-- Words of 32 bits stored in local memory, little-endian (R11, R305). -/
def lmWords (s : State) (b a : Nat) (ws : List Nat) : State := lmWrite s b a (ws.flatMap (leBytes 4))

/-- The accesses in flight of a bobbin, in issue order. -/
def accOf (s : State) (b : Nat) : List BobAcc := tabGet s.bob.acc [] b

/-- The accesses in flight replaced. -/
def putAcc (s : State) (b : Nat) (xs : List BobAcc) : State :=
  { s with bob := { s.bob with acc := tabPut s.bob.acc [] b xs } }

/-- The first token of a thread (R316). -/
def tokBase (t : Nat) : Nat := if t = 0 then 0 else 40 * t - 32

/-- The tokens of a thread. -/
def tokCount (t : Nat) : Nat := if t = 0 then 8 else 40

/-- The state of token `k`: 0 FREE, 1 ISSUED, 2 DONE (R316). -/
def tokState (s : State) (b k : Nat) : Nat :=
  if (accOf s b).any (fun a => a.tok == some k) then 1 else if tabGet s.bob.done false (128 * b + k) then 2 else 0

/-- A token becomes DONE or FREE. -/
def setDone (s : State) (b k : Nat) (d : Bool) : State :=
  { s with bob := { s.bob with done := tabPut s.bob.done false (128 * b + k) d } }

/-- Tokens ISSUED (BOB_THREAD_STAT.TOK_OUT). -/
def tokOut (s : State) (b : Nat) : Nat := ((accOf s b).filter (fun a => a.tok.isSome)).length

/-- Whether thread 0 runs: the work threads are then frozen and nothing is dispatched (R300, R322). -/
def stitchRuns (s : State) (b : Nat) : Bool := (thrOf s b 0).work != .idle

/-- Whether a thread can issue (R299). -/
def canIssue (s : State) (b t : Nat) : Bool :=
  bobOn s b && (thrOf s b t).work != .idle && (thrOf s b t).wait == .run && (t == 0 || !stitchRuns s b)

/-! ### Frames held for a bobbin (R300, R327) -/

/-- The frame queue of a bobbin. -/
def fqOf (s : State) (b : Nat) : List Nat := tabGet s.rs.fq [] b

/-- The frames that wait in the Reseau for a bobbin. -/
def fwaitOf (s : State) (b : Nat) : List Nat := tabGet s.rs.fwait [] b

/-- The frame queue replaced. -/
def putFq (s : State) (b : Nat) (xs : List Nat) : State := { s with rs := { s.rs with fq := tabPut s.rs.fq [] b xs } }

/-- A frame enters the frame queue. -/
def fqAdd (s : State) (b f : Nat) : State :=
  perfRise (putFq s b (fqOf s b ++ [f])) b 13 none (!(fqOf s b).isEmpty) true

/-- The waiting frames replaced. -/
def putFwait (s : State) (b : Nat) (xs : List Nat) : State :=
  { s with rs := { s.rs with fwait := tabPut s.rs.fwait [] b xs } }

/-- A frame goes to a bobbin: it enters the frame queue, or waits for room there in arrival order (R300); a
fenced bobbin discards it (R327). -/
def toBobbin (s : State) (b f : Nat) : State :=
  if fenced s (.bob b) then bump s (.bob b) 13 1
  else
    let s := addRef (putFrm s f { frm s f with stage := .bobbin b }) f
    if (fqOf s b).length < 64 && (fwaitOf s b).isEmpty then fqAdd s b f
    else stick (putFwait s b (fwaitOf s b ++ [f])) (.bob b) Fld.BOB_STICKY_FRMQ_FULL

/-- FRAME_QUEUE_ADMIT (R300): a waiting frame enters the frame queue. -/
def execFrameQueueAdmit (b : Nat) (s : State) : Host.Outcome State Fault Refusal :=
  match fwaitOf s b with
  | [] => .next s
  | f :: fs => .next (if (fqOf s b).length < 64 then fqAdd (putFwait s b fs) b f else s)

/-- A bobbin gives up a frame that it discards. -/
def bobDrop (s : State) (f : Nat) : State := dropRef (putFrm s f { frm s f with stage := .queued }) f

/-! ### Faults and the fence (R326, R327) -/

/-- A thread stops and loses its work; a frame that it holds is discarded and counted. Thread 0 runs no longer. -/
def stopThread (b : Nat) (s : State) (t : Nat) : State :=
  let s := if t = 0 then wr s (.bob b) Fld.BOB_STATUS_STITCH_RUN 0 else s
  let s' := putThr s b t { thrOf s b t with work := .idle, wait := .run }
  match (thrOf s b t).work with
  | .frame f => bump (bobDrop s' f) (.bob b) 13 1
  | _ => s'

/-- What a bobbin does when it is stopped by a fence (R327). -/
def bobStop (s : State) (b : Nat) : State :=
  let fs := fqOf s b ++ fwaitOf s b
  let s := (List.range 4).foldl (stopThread b) s
  let s := fs.foldl (fun s f => bump (bobDrop s f) (.bob b) 13 1) s
  { putFwait (putFq s b []) b [] with evq := tabPut s.evq [] b [] }

/-- A fault fences the bobbin and is recorded (R326). -/
def bobFault (s : State) (b t reason pc addr tok : Nat) : State :=
  if fenced s (.bob b) then s
  else
    let p := Page.bob b
    let s := wr (wr (wr s p Fld.BOB_FAULT_PC_VALID 1) p Fld.BOB_FAULT_PC_THREAD t) p Fld.BOB_FAULT_PC_PC pc
    let s := wr s p Fld.BOB_FAULT_ADDR_ADDR addr
    bobStop (fenceUnit s p 2 (reason * 2 ^ 8 + t * 2 ^ 14 + tok * 2 ^ 16)) b

/-- A software FENCE_REQ: no thread faults, so the thread and the program counter recorded are free values. -/
def bobFenceReq (s : State) (b : Nat) : State :=
  let r := draw s 4 2
  let q := draw r.2 4 16
  if fenced s (.bob b) then s else bobFault q.2 b r.1 13 q.1 0 0

/-- What a fence release or a soft reset clears in a bobbin (R329, R552). -/
def bobClear (s : State) (b : Nat) : State :=
  let s := { s with bob := { s.bob with
    thr := tabSel (fun k => k / 4 != b) s.bob.thr
    done := tabSel (fun k => k / 128 != b) s.bob.done
    ovr := tabPut s.bob.ovr 0 b 0
    lm := tabSel (fun k => !(k / 16384 == b && decide (k % 16384 < 1024))) s.bob.lm } }
  wr s (.bob b) Fld.BOB_FAULT_PC_VALID 0

/-- Accesses in flight keep running without their tokens. -/
def orphanAcc (s : State) (b : Nat) : State :=
  putAcc s b (((accOf s b).filter (fun a => a.data.isSome)).map (fun a => { a with tok := none }))

/-- BOB_RELEASE_EFFECT (R329): a RELEASE takes effect once no token is ISSUED. -/
def execBobReleaseEffect (b : Nat) (s : State) : Host.Outcome State Fault Refusal :=
  .next (if tabGet s.bob.rel false b && fenced s (.bob b) && tokOut s b == 0 then
    unfence { bobClear s b with bob := { (bobClear s b).bob with rel := tabPut s.bob.rel false b false } } (.bob b)
  else s)

/-! ### Handlers and dispatch (R300 to R304) -/

/-- The entry of a handler number in the table in force, taken mod 256 (R303, Table 10.8). -/
def handlerEnt (s : State) (h n : Nat) : Nat := word s (.bobh h) 3 (n % 256)

/-- Whether a handler entry is valid and of a kind. -/
def handlerOk (w kind : Nat) : Bool := bit w 31 && bits w 30 29 == kind

/-- The handler number of an event (R280). -/
def eventHandler (s : State) (h : Nat) (e : SkEvent) : Nat :=
  (bits (prof s h e.img.profile 7) 31 24 + e.type - 1) % 256

/-- A thread starts an item (R304): its registers keep their values but for g1 to g3. -/
def startThread (s : State) (b t n source : Nat) (w : BobWork) (hdr : List Nat) : State :=
  let e := handlerEnt s (b / 16) n
  let x := thrOf s b t
  let regs := tabPut (tabPut (tabPut x.regs 0 1 (256 * t)) 0 2 (n % 256)) 0 3 source
  putThr s b t { x with regs := regs, pc := bits e 15 0, work := w, wait := .run, handler := n % 256, source := 0,
                        since := s.stitch, perfRd := bit e 27, order := bit e 28, hdr := hdr, hst := false }

/-- The 55 words of an event record (Table 9.8). -/
def eventWords (e : SkEvent) : List Nat :=
  [e.ctx * 2 ^ 16 + b2n e.dirty * 2 ^ 14 + e.img.profile * 2 ^ 8 + e.reason * 2 ^ 4 + e.type,
   b2n e.transient * 2 ^ 31 + e.record, e.stitch, e.key.length]
  ++ recWords e.img
  ++ (List.range 19).map (fun i => leNat ((List.range 4).map (fun j => byteAt e.key (4 * i + j))))

/-- The events that work threads handle. -/
def runningEvents (s : State) (b : Nat) : List SkEvent :=
  [1, 2, 3].filterMap (fun t => match (thrOf s b t).work with | .event e => some e | _ => none)

/-- The oldest event of a flow that no work thread handles (R301), by position. -/
def nextEvent (s : State) (b : Nat) : Option Nat :=
  let q := tabGet s.evq [] b
  let busy := runningEvents s b
  (List.range q.length).find? (fun i =>
    match q[i]? with
    | some e => busy.all (fun r => !(r.img.digest == e.img.digest && r.img.profile == e.img.profile))
    | none => false)

/-- The handler number of a frame. -/
def frameHandler (s : State) (f : Nat) : Nat :=
  match (frm s f).res.dest with
  | .bobbin _ n _ => n % 256
  | _ => 0

/-- The digests of the frames in handlers (R302). -/
def runningDigests (s : State) (b : Nat) : List Nat :=
  [1, 2, 3].filterMap (fun t => match (thrOf s b t).work with
    | .frame f => some (frm s f).res.sk.digest
    | .done _ d => some d
    | _ => none)

/-- The oldest frame that may be dispatched: one under ORDER 1 waits while an earlier frame of its flow is in a handler,
and none overtakes a frame whose tail is not stored (R302). -/
def nextFrame (s : State) (b : Nat) : Option Nat :=
  ((fqOf s b).takeWhile (fun f => (frm s f).state != 0)).find? (fun f =>
    !(bit (handlerEnt s (b / 16) (frameHandler s f)) 28
      && (runningDigests s b).contains (frm s f).res.sk.digest))

/-- Work with an invalid handler (R303). -/
def handlerInvalid (s : State) (b : Nat) : State := stick (bump s (.bob b) 8 1) (.bob b) Fld.BOB_STICKY_HANDLER_INVALID

/-- An event is taken and dispatched to thread `t`, or discarded. -/
def dispatchEvent (s : State) (b t i : Nat) : State :=
  let q := tabGet s.evq [] b
  match q[i]? with
  | none => s
  | some e =>
    let s := { s with evq := tabPut s.evq [] b (q.eraseIdx i)
                      bob := { s.bob with alt := tabPut s.bob.alt false b false } }
    let n := eventHandler s (b / 16) e
    if handlerOk (handlerEnt s (b / 16) n) 1 then
      let s := startThread (lmWords s b (256 * t) (eventWords e)) b t n 2 (.event e) []
      perfPulse (bump s (.bob b) 1 1) b 12 (some t)
    else handlerInvalid s b

/-- The first min(256, L) bytes of a frame, of L bytes from DA to FCS (R306). -/
def headerBuf (x : Frm) : List Nat := (withFcsBytes x).take 256
where
  /-- The frame's bytes with its FCS; that of a frame forwarded oversize is stomped (R162). -/
  withFcsBytes (x : Frm) : List Nat :=
    x.bytes ++ leBytes 4 (crc32 x.bytes ^^^ (if x.oversize then 0xFFFF_FFFF else 0))

/-- A frame is taken and dispatched to thread `t`, or discarded. -/
def dispatchFrame (s : State) (b t f : Nat) : State :=
  let s := putFq s b ((fqOf s b).erase f)
  let s := { s with bob := { s.bob with alt := tabPut s.bob.alt false b true } }
  let n := frameHandler s f
  if handlerOk (handlerEnt s (b / 16) n) 0 then
    let s := startThread s b t n 3 (.frame f) (headerBuf (frm s f))
    let src := match (frm s f).res.dest with | .bobbin _ _ k => k | _ => 0
    let s := putThr s b t { thrOf s b t with source := src }
    perfPulse (bump s (.bob b) 0 1) b 12 (some t)
  else bobDrop (handlerInvalid s b) f

/-- WORK_DISPATCH (R300): a free work thread takes from the two queues alternately. -/
def execWorkDispatch (b t : Nat) (s : State) : Host.Outcome State Fault Refusal :=
  if t = 0 || 4 ≤ t || !bobOn s b || stitchRuns s b || (thrOf s b t).work != .idle then .next s
  else
    match nextEvent s b, nextFrame s b with
    | none, none => .next s
    | some i, none => .next (dispatchEvent s b t i)
    | none, some f => .next (dispatchFrame s b t f)
    | some i, some f =>
      .next (if tabGet s.bob.alt false b then dispatchEvent s b t i else dispatchFrame s b t f)

/-! ### The end of an item (R312, R320, R323, R324) -/

/-- The tokens of a thread become FREE; writes still in flight go on without them (R320). -/
def freeTokens (s : State) (b t : Nat) : State :=
  let s := putAcc s b ((accOf s b).map (fun a => if a.thread = t then { a with tok := none } else a))
  (List.range (tokCount t)).foldl (fun s i => setDone s b (tokBase t + i) false) s

/-- A work thread that has reached END takes new work once its reads are DONE (R320). -/
def endCheck (s : State) (b t : Nat) : State :=
  if (accOf s b).any (fun a => a.thread == t && a.data.isNone) then setWait s b t .fin
  else
    let s := freeTokens s b t
    putThr s b t { thrOf s b t with work := .idle, wait := .run }

/-- END of a work item: a frame without FWD or DROP is discarded (R312). -/
def endItem (s : State) (b t : Nat) : State :=
  let x := thrOf s b t
  let s := match x.work with
    | .frame f =>
      let s := putThr s b t { x with work := .done f (frm s f).res.sk.digest }
      stick (bump (bobDrop s f) (.bob b) 7 1) (.bob b) Fld.BOB_STICKY_FRAME_UNDISPOSED
    | _ => s
  endCheck s b t

/-- A run of thread 0 ends (R323). -/
def endRun (s : State) (b : Nat) : State :=
  wr (putThr s b 0 { thrOf s b 0 with work := .idle, wait := .run }) (.bob b) Fld.BOB_STATUS_STITCH_RUN 0

/-- Thread 0 overruns (R324, R333). -/
def overrun (s : State) (b : Nat) : State :=
  let bitsFor := if (thrOf s b 0).work = .init then 5 else 1
  let s := { s with bob := { s.bob with ovr := tabPut s.bob.ovr 0 b bitsFor } }
  endRun (stick (bump s (.bob b) 3 1) (.bob b) Fld.BOB_STICKY_OVERRUN) b

/-- THREAD0_OVERRUN (R324): the run reaches BUDGET. -/
def execThread0Overrun (b : Nat) (s : State) : Host.Outcome State Fault Refusal :=
  .next (if stitchRuns s b && bobOn s b then overrun s b else s)

/-! ### Step 4 of a boundary (R322, R325, R333) -/

/-- Thread 0 starts with the work area of Table 10.1. -/
def startRun (s : State) (b : Nat) (init : Bool) : State :=
  let h := b / 16
  let n := if init then cfg s (.bobh h) Fld.BOB_HOOP_CTRL_INIT_HANDLER else cfg s (.bob b) Fld.BOB_CTRL_STITCH_HANDLER
  if !handlerOk (handlerEnt s h n) 2 then handlerInvalid s b
  else
    let flags := tabGet s.bob.ovr 0 b + 2 * b2n init
    let s := lmWords s b 0 (leWords 2 s.stitch ++ leWords 2 s.epoch ++ [periodNs s, flags] ++ leWords 2 (s.bndAt / 4))
    let s := { s with bob := { s.bob with ovr := tabPut s.bob.ovr 0 b 0 } }
    let s := if init then bump s (.bobh h) 4 1 else bump s (.bob b) 2 1
    let s := perfRise (startThread s b 0 n (b2n init) (if init then .init else .stitch) []) b 11 none (stitchRuns s b) true
    wr s (.bob b) Fld.BOB_STATUS_STITCH_RUN 1

/-- The work limit (R325): the lowest thread whose item is too old faults. -/
def workLimit (s : State) (b : Nat) : State :=
  let lim := cfg s (.bob b) Fld.BOB_BUDGET_WORK_STITCHES
  let old (t : Nat) : Bool :=
    (thrOf s b t).work != .idle && (thrOf s b t).wait != .fin && decide (lim ≤ s.stitch - (thrOf s b t).since)
  if lim = 0 then s
  else match [1, 2, 3].find? old with
    | some t => bobFault s b t 12 (thrOf s b t).pc 0 0
    | none => s

/-- Step 4 of a boundary in bobbin `b`. -/
def bobStitch (s : State) (b : Nat) : State :=
  let init := tabGet s.bob.init false (b / 16)
  if !bobOn s b then s
  else
    let s := if stitchRuns s b then overrun s b else s
    let s := workLimit s b
    if fenced s (.bob b) then s
    else if init then startRun s b true
    else if cfgB s (.bob b) Fld.BOB_CTRL_STITCH_EN then startRun s b false
    else s

/-- Step 4 of a boundary in hoop `h`. -/
def bobStep4 (s : State) (h : Nat) : State :=
  let s := (List.range 16).foldl (fun s i => bobStitch s (16 * h + i)) s
  { s with bob := { s.bob with init := tabPut s.bob.init false h false } }

/-! ### Segments (R330) -/

/-- Segment `k` of hoop `h`. -/
def segOf (s : State) (h k : Nat) : MapBlk := tabGet s.bob.seg {} (64 * h + k)

/-- A segment replaced. -/
def putSeg (s : State) (h k : Nat) (x : MapBlk) : State :=
  { s with bob := { s.bob with seg := tabPut s.bob.seg {} (64 * h + k) x } }

/-- A refused write sets SEG_REFUSED. -/
def segRefuse (s : State) (h : Nat) : State := stick s (.bobh h) Fld.BOBH_STICKY_SEG_REFUSED

/-- Whether the word of the instruction store at an address, or an entry of the window map, is in error. -/
def storeBad (s : State) (h space i : Nat) : Bool := tabGet s.ecc false (wordKey (.bobh h) space i)

/-- A write of an instruction word (R209, R330), with the ERR that it ends with. -/
def segWrite (s : State) (h a v : Nat) : State × Nat :=
  let x := segOf s h (a / 1024)
  if x.atClose then (segRefuse s h, 6)
  else if 2 ≤ x.state then (segRefuse s h, 2)
  else
    let s := putWord s (.bobh h) 1 a v
    let s := { s with ecc := tabPut s.ecc false (wordKey (.bobh h) 1 a) false }
    (putSeg s h (a / 1024) { x with state := 1 }, 0)

/-- CMD 1 RETIRE of segment `k`. -/
def segRetire (s : State) (h k : Nat) : State × Nat :=
  let x := segOf s h k
  if x.state = 2 then (putSeg s h k { x with retPend := true }, 0) else (segRefuse s h, 2)

/-- CMD 2 UNSTAGE of segment `k`. -/
def segUnstage (s : State) (h k : Nat) : State × Nat :=
  let x := segOf s h k
  if x.atClose then (segRefuse s h, 6)
  else if x.state = 1 then (putSeg s h k {}, 0)
  else (segRefuse s h, 2)

/-- CMD 3 KEEP of segment `k`. -/
def segKeep (s : State) (h k : Nat) : State × Nat :=
  let x := segOf s h k
  if x.atClose then (segRefuse s h, 6)
  else if x.retPend then (putSeg s h k { x with retPend := false }, 0)
  else (segRefuse s h, 2)

/-- A write of a word to an entry of the segment map (R210, R340). -/
def segMapWrite (s : State) (h k w : Nat) : State × Nat :=
  match bits w 9 8 with
  | 1 => segRetire s h k
  | 2 => segUnstage s h k
  | 3 => segKeep s h k
  | _ => (s, 0)

/-- A read of an entry of the segment map (R340). -/
def segMapRead (s : State) (h k : Nat) : Nat := (segOf s h k).state + 4 * b2n (segOf s h k).retPend

/-- The segments of a hoop in a state. -/
def segCount (s : State) (h st : Nat) : Nat :=
  ((List.range 64).filter (fun k => (segOf s h k).state == st)).length

/-- The segments of a hoop under a function. -/
def segAll (s : State) (h : Nat) (f : MapBlk → MapBlk) : State :=
  { s with bob := { s.bob with seg := tabMap (fun k => k / 64 == h) {} f s.bob.seg } }

/-- The close marks the segments that will change (R211). -/
def segClose (s : State) (h : Nat) : State :=
  segAll s h (fun x => { x with atClose := x.state == 1 || x.retPend })

/-- Whether a thread of the hoop holds work dispatched before the boundary that began stitch `n`. -/
def oldWork (s : State) (h n : Nat) : Bool :=
  (List.range 64).any (fun i =>
    let x := tabGet s.bob.thr {} (64 * h + i)
    x.work != .idle && decide (x.since < n))

/-- Step 1 of a boundary frees the RETIRE segments that no old work needs (R330). -/
def segFree (s : State) (h : Nat) : State :=
  (List.range 64).foldl (fun s k =>
    let x := segOf s h k
    if x.state == 3 && !oldWork s h x.retAt then bump (putSeg s h k {}) (.bobh h) 5 1 else s) s

/-! ### Commits (R330 to R333) -/

/-- The apply of a BOB hoop page at the boundary that begins stitch `n`: segments change state, and a
change of INIT_SEQ makes the init runs due; `old` is the state before. -/
def bobhApplied (old s : State) (h n : Nat) : State :=
  let s := segAll s h (fun x =>
    if x.atClose then
      if x.state = 1 then { x with state := 2, atClose := false }
      else { x with state := 3, retPend := false, atClose := false, retAt := n }
    else x)
  if cfg s (.bobh h) Fld.BOB_HOOP_CTRL_INIT_SEQ = cfg old (.bobh h) Fld.BOB_HOOP_CTRL_INIT_SEQ then s
  else { s with bob := { s.bob with init := tabPut s.bob.init false h true } }

/-- The rules of R332 that a valid handler entry breaks. -/
def handlerBad (s : State) (h w : Nat) : Bool :=
  let x := segOf s h (bits w 15 0 / 1024)
  bit w 31 && (bits w 30 29 == 3 || !(x.state == 1 || x.state == 2) || x.retPend)

/-- The granules that no window may map: another hoop's flow records (R29) and the spare area (R516). -/
def granuleBad (h g : Nat) : Bool := (decide (g < 131072) && g / 4096 != h) || decide (491_520 ≤ g)

/-- The entries of a shadowed space that the latched table lists. -/
def latchedEntries (s : State) (p : Page) (n size : Nat) : List Nat :=
  let base := (pageBase p + n) * 0x1_0000_0000
  dedup ((tabSel (fun k => decide (base ≤ k) && decide (k < base + 0x1_0000_0000)) s.indL).map (fun e => (e.1 - base) / size))

/-- The rules of R332 that a BOB hoop page's latched values break. -/
def bobhLatchedBad (s : State) (h : Nat) : Bool :=
  let p := Page.bobh h
  let initW := wordL s p 3 (ltc s p Fld.BOB_HOOP_CTRL_INIT_HANDLER)
  (latchedEntries s p 3 1).any (fun i => handlerBad s h (wordL s p 3 i))
    || (ltc s p Fld.BOB_HOOP_CTRL_INIT_SEQ != cfg s p Fld.BOB_HOOP_CTRL_INIT_SEQ && !handlerOk initW 2)
    || (latchedEntries s p 4 2).any (fun i =>
        bit (wordL s p 4 (2 * i)) 31 && granuleBad h (bits (wordL s p 4 (2 * i)) 18 0))

/-- The rules of R332 that a bobbin page's latched values break; `isDue` says which pages apply with it. -/
def bobLatchedBad (s : State) (isDue : Page → Bool) (b : Nat) : Bool :=
  let p := Page.bob b
  let hp := Page.bobh (b / 16)
  let n := ltc s p Fld.BOB_CTRL_STITCH_HANDLER
  let w := if isDue hp then wordL s hp 3 n else word s hp 3 n
  ltc s p Fld.BOB_BUDGET_BUDGET == 0 || (ltc s p Fld.BOB_CTRL_STITCH_EN == 1 && !handlerOk w 2)

/-! ### Resets (R551, R552, Table 17.8) -/

/-- The bobbins of hoop `h` return to reset: threads, tokens, queues, local memory, segments. -/
def bobReset (s : State) (h : Nat) : State :=
  let b (n k : Nat) : Bool := k / n / 16 != h
  let s := (List.range 16).foldl (fun s i =>
    let k := 16 * h + i
    (fqOf s k ++ fwaitOf s k).foldl bobDrop
      ((List.range 4).foldl (fun s t => match (thrOf s k t).work with | .frame f => bobDrop s f | _ => s) s)) s
  { s with
    rs := { s.rs with fq := tabSel (b 1) s.rs.fq, fwait := tabSel (b 1) s.rs.fwait }
    evq := tabSel (b 1) s.evq
    bob := { s.bob with
      thr := tabSel (b 4) s.bob.thr, lm := tabSel (b 16384) s.bob.lm, acc := tabSel (b 1) s.bob.acc
      done := tabSel (b 128) s.bob.done, alt := tabSel (b 1) s.bob.alt, ovr := tabSel (b 1) s.bob.ovr
      rel := tabSel (b 1) s.bob.rel, init := tabPut s.bob.init false h false
      seg := tabSel (fun k => k / 64 != h) s.bob.seg
      perf := tabSel (b 8) s.bob.perf, clocked := tabSel (b 8) s.bob.clocked } }

/-- A soft reset empties a bobbin's queues and clears it as a release does (R552, Table 17.8). -/
def bobSoft (s : State) (b : Nat) : State :=
  let drop (s : State) (t : Nat) : State := match (thrOf s b t).work with | .frame f => bobDrop s f | _ => s
  let s := (fqOf s b ++ fwaitOf s b).foldl bobDrop ((List.range 4).foldl drop s)
  let s := { putFwait (putFq s b []) b [] with evq := tabPut s.evq [] b [] }
  wr (orphanAcc (bobClear s b) b) (.bob b) Fld.BOB_STATUS_STITCH_RUN 0

end Sys2Proof.Machine
end

