-- ==== Sys2Proof/Machine/Egress.lean ====
section
/-! DEFINITION. What leaves a front port: the egress rewrite that a lookup result carries (R65, R274, R278),
frame check sequences, and the link frames of Aladotra (R444, R445). -/

namespace Sys2Proof.Machine

/-! ### Rewriting -/

/-- Bytes replaced from position `i`. -/
def splice (b : List Nat) (i : Nat) (x : List Nat) : List Nat := b.take i ++ x ++ b.drop (i + x.length)

/-- Ones-complement addition of 16-bit numbers. -/
def onesAdd (a b : Nat) : Nat := (a + b) % 65536 + (a + b) / 65536

/-- An Internet checksum updated for one 16-bit word that changes. -/
def csumWord (c old new : Nat) : Nat := 65535 - onesAdd (onesAdd (65535 - c) (65535 - old)) new

/-- The 16-bit words of bytes. -/
def words16 (x : List Nat) : List Nat := (List.range (x.length / 2)).map (fun i => be16 x (2 * i))

/-- An Internet checksum updated for bytes of even length that change. -/
def csumBytes (c : Nat) (old new : List Nat) : Nat :=
  ((words16 old).zip (words16 new)).foldl (fun c w => csumWord c w.1 w.2) c

/-- The mark of a stale frame (R274). -/
def markFrame (b : List Nat) (r : LookupRes) : List Nat :=
  let hs := viewHdrs r.parsed false
  if r.sk.markSel = 1 then
    match viewFind hs (· == .vlan) with
    | some h => splice b h.pos [setBits (byteAt b h.pos) 5 3 r.sk.markVal]
    | none => b
  else if r.sk.markSel = 2 then
    match viewFind hs (fun k => k == .ip4 || k == .ip6) with
    | some h =>
      if h.kind = .ip4 then
        let new := [byteAt b h.pos, setBits (byteAt b (h.pos + 1)) 2 6 r.sk.markVal]
        let c := csumBytes (be16 b (h.pos + 10)) (slice b h.pos 2) new
        splice (splice b h.pos new) (h.pos + 10) (beBytes 2 c)
      else
        splice b h.pos (beBytes 2 (setBits (be16 b h.pos) 6 6 r.sk.markVal))
    | none => b
  else b

/-- The network address translation of a frame (R278): address and port of the source with NAT_MODE 1, of the
destination with 2; both checksums follow, and a UDP checksum of 0 stays 0. -/
def natFrame (b : List Nat) (r : LookupRes) : List Nat :=
  let hs := viewHdrs r.parsed r.sk.natInner
  if r.sk.natMode = 0 then b
  else
    match viewFind hs (· == .ip4), viewFind hs isL4 with
    | some ip, some l4 =>
      let a := ip.pos + (if r.sk.natMode = 1 then 12 else 16)
      let p := l4.pos + (if r.sk.natMode = 1 then 0 else 2)
      let addr := beBytes 4 r.sk.natAddr
      let port := beBytes 2 r.sk.natPort
      let ipc := csumBytes (be16 b (ip.pos + 10)) (slice b a 4) addr
      let cpos := l4.pos + (if l4.kind = .udp then 6 else 16)
      let c := be16 b cpos
      let l4c := if l4.kind = .udp ∧ c = 0 then 0
        else csumBytes (csumBytes c (slice b a 4) addr) (slice b p 2) port
      let b := splice (splice b a addr) p port
      splice (splice b (ip.pos + 10) (beBytes 2 ipc)) cpos (beBytes 2 l4c)
    | _, _ => b

/-- The bytes of a frame as its queue entries read them: the head override cell before the chain (R347). -/
def frameBytes (x : Frm) : List Nat := if x.headCell.isSome then x.head ++ x.bytes.drop x.head.length else x.bytes

/-- The bytes that a front port sends for a frame, from DA to the last byte before the FCS. -/
def egressBytes (x : Frm) : List Nat := natFrame (markFrame (frameBytes x) x.res) x.res

/-- Bytes with their FCS, in wire order: stomped or correct (R355). -/
def withFcs (b : List Nat) (stomped : Bool) : List Nat :=
  b ++ leBytes 4 (if stomped then 0xFFFF_FFFF - crc32 b else crc32 b)

/-! ### Aladotra link frames -/

/-- What the device keeps of a link. -/
def linkOf (s : State) (n : Nat) : LinkSt := tabGet s.ald.link {} n

/-- What the device keeps of a link, replaced. -/
def putLink (s : State) (n : Nat) (x : LinkSt) : State := { s with ald := { s.ald with link := tabPut s.ald.link {} n x } }

/-- LSTATE of a link (Table 14.1). -/
def lstate (s : State) (n : Nat) : Nat := rd s (.mac n) Fld.MAC_ALD_STAT_LSTATE

/-- The device's own member number. -/
def ownMember (s : State) : Nat := rd s .ald Fld.ALD_STAT_MEMBER

/-- SYS_ID in force. -/
def sysId (s : State) : Nat := cfg s .ald Fld.ALD_SYS_ID_SYS_ID

/-- The CRC-16 of a system header: polynomial 0x1021, initial value 0xFFFF. -/
def crc16 (bs : List Nat) : Nat :=
  bs.foldl (fun c b =>
    (List.range 8).foldl (fun c _ => if c / 32768 % 2 = 1 then (2 * c % 65536) ^^^ 0x1021 else 2 * c % 65536)
      (c ^^^ (b % 256 * 256))) 0xFFFF

/-- The CRC-32C of the body of a control cell and of the keys of chapter 14. -/
def crc32c (bs : List Nat) : Nat :=
  (bs.foldl (fun c b => crcSteps 0x82F6_3B78 8 (c ^^^ (b % 256))) 0xFFFF_FFFF) ^^^ 0xFFFF_FFFF

/-- A system header (Table 14.2). -/
def sysHeader (type hops member ctype len seq tag : Nat) : List Nat :=
  let h := [type % 16 * 16, hops % 32] ++ beBytes 2 (member % 1024 * 64 + ctype % 64) ++ [0, 0, 0, 0]
    ++ beBytes 2 len ++ beBytes 2 seq ++ beBytes 2 tag
  h ++ beBytes 2 (crc16 h)

/-- A link frame: header, body, trailer with the tail-error bit, and padding to 16 bytes (R444). -/
def linkFrame (hdr body : List Nat) (te : Bool) : List Nat :=
  let x := hdr ++ body ++ [if te then 0x80 else 0, 0, 0, 0]
  x ++ List.replicate ((16 - x.length % 16) % 16) 0

/-- Whole codewords out of the scrambled bits of a port of `w` lanes: the bits left over, and the last codeword over the
lanes (R128); `fuel` codewords at most. -/
def fecTake (w : Nat) : Nat → List Nat → List (List Nat) → List Nat × List (List Nat)
  | 0, bs, last => (bs, last)
  | fuel + 1, bs, last =>
    if bs.length < 5140 then (bs, last)
    else fecTake w fuel (bs.drop 5140) (overLanes w (rsEncode (fecSymbols (bs.take 5140))))

/-- A link frame goes into the port's coding path (Table 4.3, stages 2 to 4): the scrambler, and at RATEs 3 to 5 the FEC. -/
def linkCode (s : State) (n : Nat) (x : LinkSt) (fr : List Nat) : LinkSt :=
  let r := scramble x.scr fr
  let bs := x.code ++ byteBits r.1
  let c := if 3 ≤ laneRate s n then fecTake (portWidth s n) (bs.length / 5140) bs x.word else ([], [])
  { x with out := fr, scr := r.2, wire := r.1, code := c.1, word := c.2 }

/-- A link frame is sent: SEQ counts it, and the coding path takes it. -/
def linkSend (s : State) (n type hops member ctype : Nat) (body : List Nat) (te : Bool) : State :=
  let x := linkOf s n
  let fr := linkFrame (sysHeader type hops member ctype body.length x.seq (sysId s % 65536)) body te
  putLink s n { linkCode s n x fr with seq := (x.seq + 1) % 65536 }

/-- A control cell leaves on a link in a state that may carry it (R442, R448). -/
def cellOut (s : State) (n ctype : Nat) (body : List Nat) : State :=
  let b := (body ++ List.replicate 44 0).take 44
  bump (linkSend s n 2 0 (ownMember s) ctype (b ++ beBytes 4 (crc32c b)) false) (.mac n) 35 1

/-- A control cell is sent on a link: before every queued frame, but after the one in transmission (R448). -/
def cellSend (s : State) (n ctype : Nat) (body : List Nat) : State :=
  if (txOf s n).isSome then putLink s n { linkOf s n with wait := (linkOf s n).wait ++ [(ctype, body)] }
  else cellOut s n ctype body

/-- ASYM of a link, in quarter ns. -/
def asym (s : State) (n : Nat) : Int := signed 16 (cfg s (.mac n) Fld.MAC_ALD_CFG_ASYM)

/-- A time of 10 bytes (R450). -/
def timeBytes (t : Nat) : List Nat :=
  let ns := t / 4
  beBytes 6 (ns / 1_000_000_000) ++ beBytes 4 (t % 4 * 2 ^ 30 + ns % 1_000_000_000)

/-- A cell that waited leaves with the stamp of the instant at which it does: TX_TIME of a BEACON, t1 of a PROBE, t3 of a
PROBE_RESP (R450, R451). -/
def cellLate (n : Nat) (s : State) (c : Nat × List Nat) : State :=
  let t := ((s.now : Int) + asym s n).toNat
  let at' := if c.1 = 1 then some 8 else if c.1 = 2 then some 2 else if c.1 = 3 then some 12 else none
  let x := linkOf s n
  let s := if c.1 = 2 then putLink s n { x with probe := x.probe.map (fun p => if p.1 = be16 c.2 0 then (p.1, t) else p) }
    else s
  cellOut s n c.1 (match at' with | some i => splice c.2 i (timeBytes t) | none => c.2)

/-- The cells that waited for the frame in transmission leave. -/
def cellsOut (s : State) (n : Nat) : State :=
  let w := (linkOf s n).wait
  if w = [] ∨ (txOf s n).isSome then s else w.foldl (cellLate n) (putLink s n { linkOf s n with wait := [] })

end Sys2Proof.Machine
end

