-- ==== Sys2Proof/Machine/Traffic.lean ====
section
/-! DEFINITION. The traffic manager and the policers (chapter 12): the choice of the next frame, fair queueing,
gate lists, credit shapers and token buckets. -/

namespace Sys2Proof.Machine

/-! ### Policers (R391 to R397) -/

/-- Sampler time in units of 16 ns, mod 2^32 (Table 12.4). -/
def polTime (s : State) : Nat := trunc 32 (s.now / 64)

/-- The policer is valid; an uncorrectable error makes it invalid until it is rewritten (R397). -/
def polValid (s : State) (i : Nat) : Bool := bit (word s .pol 1 (2 * i)) 31 && !eccBad s .pol 1 i

/-- BURST of a policer in units of 1/256 byte. -/
def polDepth (s : State) (i : Nat) : Nat := bits (word s .pol 1 (2 * i)) 23 0 * 256

/-- The state of a policer. -/
def polOf (s : State) (i : Nat) : PolSt := tabGet s.tm.pol {} i

/-- The state of a policer replaced. -/
def putPol (s : State) (i : Nat) (x : PolSt) : State := { s with tm := { s.tm with pol := tabPut s.tm.pol {} i x } }

/-- The live counter `k` of policer `i`: CONF_FRAMES, CONF_BYTES, EXC_FRAMES, EXC_BYTES (R400, space 3). -/
def polCnt (i k : Nat) : Nat := 16 + 4 * i + k

/-- The tokens of a policer at the present (R393). -/
def polRefill (s : State) (i : Nat) : PolSt :=
  let x := polOf s i
  let u := polTime s
  let e := (u + 2 ^ 32 - x.last) % 2 ^ 32
  let t := x.tokens + e * word s .pol 1 (2 * i + 1) * 64 / 125_000
  { tokens := if polDepth s i < t then polDepth s i else t, last := u }

/-- A charge of `len` bytes: whether it passes or conforms (R393, R394). -/
def polCharge (s : State) (i len : Nat) : State × Bool :=
  if !polValid s i then (s, true)
  else
    let b := ((len : Int) + signed 6 (bits (word s .pol 1 (2 * i)) 29 24)).toNat
    let x := polRefill s i
    let s := bump s .pol 0 1
    if b * 256 ≤ x.tokens then
      (bump (bump (putPol s i { x with tokens := x.tokens - b * 256 }) .pol (polCnt i 0) 1) .pol (polCnt i 1) b, true)
    else
      (bump (bump (bump (putPol s i x) .pol 1 1) .pol (polCnt i 2) 1) .pol (polCnt i 3) b, false)

/-- A frame is charged: whether the policer discards it; one with MONITOR discards nothing. -/
def polFrame (s : State) (i len : Nat) : State × Bool :=
  let r := polCharge s i len
  (r.1, !r.2 && !bit (word s .pol 1 (2 * i)) 30)

/-- The valid policers in force, rising. -/
def polListed (s : State) : List Nat := (entriesListed s .pol 1).filter (polValid s)

/-- POLICER_REFRESH (R396): R393 with B = 0 for every valid policer. -/
def execPolicerRefresh (t : Nat) (s : State) : Host.Outcome State Fault Refusal :=
  let s := advance s t
  .next ((polListed s).foldl (fun s i => putPol s i (polRefill s i)) s)

/-- Space 1 of the policer page applies (R396). -/
def polApplied (old s : State) : State :=
  (polListed s).foldl (fun s i =>
    let x := polOf s i
    if !polValid old i then putPol s i { tokens := polDepth s i, last := polTime s }
    else if polDepth s i < x.tokens then putPol s i { x with tokens := polDepth s i } else s) s

/-- A soft reset or a wake from D3 refills the policers to BURST (R552, Table 17.8). -/
def polFill (s : State) : State :=
  (polListed s).foldl (fun s i => putPol s i { tokens := polDepth s i, last := polTime s }) s

/-- The rules of R401 that the latched entries break. -/
def polLatchedBad (s : State) : Bool :=
  (entriesLatched s .pol 1).any (fun i =>
    let w := wordL s .pol 1 (2 * i)
    bit w 31 && (bits w 23 0 == 0 || decide (1_600_000_000 < wordL s .pol 1 (2 * i + 1))))

/-- Policer errors found on use (R397). -/
def polError (s : State) (e : MemErr) : State :=
  match e with
  | .policer i uncorr =>
    if uncorr then
      let s := { s with ecc := tabPut s.ecc false (wordKey .pol 1 i) true }
      let s := wr (wr s .pol Fld.TMG_POL_ERR_LOC_VALID 1) .pol Fld.TMG_POL_ERR_LOC_LOC i
      stick (bump s .pol 3 1) .pol Fld.POL_STICKY_POL_UNCORR
    else bump s .pol 2 1
  | .policerCounter i k => { s with cnt := tabErase s.cnt (cntKey .pol (polCnt i k)) }
  | _ => s

/-! ### Eligibility (R378) -/

/-- A copy may start before its tail is stored (R354). -/
def mayCut (s : State) (p c : Nat) (x : Frm) : Bool :=
  cfgB s .rsx Fld.RSX_CTRL_CT_EN && decide (p < 1024) && decide (x.src < 1024)
    && decide (portKbps s p ≤ portKbps s x.src) && !(schedOn s && c == schedClass s) && x.state == 0
    && x.stage == .queued && decide (64 ≤ x.bytes.length)

/-- A head frame may start: its tail is stored, or it may be cut through; a mirror engine also takes a frame
that ended bad, to skip it (R366). -/
def mayStart (s : State) (p c f : Nat) : Bool :=
  let x := frm s f
  x.state == 1 || mayCut s p c x || (x.state == 2 && decide (1040 ≤ p))

/-- The head of class `c` of a port: of the scheduled buffers, the oldest that R70 has made eligible. DESIGN CHOICE: a frame
queued before a re-base or a join keeps the number of its stitch, which is compared with the new count: the spec
does not say which buffer it belongs to afterwards. -/
def headOf (s : State) (p c : Nat) : Option QEnt :=
  let es := queueOf s (8 * p + c)
  let bufs := es.filterMap (·.sched)
  let bufs := if schedOn s then bufs.filter (fun n => decide (n < s.stitch)) else bufs
  match bufs with
  | [] => es.find? (fun e => e.sched.isNone)
  | n :: ns =>
    let n := ns.foldl (fun a b => if b < a then b else a) n
    es.find? (fun e => e.sched == some n)

/-- The frame fits before its gate next closes, where the guard band applies (R387). -/
def guardOk (s : State) (p c f : Nat) : Bool :=
  !cfgB s (.tmg p) Fld.TMG_PORT_CFG_GUARD_EN ||
  match gateClose s p c with
  | some t => wireFits s p (frmLen (frm s f)) (t - s.now)
  | none => true

/-- No shaper credit below 0 holds class `c` back; the scheduled class needs none (R381, R389). -/
def credited (s : State) (p c : Nat) : Bool :=
  (schedOn s && c == schedClass s) || !shaped s p c || decide (0 ≤ creditAt s p c s.now)

/-- The queue of class `c` is eligible with head `f` (R378). -/
def eligible (s : State) (p c f : Nat) : Bool :=
  mayStart s p c f && !classHeld s p c && bit (gatesAt s p s.now) c && guardOk s p c f && credited s p c

/-- The eligible head of class `c`, if any. -/
def readyHead (s : State) (p c : Nat) : Option Nat :=
  match headOf s p c with
  | some e => if eligible s p c e.f then some e.f else none
  | none => none

/-! ### Fair queueing (R379) -/

/-- Whether tag `a` precedes `b`, modulo 2^48. -/
def precedes (a b : Nat) : Bool :=
  let d := (b + 2 ^ 48 - a) % 2 ^ 48
  decide (1 ≤ d) && decide (d < 2 ^ 47)

/-- The weight of class `c`; a weight of 0 can be in force only for a class that was strict or scheduled. -/
def weightOf (s : State) (p c : Nat) : Nat :=
  let w := cfg s (.tmg p) (Fld.TMG_WEIGHT c)
  if w = 0 then 1 else w

/-- Class `c` is served under row 3 of Table 12.1. -/
def fairClass (s : State) (p c : Nat) : Bool :=
  !(schedOn s && c == schedClass s) && !bit (cfg s (.tmg p) Fld.TMG_PORT_CFG_STRICT) c

/-- The head of a fair class receives a tag when it becomes eligible and gives it up when it no longer is; a class
that is not served under row 3 holds none. -/
def tagClass (p : Nat) (s : State) (c : Nat) : State :=
  if !fairClass s p c then untag s p c
  else
    let x := tmOf s p
    match readyHead s p c with
    | none => untag s p c
    | some f =>
      match tabGet x.tag none c with
      | some _ => s
      | none =>
        let fc := tabGet x.f 0 c
        let w := weightOf s p c
        let start := if precedes x.v fc then fc else x.v
        let t := trunc 48 (start + ((frmLen (frm s f) + overhead s p) * 65536 + w - 1) / w)
        putTm s p { x with tag := tabPut x.tag none c (some (t, fc)), f := tabPut x.f 0 c t }

/-- The tags of a port follow what is eligible now. V moves only when a frame is chosen, so a tag given by then is the
one that the instant of eligibility gave. -/
def retag (s : State) (p : Nat) : State := (List.range 8).foldl (tagClass p) s

/-- The tags of every port with frames queued, before and after settings change at a boundary (R380). -/
def retagAll (s : State) : State := (dedup ((tabKeys s.rs.queue).map (· / 8))).foldl retag s

/-- A frame of class `c` is chosen: V takes its tag. -/
def takeTag (s : State) (p c : Nat) : State :=
  let x := tmOf s p
  match tabGet x.tag none c with
  | some t => putTm s p { x with v := t.1, tag := tabPut x.tag none c none }
  | none => s

/-- The class that a port serves next (Table 12.1): the scheduled class, then the highest strict class, then
the lowest finish tag and on equal tags the lowest class. -/
def chooseClass (s : State) (p : Nat) : Option Nat :=
  let ready (c : Nat) : Bool := (readyHead s p c).isSome
  if schedOn s && ready (schedClass s) then some (schedClass s)
  else
    let strict := (List.range 8).filter (fun c =>
      !(schedOn s && c == schedClass s) && bit (cfg s (.tmg p) Fld.TMG_PORT_CFG_STRICT) c && ready c)
    match strict.getLast? with
    | some c => some c
    | none =>
      let tag (c : Nat) : Nat := ((tabGet (tmOf s p).tag none c).map (·.1)).getD 0
      ((List.range 8).filter (fun c => fairClass s p c && ready c)).foldl (fun best c =>
        match best with
        | none => some c
        | some b => if precedes (tag c) (tag b) then some c else some b) none

/-! ### The opportunity (R377) -/

/-- HOPS that a data frame carries on an Aladotra link (R447). -/
def hopsOut (x : Frm) : Nat := match x.ald with | some h => h.1 + 1 | none => 1

/-- A port can start a frame now: a front port with its link up, no remote fault and an idle transmitter; a
recirculation or mirror port whose consumer is ready (R155, R377, R552). The Needle and the Pillow take the heads of the
CPU ports' queues themselves (R350, R495). -/
def canStart (s : State) (p : Nat) : Bool :=
  (txOf s p).isNone &&
  if p < 1024 then
    linkUp s p && !rdB s (.mac p) Fld.MAC_STATUS_RFAULT && !hoopAsleep s (p / 32)
  else decide (1032 ≤ p) && decide (p < 1048) && rd s .glb Fld.GLB_RESET_CAUSE_SOFT_STATE != 2

/-- The chosen head of class `c` goes to the transmitter or consumer: V takes its tag, it is counted, and it
leaves the queue. -/
def startFrame (s : State) (p c f : Nat) : State :=
  let s := takeTag s p c
  let q := 8 * p + c
  let s := putQueue s q ((queueOf s q).eraseP (fun e => e.f == f))
  let s := countChosen s p c (frmLen (frm s f))
  let cut := (frm s f).state == 0
  let s := if cut then bump s .rsx 2 1 else s
  exempt (putTx s p (some { f := f, cls := c, start := s.now, cut := cut, overrun := false })) f

/-- A port takes its opportunity: one eligible head is chosen. A data frame whose HOPS would exceed 16 is
discarded instead (R447). -/
def opportunity (s : State) (p : Nat) : State :=
  if !canStart s p then s
  else
    let s := retag (settle s p) p
    match chooseClass s p with
    | none => s
    | some c =>
      match readyHead s p c with
      | none => s
      | some f =>
        if p < 1024 ∧ isAld s p ∧ 16 < hopsOut (frm s f) then
          let s := stick (bump (unqueue s (8 * p + c) f) (.mac p) 39 1) (.mac p) Fld.MAC_STICKY_HOP_DROP
          qeCheck (dropRef s f)
        else startFrame s p c f

/-- TX_OPPORTUNITY (R377), with the errors found in queue entries, descriptors and cells on the way. -/
def execTxOpportunity (p t : Nat) (errs : List MemErr) (s : State) : Host.Outcome State Fault Refusal :=
  .next (opportunity (errs.foldl rsxError (advance s t)) p)

/-- SHAPER_CREDIT_ZERO (R389): the credit of a shaped class has risen to 0, and the port chooses at once. -/
def execShaperCreditZero (p c t : Nat) (s : State) : Host.Outcome State Fault Refusal :=
  let s := settle (advance s t) p
  .next (if shaped s p c && decide (0 ≤ creditAt s p c s.now) then opportunity s p else s)

/-! ### Gate lists (R385 to R388) -/

/-- Classes whose gate is open at `t` but was not one quarter ns before. -/
def gateOpens (s : State) (p t c : Nat) : Bool := bit (gatesAt s p t) c && !bit (gatesAt s p (t - 1)) c

/-- The head of a class whose gate opens is discarded when no window of the list is long enough (R388). -/
def dropOversize (p : Nat) (s : State) (c : Nat) : State :=
  if !gateOpens s p s.now c then s
  else
    match headOf s p c, gateListAt s p s.now with
    | some e, some g =>
      match longestOpen g c with
      | none => s
      | some d =>
        if wireFits s p (frmLen (frm s e.f)) d then s
        else
          let s := stick (bump s (.tmg p) (4 * c + 2) 1) (.tmg p) Fld.TMG_STICKY_GATE_OVERSIZE
          qeCheck (dropRef (unqueue s (8 * p + c) e.f) e.f)
    | _, _ => s

/-- A frame still in transmission when its gate closes is counted once (R387). -/
def gateOverrun (s : State) (p : Nat) : State :=
  match txOf s p with
  | some x =>
    if !x.overrun && !bit (gatesAt s p s.now) x.cls then
      stick (bump (putTx s p (some { x with overrun := true })) (.tmg p) (4 * x.cls + 3) 1) (.tmg p)
        Fld.TMG_STICKY_GATE_OVERRUN
    else s
  | none => s

/-- The head of a class whose gate is closed gives up its tag (R379). -/
def gateUntag (p : Nat) (s : State) (c : Nat) : State := if bit (gatesAt s p s.now) c then s else untag s p c

/-- The gates of a port change at the present instant. -/
def gateChange (s : State) (p : Nat) : State :=
  let s := (List.range 8).foldl (dropOversize p) (settle s p)
  gateOverrun ((List.range 8).foldl (gateUntag p) s) p

/-- GATE_EDGE (R385): the credits that ran under the old gates are settled, oversize heads go (R388), and a
frame that runs past its gate is counted (R387). -/
def execGateEdge (p t : Nat) (s : State) : Host.Outcome State Fault Refusal :=
  .next (if p < 1024 then gateChange (advance s t) p else s)

/-- GATE_LIST_START (R386): a pending list whose start has come comes into force. -/
def execGateListStart (p t : Nat) (s : State) : Host.Outcome State Fault Refusal :=
  let s := advance s t
  match (tmOf s p).pend with
  | some g =>
    if 4 * g.t0 ≤ s.now then
      let s := gateChange s p
      .next (bump (putTm s p { tmOf s p with gl := some g, pend := none }) (.tmg p) 34 1)
    else .next s
  | none => .next s

/-- GL_SYNC_DONE (R386). -/
def execGlSyncDone (p : Nat) (s : State) : Host.Outcome State Fault Refusal :=
  .next (wr s (.tmg p) Fld.TMG_STATUS_GL_SYNC 0)

/-- The gate list that a page's values in force describe, started at `t0` ns. -/
def gateListOf (s : State) (p t0 : Nat) : GateList :=
  { t0 := t0, cycle := cfg s (.tmg p) Fld.TMG_GL_CYCLE_CYCLE
    entries := (List.range (cfg s (.tmg p) Fld.TMG_GL_LEN_LEN)).map (fun i => word s (.tmg p) 1 i) }

/-- BASE in force. -/
def gateBase (s : State) (p : Nat) : Nat :=
  cfg s (.tmg p) Fld.TMG_GL_BASE_HI_BASE * 2 ^ 32 + cfg s (.tmg p) Fld.TMG_GL_BASE_LO_BASE

/-- Whether an apply changed the gate list of a port. -/
def gateChanged (old s : State) (p : Nat) : Bool :=
  [Fld.TMG_PORT_CFG_GATE_EN, Fld.TMG_GL_BASE_LO_BASE, Fld.TMG_GL_BASE_HI_BASE, Fld.TMG_GL_CYCLE_CYCLE,
    Fld.TMG_GL_LEN_LEN].any (fun f => cfg old (.tmg p) f != cfg s (.tmg p) f)
    || (List.range 256).any (fun i => word old (.tmg p) 1 i != word s (.tmg p) 1 i)

/-- A TMG port page applies at the present boundary (R386, R389); credits were settled before. -/
def tmgApplied (old s : State) (p : Nat) : State :=
  let x := tmOf s p
  let cred := (List.range 8).foldl (fun m c =>
    let cr := if shaped old p c && shaped s p c then tabGet m 0 c else 0
    tabPut m 0 c (if credMax s p c < cr then credMax s p c else cr)) x.cred
  let s := putTm s p { x with cred := cred }
  if !gateChanged old s p then s
  else if !cfgB s (.tmg p) Fld.TMG_PORT_CFG_GATE_EN then
    if cfgB old (.tmg p) Fld.TMG_PORT_CFG_GATE_EN then putTm s p { tmOf s p with gl := none, pend := none } else s
  else
    let base := gateBase s p
    let cyc := cfg s (.tmg p) Fld.TMG_GL_CYCLE_CYCLE
    let late := decide (4 * base < s.now)
    let t0 := if late then base + ((s.now / 4 - base) / cyc + 1) * cyc else base
    let s := if late then stick (bump s (.tmg p) 33 1) (.tmg p) Fld.TMG_STICKY_LATE_START else s
    wr (putTm s p { tmOf s p with pend := some (gateListOf s p t0) }) (.tmg p) Fld.TMG_STATUS_GL_SYNC 1

/-- GL_STAT.STATE (Table 12.6). -/
def glState (s : State) (p : Nat) : Nat :=
  match (tmOf s p).gl, (tmOf s p).pend with
  | none, none => 0
  | some _, none => 1
  | some _, some _ => 2
  | none, some _ => 3

/-- GL_STAT.ENTRY. -/
def glEntry (s : State) (p : Nat) : Nat :=
  match gateListAt s p s.now with | some g => (gateEntry g s.now).1 | none => 0

/-- GL_START: the start of the pending list, or of the running one. -/
def glStart (s : State) (p : Nat) : Nat :=
  match (tmOf s p).pend, (tmOf s p).gl with
  | some g, _ => g.t0
  | none, some g => g.t0
  | none, none => 0

/-- CREDIT_NEG of a port. -/
def creditNeg (s : State) (p : Nat) : Nat :=
  (List.range 8).foldl (fun n c => if p < 1024 ∧ shaped s p c ∧ creditAt s p c s.now < 0 then n + 2 ^ c else n) 0

/-- The rate of a port in kbit/s under the values latched at the same close (R399). -/
def kbpsLatched (s : State) (isDue : Page → Bool) (p : Nat) : Nat :=
  let get (g : Page) (f : Field) : Nat := if isDue g then ltc s g f else cfg s g f
  if get (.lan p) Fld.LAN_MODE_CODING = 1 then
    2 ^ get (.mac p) Fld.MAC_PORT_CFG_WIDTH * laneKbps (get (.lan p) Fld.LAN_MODE_RATE)
  else speedKbps (get (.mac p) Fld.MAC_PORT_CFG_SPEED)

/-- The rules of R399 that a TMG port page's latched values break. -/
def tmgLatchedBad (s : State) (isDue : Page → Bool) (p : Nat) : Bool :=
  let g := Page.tmg p
  let strict := ltc s g Fld.TMG_PORT_CFG_STRICT
  let shape := ltc s g Fld.TMG_SHAPE_EN_SHAPE_EN
  let gate := ltc s g Fld.TMG_PORT_CFG_GATE_EN
  let len := ltc s g Fld.TMG_GL_LEN_LEN
  (List.range 8).any (fun c => ltc s g (Fld.TMG_WEIGHT c) == 0 && !bit strict c && c != schedClass s)
    || (decide (1024 ≤ p) && (gate != 0 || shape != 0))
    || (schedOn s && bit shape (schedClass s))
    || (List.range 8).any (fun c => bit shape c &&
        (ltc s g (Fld.TMG_IDLE_SLOPE_SLOPE c) == 0
          || decide (kbpsLatched s isDue p ≤ 1000 * ltc s g (Fld.TMG_IDLE_SLOPE_SLOPE c))
          || ltc s g (Fld.TMG_CRED_MAX_CRED_MAX c) == 0))
    || (gate != 0 && (len == 0 || decide (256 < len) || ltc s g Fld.TMG_GL_CYCLE_CYCLE == 0
        || (List.range len).any (fun i => bits (wordL s g 1 i) 23 0 == 0)))

/-- Step 3 of a boundary (R70, R71): the buffers that a boundary earlier should have emptied are counted once
for each port, and the byte count of the buffer that begins to fill starts at 0. -/
def cqfStep (s : State) : State :=
  let n := s.stitch
  let late := (dedup ((s.rs.queue.filter (fun e => e.2.any (fun q => q.sched == some (n - 2)))).map (fun e => e.1 / 8))).length
  let s := { s with rs := { s.rs with bud := tabSel (fun k => decide (n < k / 2048 + 2)) s.rs.bud } }
  if n < 2 || late == 0 then s
  else stick (wr s .stitch Fld.SMP_CQF_OVR_OVR_COUNT (rd s .stitch Fld.SMP_CQF_OVR_OVR_COUNT + late)) .stitch
    Fld.STITCH_STICKY_CQF_OVERRUN

end Sys2Proof.Machine
end

