-- ==== Sys2Proof/Machine/Mac.lean ====
section
/-! DEFINITION. MAC ports (chapter 5): links, receive checks, pause and priority flow control, and the end of a
transmission. -/

namespace Sys2Proof.Machine

/-! ### Holds (R163 to R168) -/

/-- A pause time of `q` quanta in 1/100 quarter ns: a quantum is 512 bit times (Table 5.2). -/
def quanta (s : State) (n q : Nat) : Nat := q * 204_800_000_000 / portKbps s n

/-- TX_HELD of a class follows its timer; the head of a class that is held gives up its tag (R379). -/
def showHeld (s : State) (n c : Nat) (h : Bool) : State :=
  let s := if h then untag s n c else s
  wr s (.mac n) Fld.MAC_STATUS_TX_HELD (setBit (rd s (.mac n) Fld.MAC_STATUS_TX_HELD) c h)

/-- A class is released: its timer is 0. -/
def releaseClass (s : State) (n c : Nat) : State :=
  let s := settle s n
  let x := pauseOf s n
  showHeld (putPause s n { x with timer := tabPut x.timer 0 c 0, since := tabPut x.since 0 c 0 }) n c false

/-- An accepted pause time of `q` quanta for a class (R164), of a frame that ends at `fin` (1/100 quarter ns): it
replaces what remains, but during the watchdog's ignore time nothing holds the class (R167). -/
def loadClass (s : State) (n c q fin : Nat) : State :=
  if q = 0 then releaseClass s n c
  else if bit (rd s (.mac n) Fld.MAC_STATUS_WD_IGNORE) c then s
  else
    let s := settle s n
    let x := pauseOf s n
    let since := if tabGet x.since 0 c = 0 then fin / 100 + 1 else tabGet x.since 0 c
    showHeld (putPause s n { x with timer := tabPut x.timer 0 c (fin + quanta s n q)
                                    since := tabPut x.since 0 c since }) n c true

/-- An accepted pause frame that ends at `fin` (R164). -/
def pauseFrame (s : State) (n q fin : Nat) : State :=
  (List.range 8).foldl (fun s c => loadClass s n c q fin) (bump s (.mac n) 8 1)

/-- An accepted PFC frame with its class-enable vector and times, which ends at `fin` (R164, Table 5.8). -/
def pfcFrame (s : State) (n vec : Nat) (times : List Nat) (fin : Nat) : State :=
  let en := cfg s (.mac n) Fld.MAC_PAUSE_CFG_RX_CLASS_EN
  (List.range 8).foldl (fun s c =>
    if !bit vec c || !bit en c then s
    else if times.getD c 0 % 65536 != 0 && bit (rd s (.mac n) Fld.MAC_STATUS_WD_IGNORE) c then s
    else bump (loadClass s n c (times.getD c 0 % 65536) fin) (.mac n) (25 + c) 1) (bump s (.mac n) 9 1)

/-- PAUSE_RX (R164): a pause frame that a port with MODE 1 accepts ends at `t`. -/
def execPauseRx (n t q : Nat) (s : State) : Host.Outcome State Fault Refusal :=
  let s := advance s t
  .next (if linkUp s n && cfg s (.mac n) Fld.MAC_PAUSE_CFG_MODE == 1 then pauseFrame s n q (100 * s.now) else s)

/-- PFC_RX (R164): a PFC frame that a port with MODE 2 accepts ends at `t`. -/
def execPfcRx (n t vec : Nat) (times : List Nat) (s : State) : Host.Outcome State Fault Refusal :=
  let s := advance s t
  .next (if linkUp s n && cfg s (.mac n) Fld.MAC_PAUSE_CFG_MODE == 2 then pfcFrame s n vec times (100 * s.now) else s)

/-- PAUSE_TIMER_EXPIRY (R164): the timer of a held class has reached 0. -/
def execPauseTimerExpiry (n c t : Nat) (s : State) : Host.Outcome State Fault Refusal :=
  let s := advance s t
  .next (if tabGet (pauseOf s n).since 0 c != 0 && decide (tabGet (pauseOf s n).timer 0 c ≤ 100 * s.now)
    then releaseClass s n c else s)

/-- PAUSE_WD_FIRE (R167): a class of a port of 800G or 1.6T has been held for WD_US, and its timer still runs. -/
def execPauseWdFire (n c t : Nat) (s : State) : Host.Outcome State Fault Refusal :=
  let s := advance s t
  let p := Page.mac n
  let wd := cfg s p Fld.MAC_PAUSE_WD_WD_US
  let since := tabGet (pauseOf s n).since 0 c
  if wd == 0 || decide (cfg s p Fld.MAC_PORT_CFG_SPEED < 6) || since == 0 || decide (s.now + 1 < since + 4000 * wd)
      || decide (tabGet (pauseOf s n).timer 0 c ≤ 100 * s.now)
  then .next s
  else
    let s := releaseClass s n c
    let ign := cfg s p Fld.MAC_PAUSE_WD_IGN_US
    let x := pauseOf s n
    let s := putPause s n { x with ignore := tabPut x.ignore 0 c (s.now + 4000 * (if ign = 0 then 1 else ign)) }
    let s := wr s p Fld.MAC_STATUS_WD_IGNORE (setBit (rd s p Fld.MAC_STATUS_WD_IGNORE) c true)
    .next (stick (bump s p 20 1) p Fld.MAC_STICKY_PAUSE_WD)

/-- PAUSE_WD_IGNORE_END (R167). -/
def execPauseWdIgnoreEnd (n c t : Nat) (s : State) : Host.Outcome State Fault Refusal :=
  let s := advance s t
  let p := Page.mac n
  let x := pauseOf s n
  .next (if bit (rd s p Fld.MAC_STATUS_WD_IGNORE) c && decide (tabGet x.ignore 0 c ≤ s.now) then
      wr (putPause s n { x with ignore := tabPut x.ignore 0 c 0 }) p Fld.MAC_STATUS_WD_IGNORE
        (setBit (rd s p Fld.MAC_STATUS_WD_IGNORE) c false)
    else s)

/-! ### Pause and PFC frames that the port sends (R168, R390) -/

/-- A MAC control frame of the port, from DA, padded to 60 bytes. -/
def ctlFrame (s : State) (n op : Nat) (body : List Nat) : List Nat :=
  let p := Page.mac n
  let sa := cfg s p Fld.MAC_PAUSE_SA_HI_SA * 2 ^ 32 + cfg s p Fld.MAC_PAUSE_SA_LO_SA
  let x := [0x01, 0x80, 0xC2, 0, 0, 0x01] ++ beBytes 6 sa ++ [0x88, 0x08] ++ beBytes 2 op ++ body
  x ++ List.replicate (60 - x.length) 0

/-- What the transmitter of a front port puts on its line: nothing while the slot is disabled, remote fault while it
detects a local fault, idle while it receives one or has nothing to send, or a frame (R155). -/
inductive LineSignal where
  | none
  | remoteFault
  | idle
  | frame
  deriving DecidableEq, Repr

/-- The signal of port `n`. A local fault is a port without LINK_UP; an Aladotra link in a state that carries cells
is not one. -/
def lineSignal (s : State) (n : Nat) : LineSignal :=
  if !portEnabled s n then .none
  else if !linkUp s n && !(isAld s n && lstate s n != 0) then .remoteFault
  else if rdB s (.mac n) Fld.MAC_STATUS_RFAULT then .idle
  else if (txOf s n).isSome then .frame else .idle

/-- A pause or PFC frame of port `n` may start: no frame is in transmission, and no remote fault is received (R155,
R166). -/
def ctlReady (s : State) (n : Nat) : Bool :=
  linkUp s n && (txOf s n).isNone && !rdB s (.mac n) Fld.MAC_STATUS_RFAULT

/-- The pause or PFC frame that is due is built and sent: under MODE 2 the classes held carry TX_QUANTA and those being
released time 0 (R168). -/
def ctlSend (s : State) (n : Nat) : State :=
  let p := Page.mac n
  let x := pauseOf s n
  let q := cfg s p Fld.MAC_PAUSE_CFG_TX_QUANTA
  let pfc := cfg s p Fld.MAC_PAUSE_CFG_MODE == 2
  let time (b : Bool) : List Nat := beBytes 2 (if b then q else 0)
  let fr := if pfc then
      ctlFrame s n 0x0101 ([0, (x.txHold ||| x.rel) % 256] ++ (List.range 8).flatMap (fun c => time (bit x.txHold c)))
    else ctlFrame s n 0x0001 (time (x.txHold != 0))
  let s := putPause s n { x with txAt := s.now, due := false, rel := 0 }
  let s := { s with rs := { s.rs with sentCtl := tabPut s.rs.sentCtl [] n (withFcs fr false) } }
  bump s p (if pfc then 16 else 15) 1

/-- A frame that is due goes as soon as it may start. -/
def ctlTry (s : State) (n : Nat) : State := if (pauseOf s n).due && ctlReady s n then ctlSend s n else s

/-- A pause or PFC frame is due, for the classes held and `rel`, which are released. -/
def sendHold (s : State) (n rel : Nat) : State :=
  let x := pauseOf s n
  ctlTry (putPause s n { x with due := true, rel := x.rel ||| rel }) n

/-- The traffic manager may request holds of a port (R390). -/
def mayRequest (s : State) (n : Nat) : Bool :=
  cfgB s (.mac n) Fld.MAC_PAUSE_CFG_TX_GEN && linkUp s n
    && (cfg s (.mac n) Fld.MAC_PAUSE_CFG_MODE == 1 || cfg s (.mac n) Fld.MAC_PAUSE_CFG_MODE == 2)

/-- Class `c` of a front port is to be held at the partner: its account's HOLD is set and PFC_GEN allows it. -/
def wantsHold (s : State) (n c : Nat) : Bool :=
  acctHeld s (8 * n + c) && bit (cfg s (.tmg n) Fld.TMG_PORT_CFG_PFC_GEN) c

/-- PAUSE_HOLD_REQUEST (R390, R168): a hold of a class is requested; under MODE 1 the first class that is held
sends the frame. -/
def execPauseHoldRequest (n c t : Nat) (s : State) : Host.Outcome State Fault Refusal :=
  let s := advance s t
  let x := pauseOf s n
  if !mayRequest s n || !wantsHold s n c || bit x.txHold c then .next s
  else
    let s := putPause s n { x with txHold := setBit x.txHold c true, rel := setBit x.rel c false }
    .next (if cfg s (.mac n) Fld.MAC_PAUSE_CFG_MODE == 2 || x.txHold == 0 then sendHold s n 0 else s)

/-- PAUSE_RELEASE_REQUEST (R390, R168): a release is sent once; under MODE 1 when no class is held any more. -/
def execPauseReleaseRequest (n c t : Nat) (s : State) : Host.Outcome State Fault Refusal :=
  let s := advance s t
  let x := pauseOf s n
  if !mayRequest s n || wantsHold s n c || !bit x.txHold c then .next s
  else
    let h := setBit x.txHold c false
    let s := putPause s n { x with txHold := h }
    .next (if cfg s (.mac n) Fld.MAC_PAUSE_CFG_MODE == 2 || h == 0 then sendHold s n (2 ^ c) else s)

/-- PAUSE_REPEAT (R168): a hold persists, and TX_QUANTA / 2 quanta, an integer, have passed since the last frame. -/
def execPauseRepeat (n t : Nat) (s : State) : Host.Outcome State Fault Refusal :=
  let s := advance s t
  let x := pauseOf s n
  .next (if mayRequest s n && x.txHold != 0
      && decide (100 * x.txAt + quanta s n (cfg s (.mac n) Fld.MAC_PAUSE_CFG_TX_QUANTA / 2) ≤ 100 * s.now)
    then sendHold s n 0 else s)

/-! ### Receive checks (R159 to R162) -/

/-- A frame is a multicast or broadcast, as RX_MCAST and RX_BCAST count it. -/
def countCast (s : State) (n : Nat) (b : List Nat) : State :=
  if slice b 0 6 = [255, 255, 255, 255, 255, 255] then bump s (.mac n) 12 1
  else if bit (byteAt b 0) 0 then bump s (.mac n) 11 1
  else s

/-- A MAC control frame of a port that ends at `fin` (R164): an accepted pause or PFC frame acts, any other is
dropped. -/
def macControl (s : State) (n : Nat) (b : List Nat) (fin : Nat) : State :=
  let p := Page.mac n
  let sa := cfg s p Fld.MAC_PAUSE_SA_HI_SA * 2 ^ 32 + cfg s p Fld.MAC_PAUSE_SA_LO_SA
  let da := beNat (slice b 0 6)
  let ok := da == 0x0180C2000001 || da == sa
  let mode := cfg s p Fld.MAC_PAUSE_CFG_MODE
  if ok && be16 b 14 == 0x0001 && mode == 1 then pauseFrame s n (be16 b 16) fin
  else if ok && be16 b 14 == 0x0101 && mode == 2 then
    pfcFrame s n (byteAt b 17) ((List.range 8).map (fun c => be16 b (18 + 2 * c))) fin
  else bump s p 10 1

/-- The ingress class of a front-port frame (R357). -/
def ingressClass (s : State) (n : Nat) (b : List Nat) : Nat :=
  let c := prkCfg s (n / 32)
  if be16 b 12 = c.tpid1 ∨ be16 b 12 = c.tpid2 then bits (byteAt b 14) 7 5 else 0

/-- A frame in reception on a port. -/
def rxOf (s : State) (n : Nat) : Option RxSt := tabGet s.rs.rx none n

/-- The frame in reception replaced. -/
def putRx (s : State) (n : Nat) (x : Option RxSt) : State := { s with rs := { s.rs with rx := tabPut s.rs.rx none n x } }

/-- The stitch to which time `t` belongs: the one in progress, or the one before when its boundary came first
(R69). -/
def stitchAt (s : State) (t : Nat) : Nat := if t < s.bndAt ∧ 0 < s.stitch then s.stitch - 1 else s.stitch

/-- The frame in reception takes the cells that its bytes need, and a descriptor with the first; without a cell
it is bad (R361). -/
def storeRx (s : State) (n len : Nat) (x : RxSt) : State × RxSt :=
  if x.lost then (s, x)
  else
    let max := cfg s (.mac n) Fld.MAC_FRAME_CFG_MAX_LEN
    let keep := if max < x.all.length then x.all.take (max - 4) else x.all
    let need := cellsFor (if len < max then len else max)
    let (s, f) := match x.f with
      | some f => (s, f)
      | none =>
        let f := freeDesc s
        let c := ingressClass s n x.all
        (nextSerial <| putFrm s f
          { used := true, refs := 1, src := n, icls := c, inPort := n, hoop := n / 32, arrival := x.arrival
            stitch := stitchAt s x.arrival, rxHeld := true, ald := x.ald, serial := s.rs.serial }, f)
    let fr := frm s f
    let r := takeCells (8 * n + fr.icls) (need - fr.cells.length) s fr.cells
    let held := if r.2.2 then keep else keep.take (256 * r.2.1.length)
    let s := putFrm r.1 f { fr with cells := r.2.1, bytes := held, oversize := decide (max < x.all.length) }
    if r.2.2 then (s, { x with f := some f })
    else
      let a := 8 * n + fr.icls
      let s := stick (bump s .rsx 10 1) .rsx Fld.RSX_STICKY_HDRM_DISCARD
      let s := putAcct s a { acctOf s a with hdrmFrames := sat 65535 ((acctOf s a).hdrmFrames + 1) }
      (markBad s f, { x with f := none, lost := true })

/-- The frame in reception ends bad: what was stored of it is given up (R355). -/
def dropRx (s : State) (x : RxSt) : State := match x.f with | some f => markBad s f | none => s

/-- The tail of a good frame is stored: the receiver gives up its reference once the frame is enqueued. -/
def keepRx (s : State) (x : RxSt) : State :=
  match x.f with
  | none => s
  | some f =>
    let fr := frm s f
    if !fr.used || fr.state == 2 then s
    else
      let s := exempt (bump (putFrm s f { fr with state := 1 }) .rsx 1 1) f
      if fr.stage = .lookup ∨ fr.stage = .result then s else handOver s f

/-- The checks of Table 5.1 on a frame whose last byte has come, at `fin` (1/100 quarter ns); errored blocks within it
are a code error (R158). -/
def rxEnd (s : State) (n : Nat) (x : RxSt) (tail : RxTail) (fin : Nat) : State :=
  let p := Page.mac n
  let b := x.all
  let s := putRx s n none
  match (if x.err && tail != .more then RxTail.codeErr else tail) with
  | .more => s
  | .codeErr => dropRx (bump s p 4 1) x
  | .fcs w =>
    let len := b.length + 4
    let crc := crc32 b
    let good := w == crc
    if len < 64 then dropRx (bump s p (if good then 5 else 6) 1) x
    else if cfg s p Fld.MAC_FRAME_CFG_MAX_LEN < len then
      let s := stick (bump s p 7 1) p Fld.MAC_STICKY_OVERSIZE
      if cfg s p Fld.MAC_FRAME_CFG_OVS_ACT = 1 then
        match x.f with
        | some f =>
          let max := cfg s p Fld.MAC_FRAME_CFG_MAX_LEN
          keepRx (putFrm s f { frm s f with oversize := true, bytes := b.take (max - 4) }) x
        | none => s
      else dropRx s x
    else if !good then dropRx (bump s p (if w == 0xFFFF_FFFF - crc then 3 else 2) 1) x
    else if be16 b 12 = 0x8808 then dropRx (macControl s n b fin) x
    else
      let s := countCast (bump (bump s p 0 1) p 1 len) n b
      keepRx s x

/-- RX_ADJ of a port, in quarter ns (R417). -/
def rxAdj (s : State) (n : Nat) : Int := signed 16 (bits (word s (.ts (n / 32)) 1 (n % 32)) 15 0)

/-- TX_ADJ of a port. -/
def txAdj (s : State) (n : Nat) : Int := signed 16 (bits (word s (.ts (n / 32)) 1 (n % 32)) 31 16)

/-- A time corrected by an adjustment. -/
def adjust (t : Nat) (a : Int) : Nat := ((t : Int) + a).toNat

/-- The time that `len` bytes take on the wire of a port, in 1/100 quarter ns. -/
def wireTime (s : State) (n len : Nat) : Nat := len * 3_200_000_000 / portKbps s n

/-- A piece of a frame comes in, of which `err` says that blocks are marked as errored. A new frame that meets a full receive FIFO (R535), or a soft reset that runs
(R552), takes no cell. -/
def rxPiece (s : State) (n t : Nat) (ald : Option (Nat × Nat)) (b : List Nat) (tail : RxTail) (overrun : Bool)
    (err : Bool := false) : State :=
  let h := Page.hop (n / 32)
  let soft := rd s .glb Fld.GLB_RESET_CAUSE_SOFT_STATE == 2
  let (s, x) := match rxOf s n with
    | some x => (s, { x with all := x.all ++ b, err := x.err || err })
    | none =>
      let s := if soft then bump s h 3 1
        else if overrun then stick (bump s h 2 1) h Fld.HOP_STICKY_RX_OVERRUN else s
      (s, ({ f := none, lost := soft || overrun, all := b, arrival := adjust t (rxAdj s n), ald := ald,
              err := err } : RxSt))
  match tail with
  | .more =>
    let (s, x) := if 15 ≤ x.all.length then storeRx s n x.all.length x else (s, x)
    putRx s n (some x)
  | _ =>
    let (s, x) := storeRx s n (x.all.length + (if tail = .codeErr then 0 else 4)) x
    rxEnd s n x tail (100 * t + wireTime s n (b.length + 4))

/-- Whether the port uses RS-FEC (R155, R158). -/
def rsFec (s : State) (n : Nat) : Bool := decide (2 ≤ cfg s (.mac n) Fld.MAC_PORT_CFG_FEC)

/-- Codewords received, corrected and not correctable, and the symbols corrected, are counted (Table 5.8). -/
def fecCount (s : State) (n : Nat) (fec : List Nat) : State :=
  if rsFec s n then (List.range 4).foldl (fun s i => bump s (.mac n) (21 + i) (fec.getD i 0)) s else s

/-- A codeword could not be corrected: its blocks are marked as errored (R158). -/
def fecBad (s : State) (n : Nat) (fec : List Nat) : Bool := rsFec s n && fec.getD 2 0 != 0

/-- RX_FRAME (R159): a frame, or a piece of one, comes in on an Ethernet port. `overrun` says that it met a full
receive FIFO, `fec` gives the codewords received, corrected and not correctable and the symbols corrected. -/
def execRxFrame (n t : Nat) (b : List Nat) (tail : RxTail) (overrun : Bool) (fec : List Nat) (s : State) :
    Host.Outcome State Fault Refusal :=
  let s := advance s t
  if !linkUp s n || isAld s n then .next s
  else .next (rxPiece (fecCount s n fec) n t none b tail overrun (fecBad s n fec))

/-! ### Links (R155 to R158) -/

/-- LINK_UP falls, or a link that was not up is taken down (R156): the frame in reception ends as a code error,
the one in transmission is cut off, pause timers clear and LINKDN_ACT governs the queues (R157). `locks` says that PCS and
FEC keep their locks, as on a high error rate; each loss of codeword lock sets FEC_UNLOCK (R158). -/
def linkDrop (s : State) (n : Nat) (locks : Bool) : State :=
  let p := Page.mac n
  let was := linkUp s n
  let s := settle s n
  let s := match rxOf s n with
    | some x => if was then rxEnd s n x .codeErr (100 * s.now) else putRx s n none
    | none => s
  let s := wr s p Fld.MAC_STATUS_LINK_UP 0
  let s := if locks then s else
    let s := if rdB s p Fld.MAC_STATUS_FEC_LOCK then stick s p Fld.MAC_STICKY_FEC_UNLOCK else s
    wr (wr s p Fld.MAC_STATUS_PCS_LOCK 0) p Fld.MAC_STATUS_FEC_LOCK 0
  let s := wr s p Fld.MAC_STATUS_RFAULT 0
  let s := if rd s p Fld.MAC_ALD_STAT_LSTATE = 6 then s else wr s p Fld.MAC_ALD_STAT_LSTATE 0
  let s := match txOf s n with
    | some x => dropRef (bump (putTx s n none) p 18 1) x.f
    | none => s
  let s := putPause s n { pauseOf s n with timer := [], since := [], txHold := 0, due := false, rel := 0 }
  let s := wr s p Fld.MAC_STATUS_TX_HELD 0
  let s := if was then stick s p Fld.MAC_STICKY_LINK_DOWN else s
  if flushes s n then flushPort s n (was || portEnabled s n) else s

/-- The link of a port falls, and with it the locks of its PCS and FEC. -/
def linkFall (s : State) (n : Nat) : State := linkDrop s n false

/-- The lanes of a port. -/
def portLanes (s : State) (n : Nat) : List Nat := (List.range (portWidth s n)).map (n + ·)

/-- Every lane of a port has lock and has adapted (R155). -/
def lanesReady (s : State) (n : Nat) : Bool :=
  (portLanes s n).all (fun l => rdB s (.lan l) Fld.LAN_STATUS_CDR_LOCK && rdB s (.lan l) Fld.LAN_STATUS_ADAPT_DONE)

/-- LINK_UP (R155): PCS and FEC lock complete the conditions on an enabled port whose lanes are ready; an
Aladotra link enters HELLO (R442), and its LINK_UP waits for state 3, 4 or 5 (R443). The transmitter starts
with no class held (R157). -/
def execLinkUp (n t : Nat) (s : State) : Host.Outcome State Fault Refusal :=
  let s := advance s t
  let p := Page.mac n
  let began := if isAld s n then lstate s n != 0 else linkUp s n
  if !portEnabled s n || !lanesReady s n || hoopFenced s (n / 32) || began then .next s
  else
    let s := wr (wr s p Fld.MAC_STATUS_PCS_LOCK 1) p Fld.MAC_STATUS_HI_BER 0
    let s := wr s p Fld.MAC_STATUS_FEC_LOCK (b2n (rsFec s n))
    let s := putPause s n { ignore := (pauseOf s n).ignore }
    let s := { s with pwr := { s.pwr with det := tabErase s.pwr.det n } }
    .next (if isAld s n then
        if fenced s p then s else putLink (wr s p Fld.MAC_ALD_STAT_LSTATE 1) n {}
      else wr s p Fld.MAC_STATUS_LINK_UP 1)

/-- LINK_DOWN (R156): a condition of R155 fails; `hiBer` says that it is the PCS's error rate. -/
def execLinkDown (n t : Nat) (hiBer : Bool) (s : State) : Host.Outcome State Fault Refusal :=
  let s := advance s t
  let p := Page.mac n
  if !rdB s p Fld.MAC_STATUS_PCS_LOCK then .next s
  else
    let s := if hiBer then stick (wr s p Fld.MAC_STATUS_HI_BER 1) p Fld.MAC_STICKY_HI_BER else s
    .next (linkDrop s n hiBer)

/-- FEC_UNLOCK (R158): the RS-FEC loses codeword lock, and the link falls with it (R156). -/
def execFecUnlock (n t : Nat) (s : State) : Host.Outcome State Fault Refusal :=
  let s := advance s t
  .next (if rdB s (.mac n) Fld.MAC_STATUS_FEC_LOCK then linkFall s n else s)

/-- REMOTE_FAULT_RX (R155). -/
def execRemoteFaultRx (n : Nat) (s : State) : Host.Outcome State Fault Refusal :=
  .next (if linkUp s n && !isAld s n then
    stick (wr s (.mac n) Fld.MAC_STATUS_RFAULT 1) (.mac n) Fld.MAC_STICKY_RFAULT else s)

/-- REMOTE_FAULT_END (R155): a pause or PFC frame that is due may go. -/
def execRemoteFaultEnd (n : Nat) (s : State) : Host.Outcome State Fault Refusal :=
  .next (ctlTry (wr s (.mac n) Fld.MAC_STATUS_RFAULT 0) n)

/-- The fields whose committed change takes a port's link down (R153). -/
def portServiceFields : List Field :=
  [Fld.MAC_PORT_CFG_ENABLE, Fld.MAC_PORT_CFG_SPEED, Fld.MAC_PORT_CFG_WIDTH, Fld.MAC_PORT_CFG_FEC]

/-- A MAC page applies at the boundary (R153): a change of service takes the link down, and a port that is down
under LINKDN_ACT 1 from now on discards the frames already queued (R157); a port that may make no requests has
no hold requested (R390). -/
def macApplied (old s : State) (n : Nat) : State :=
  let s := if mayRequest s n then s else putPause s n { pauseOf s n with txHold := 0, due := false, rel := 0 }
  if portServiceFields.any (fun f => cfg old (.mac n) f != cfg s (.mac n) f) then linkFall s n
  else if flushes s n then flushPort s n (portEnabled s n)
  else s

/-! ### The close (R154) -/

/-- A combination of SPEED, WIDTH, RATE and FEC that Table 4.2 gives. -/
def table42 (speed width rate fec : Nat) : Bool :=
  [(0, 0, 1, [0, 1]), (1, 0, 2, [0, 1, 2]), (2, 0, 3, [3]), (3, 2, 2, [0, 2]), (3, 1, 3, [3]), (3, 0, 4, [3]),
    (4, 2, 3, [3]), (4, 1, 4, [3]), (4, 0, 5, [3]), (5, 3, 3, [3]), (5, 2, 4, [3]), (5, 1, 5, [3]), (6, 3, 4, [3]),
    (6, 2, 5, [3]), (7, 3, 5, [3])].any
    (fun (e : Nat × Nat × Nat × List Nat) => e.1 == speed && e.2.1 == width && e.2.2.1 == rate && e.2.2.2.contains fec)

/-- The lanes that a port would bind, under the values that a close judges. -/
def boundLanes (get : Page → Field → Nat) (n : Nat) : Nat × Nat := (n, n + 2 ^ get (.mac n) Fld.MAC_PORT_CFG_WIDTH)

/-- Enabled ports whose lanes overlap those of an enabled port (R154). -/
def overlaps (get : Page → Field → Nat) (n : Nat) : List Nat :=
  let a := boundLanes get n
  (List.range 15).map (fun i => n + i - 7) |>.filter (fun m =>
    m != n && decide (m < 1024) && get (.mac m) Fld.MAC_PORT_CFG_ENABLE == 1
      && decide ((boundLanes get m).1 < a.2) && decide (a.1 < (boundLanes get m).2))

/-- The fields that the lanes of a port carry alike (R125). -/
def laneSameFields : List Field :=
  [Fld.LAN_MODE_RATE, Fld.LAN_MODE_CODING, Fld.LAN_MODE_MEDIUM, Fld.LAN_MODE_PRECODE_TX, Fld.LAN_MODE_PRECODE_RX]

/-- The rules of R154 that a MAC page's latched values break; `get` gives the latched values of pages of due
groups and the values in force of others. -/
def macLatchedBad (s : State) (get : Page → Field → Nat) (n : Nat) : Bool :=
  let p := Page.mac n
  let speed := ltc s p Fld.MAC_PORT_CFG_SPEED
  let fec := ltc s p Fld.MAC_PORT_CFG_FEC
  let width := ltc s p Fld.MAC_PORT_CFG_WIDTH
  let mode := ltc s p Fld.MAC_PAUSE_CFG_MODE
  let max := ltc s p Fld.MAC_FRAME_CFG_MAX_LEN
  let rate := get (.lan n) Fld.LAN_MODE_RATE
  let coding := get (.lan n) Fld.LAN_MODE_CODING
  decide (8 ≤ speed) || decide (4 ≤ fec) || decide (2 ≤ ltc s p Fld.MAC_FRAME_CFG_OVS_ACT) || mode == 3
    || decide (max < 1518) || decide (16384 < max)
    || (ltc s p Fld.MAC_PAUSE_CFG_TX_GEN == 1 && decide (ltc s p Fld.MAC_PAUSE_CFG_TX_QUANTA < 2))
    || (ltc s p Fld.MAC_PORT_CFG_ENABLE == 1 &&
        (n % 2 ^ width != 0 || rate == 0
          || (coding == 0 && !table42 speed width rate fec)
          || (coding == 1 && ((rate == 2 && fec != 0) || (decide (3 ≤ rate) && fec != 3)))
          || (List.range (2 ^ width)).any (fun i => laneSameFields.any (fun f => get (.lan (n + i)) f != get (.lan n) f))
          || !(overlaps get n).isEmpty
          || (mode != 0 && coding == 1)
          || (ltc s p Fld.MAC_PAUSE_WD_WD_US != 0 && decide (speed < 6))
          || (ltc s p Fld.MAC_WAKE_CFG_WAKE_EN == 1 &&
              !(width == 0 && coding == 0 && fec == 0 && ((speed == 0 && rate == 1) || (speed == 1 && rate == 2))))))

/-! ### The end of a transmission (R345, R355, R417 to R419) -/

/-- A stamp is kept in the transmit timestamp FIFO of a hoop, or lost when it is full (R418, R419). -/
def keepStamp (s : State) (h t : Nat) (w : StampFor) : State :=
  let p := Page.ts h
  let q := tabGet s.rs.tsf [] h
  if q.length < 512 then
    let s := { s with rs := { s.rs with tsf := tabPut s.rs.tsf [] h (q ++ [⟨w, t⟩]) } }
    let s := bump (wr s p Fld.HOP_TS_STAT_LEVEL (q.length + 1)) p 0 1
    if rd s p Fld.HOP_TS_STAT_HIGH < q.length + 1 then wr s p Fld.HOP_TS_STAT_HIGH (q.length + 1) else s
  else
    let s := { s with rs := { s.rs with tsLost := s.rs.tsLost ++ [w] } }
    stick (bump s p 1 1) p Fld.TS_STICKY_TSF_OVF

/-- The transmit timestamp FIFO of a hoop is emptied, and its completions are marked TS_LOST (R419). -/
def loseStamps (s : State) (h : Nat) : State :=
  let q := tabGet s.rs.tsf [] h
  let s := { s with rs := { s.rs with tsf := tabPut s.rs.tsf [] h [], tsLost := s.rs.tsLost ++ q.map (·.owner) } }
  wr s (.ts h) Fld.HOP_TS_STAT_LEVEL 0

/-- A stamp leaves the FIFO of a hoop. -/
def freeStamp (s : State) (h : Nat) (w : StampFor) : State :=
  let q := (tabGet s.rs.tsf [] h).eraseP (fun e => e.owner == w)
  wr { s with rs := { s.rs with tsf := tabPut s.rs.tsf [] h q } } (.ts h) Fld.HOP_TS_STAT_LEVEL q.length

/-- HOPS and SRC_MEMBER that a data frame carries on an Aladotra link (R447). -/
def aldHeader (s : State) (x : Frm) : Nat × Nat :=
  match x.ald with | some h => (h.1 + 1, h.2) | none => (1, ownMember s)

/-- TX_FRAME_COMPLETE (R345): the transmitter of a front port sends the last byte of its frame. A frame that
ended bad is stomped or ends with the tail-error bit (R355), an oversize frame is stomped (R162), and the
entry gives up its reference. -/
def execTxFrameComplete (n t : Nat) (errs : List MemErr) (s : State) : Host.Outcome State Fault Refusal :=
  let s := settle (errs.foldl rsxError (advance s t)) n
  match txOf s n with
  | none => .next s
  | some x =>
    let fr := frm s x.f
    if fr.state = 0 then .next s
    else
      let p := Page.mac n
      let bad := fr.state == 2
      let stomp := bad || fr.oversize
      let b := withFcs (egressBytes fr) stomp
      let s := if stomp then bump s p 17 1 else bump (bump s p 13 1) p 14 b.length
      let s := { s with rs := { s.rs with sent := tabPut s.rs.sent [] n b } }
      let s := if isAld s n then
          let hd := aldHeader s fr
          let s := bump (linkSend s n 1 hd.1 hd.2 0 b bad) p 33 1
          if bad then bump s .rsx 8 1 else s
        else if bad then bump s .rsx 7 1 else s
      let s := match fr.stamp with
        | some w => keepStamp (putFrm s x.f { fr with stamp := none }) (n / 32) (adjust x.start (txAdj s n)) w
        | none => s
      .next (cellsOut (ctlTry (qeCheck (dropRef (putTx s n none) x.f)) n) n)

end Sys2Proof.Machine
end

