-- ==== Sys2Proof/Machine/Fence.lean ====
section
/-! DEFINITION. The fence of a hoop (R515), the end of a hoop's entry attempt (R544), the wake of a hoop from H2
(R542) and the entry into D3 (R545). -/

namespace Sys2Proof.Machine

/-- Frames whose lookup is in progress in a hoop's pipeline are discarded; a host send among them completes
with STATUS 3. -/
def discardLookups (s : State) (h : Nat) : State :=
  (s.rs.frm.filter (fun e => e.2.used && e.2.hoop == h && e.2.stage == .lookup && e.2.state == 1)).foldl
    (fun s e => handOver s e.1) s

/-- The frame that a recirculation port's feed holds is discarded with those queued. -/
def dropTx (s : State) (p : Nat) : State :=
  match txOf s p with
  | some x => dropRef (putTx s p none) x.f
  | none => s

/-- Sends that hoop `h` would look up complete with STATUS 3 (R515). -/
def failSends (s : State) (h : Nat) : State :=
  let mark (x : Send) : Send := if x.hoop = some h then { x with fail := true, entered := true } else x
  { s with ndl := { s.ndl with tx := tabMap (fun _ => true) {} (fun e =>
      { e with sends := e.sends.map mark, old := e.old.filter (fun x => x.hoop != some h) }) s.ndl.tx } }

/-- The entry attempt that runs in a hoop. -/
def hoopEntry (s : State) (h : Nat) : Option HoopEntry := tabGet s.pwr.entry none h

/-- The same is set. -/
def putEntry (s : State) (h : Nat) (x : Option HoopEntry) : State :=
  { s with pwr := { s.pwr with entry := tabPut s.pwr.entry none h x } }

/-- Every lane of a hoop restarts acquisition (Table 4.4). -/
def restartLanes (s : State) (h : Nat) : State := (List.range 32).foldl (fun s i => laneRestart s (32 * h + i)) s

/-- An attempt of hoop `h` that had `agreed` blocks is recorded as ended by `code` (R544). -/
def recordRefusal (s : State) (h agreed code : Nat) : State :=
  let p := Page.hop h
  let s := wr s p Fld.HOP_PWR_STAT_LAST_REFUSER code
  let s := countSat s p Fld.HOP_PWR_CNT_REFUSALS
  let s := if agreed = 0 then s else countSat s p Fld.HOP_PWR_CNT_ABORTS
  stick s p Fld.HOP_STICKY_ENTRY_ABORT

/-- The attempt that runs in hoop `h` ends without completing (R544): the hoop runs again, and the ports that an H2
attempt took down restart acquisition. -/
def endEntry (s : State) (h code : Nat) : State :=
  match hoopEntry s h with
  | none => s
  | some e =>
    let s := recordRefusal (wr (putEntry s h none) (.hop h) Fld.HOP_PWR_STAT_STATE 0) h e.agreed code
    let s := { s with pwr := { s.pwr with idleFrom := tabPut s.pwr.idleFrom 0 h s.now } }
    if e.h2 then restartLanes s h else s

/-- Hoop `h` starts to leave H2, or an attempt ends, for wake source `code` (R542, R543); a fenced hoop stays down
(R554). -/
def wakeH2 (s : State) (h code : Nat) : State :=
  if hoopState s h = 2 ∧ !hoopFenced s h then
    wr (wr s (.hop h) Fld.HOP_PWR_STAT_LAST_WAKE code) (.hop h) Fld.HOP_PWR_STAT_STATE 4
  else s

/-- The device enters D3 (Table 17.5, steps 4b and 5); the pulse outputs stop (R428). -/
def d3Enter (s : State) : State :=
  if s.pwr.d3 = .ready then
    let s := { s with smp := { s.smp with pulse := tabMap (fun _ => true) {} (fun x => { x with fin := none, irig := [] }) s.smp.pulse }
                      pwr := { s.pwr with d3 := .asleep, seq := [],
                                          vset := (List.range 8).foldl (fun m p => tabInsert (tabErase m p) p 650) s.pwr.vset } }
    let s := wr (wr s .pwr Fld.PWR_LEVEL_STAT_BUSY 0) .pwr Fld.PWR_PAD_STAT_PAD_HELD 1
    bump s .pwr 4 1
  else s

/-- A hoop is fenced at its first cause (R512, R515). -/
def hoopFence (s : State) (h detail : Nat) : State :=
  if hoopFenced s h then s
  else
    let s := fenceUnit (scanSettle (endEntry s h 13) h) (.hop h) 1 detail
    let s := (List.range 32).foldl (fun s i => laneOff s (32 * h + i)) s
    let s := (List.range 32).foldl (fun s i => linkFall s (32 * h + i)) s
    let s := if h % 4 = 0 then flushPort (dropTx s (1032 + h / 4)) (1032 + h / 4) true else s
    let s := failSends (discardLookups s h) h
    let s := (List.range 16).foldl (fun s i => bobStop s (16 * h + i)) s
    loseStamps (sknLost s h) h

end Sys2Proof.Machine
end

