-- ==== Sys2Proof/Machine/Fuse.lean ====
section
/-! DEFINITION. What the fuses say: the life-cycle state, the counts of Table 18.5, the keys in force and debug access
(R558 to R562, R565, R568). -/

namespace Sys2Proof.Machine

/-- MOR_STATE.STATE: the highest transition bit burned names it (R558). -/
def morState (s : State) : Nat :=
  if bit s.mor.t 4 then 5 else if bit s.mor.t 3 then 4 else if bit s.mor.t 2 then 3
  else if bit s.mor.t 1 then 2 else if bit s.mor.t 0 then 1 else 0

/-- Role bits burned: ROLE0 is burned at manufacture but on KJ-SZ2048-W (Table 18.5). -/
def roleBits (s : State) : Nat := (if Config.variant = 1 then 0 else 1) + s.mor.role

/-- The manager-capable role fuse: an odd number of role bits is burned. -/
def roleFuse (s : State) : Bool := roleBits s % 2 == 1

/-- Role changes that remain; on KJ-SZ2048-W no role bit is ever burned. -/
def roleLeft (s : State) : Nat := if Config.variant = 1 then 0 else 4 - s.mor.role

/-- The hash in an owner key slot; the empty list where the slot is not programmed. -/
def keySlot (s : State) (k : Nat) : List Nat := tabGet s.mor.keys [] k

/-- Whether a slot is programmed. -/
def keyHeld (s : State) (k : Nat) : Bool := keySlot s k != []

/-- The owner key slot in force: the highest programmed slot without its revoke bit. -/
def keyInForce (s : State) : Option Nat :=
  ((List.range 9).reverse).find? (fun k => keyHeld s k && !tabGet s.mor.revoked false k)

/-- A hash of all ones is invalid and never matches a key (R560). -/
def allOnes : List Nat := List.replicate 12 0xFFFF_FFFF

/-- Whether a slot's hash can match a key. -/
def keyValid (k : List Nat) : Bool := k != [] && k != allOnes

/-- The hash of the owner key in force, where it can match one. -/
def ownerKey (s : State) : Option (List Nat) :=
  match keyInForce s with
  | some k => if keyValid (keySlot s k) then some (keySlot s k) else none
  | none => none

/-- Rotations that remain: slots 1 to 8 that are not programmed. -/
def keysLeft (s : State) : Nat := ((List.range 8).filter (fun k => !keyHeld s (k + 1))).length

/-- Slots programmed. -/
def keysUsed (s : State) : Nat := ((List.range 9).filter (keyHeld s)).length

/-- Lane fuse changes that remain. -/
def laneLeft (s : State) : Nat := 2 - s.mor.lanes.length

/-- MOR_COUNTS (Table 18.7). -/
def morCounts (s : State) : Nat :=
  s.mor.arb * 2 ^ 24 + keysLeft s * 2 ^ 20 + roleLeft s * 2 ^ 16 + laneLeft s * 2 ^ 14
    + (keyInForce s).getD 15 * 2 ^ 8 + sat 255 s.mor.log.length

/-- The byte of lane `l` in the newest lane generation; with none, the identity map (Table 18.5). -/
def fusedLane (s : State) (l : Nat) : Nat :=
  match s.mor.lanes.getLast? with
  | some g => g.getD l 0 % 256
  | none => 9 * (l % 8)

/-- Debug access is open (Table 18.2, R562). -/
def debugOpen (s : State) : Bool :=
  let m := morState s
  m == 0 || m == 1 || m == 5 || ((m == 2 || m == 4) && s.mor.grant)

/-- MOR_STATE (Table 18.7): DBG shows debug access that a grant opened (R562). -/
def morStateWord (s : State) : Nat := b2n (debugOpen s && s.mor.grant) * 2 ^ 8 + morState s

/-- GLB_MOR_NONCE: random, drawn anew after every request and at every reset (R563). -/
def morNonce (s : State) : Nat := trunc 32 (Config.free 12 s.mor.served)

end Sys2Proof.Machine
end

