-- ==== Sys2Proof/Machine/Switch.lean ====
section
/-! DEFINITION. A frame's way through the switch: the lookup in the ingress pipeline (R38, R39), the duplicate
check (R471), the enqueue, multicast replication, mirror copies and recirculation (chapter 11). -/

namespace Sys2Proof.Machine

/-! ### Duplicate discard (R470, R471) -/

/-- A valid pair entry that holds a front port: its number, MODE (true HSR) and whether the port is PORT_A. -/
def redPair (s : State) (port : Nat) : Option (Nat × Bool × Bool) :=
  if !cfgB s .red Fld.ALD_RED_CTRL_EN || 1024 ≤ port then none
  else (List.range 256).findSome? (fun i =>
    let w := word s .red 1 i
    if !bit w 31 then none
    else if bits w 10 0 = port then some (i, bit w 30, true)
    else if bits w 26 16 = port then some (i, bit w 30, false)
    else none)

/-- FORGET_MS in quarter ns. -/
def forget (s : State) : Nat := cfg s .red Fld.ALD_RED_CTRL_FORGET_MS * 4_000_000

/-- An entry of the duplicate table that has not expired. -/
def dupLive (s : State) (e : DupEnt) : Bool := decide (s.now ≤ e.time + forget s)

/-- The live entries of the duplicate table (ALD_RED_USED). -/
def dupUsed (s : State) : Nat := s.tm.dup.foldl (fun n e => n + (e.2.filter (dupLive s)).length) 0

/-- The sequence number of a frame on a pair port, with the LAN identifier of a PRP trailer, where it carries
the tag of the pair's kind. -/
def redTag (x : Frm) (hsr : Bool) : Option (Nat × Nat) :=
  let pr := x.res.parsed
  if hsr then (pr.st.hdrs.find? (fun h => h.kind == .hsr)).map (fun h => (be16 pr.head (h.pos + 2), 0))
  else if pr.prp then
    let i := x.bytes.length - 6
    some (be16 x.bytes i, bits (byteAt x.bytes (i + 2)) 7 4)
  else none

/-- The check itself: the state after, and whether the frame is a duplicate. -/
def dupFrame (s : State) (pair sa seq : Nat) : State × Bool :=
  let s := bump s .red 0 1
  let b := crc32c (beBytes 1 pair ++ beBytes 6 sa ++ beBytes 2 seq) % 16384
  let live := (tabGet s.tm.dup [] b).filter (dupLive s)
  let put (s : State) (es : List DupEnt) : State := { s with tm := { s.tm with dup := tabPut s.tm.dup [] b es } }
  if live.any (fun e => e.pair == pair && e.sa == sa && e.seq == seq) then (bump s .red 1 1, true)
  else if live.length < 4 then (put s (live ++ [⟨pair, sa, seq, s.now⟩]), false)
  else (stick (bump s .red 2 1) .red Fld.RED_STICKY_TABLE_FULL, false)

/-- The duplicate check of frame `f` (R471). -/
def dupCheck (s : State) (f : Nat) : State × Bool :=
  let x := frm s f
  match redPair s x.inPort with
  | none => (s, false)
  | some (i, hsr, isA) =>
    match redTag x hsr with
    | none => (bump s .red 4 1, false)
    | some (seq, lan) =>
      let s := if !hsr && lan != (if isA then 0xA else 0xB) then
          stick (bump s .red 3 1) .red Fld.RED_STICKY_WRONG_LAN
        else s
      dupFrame s i (beNat (slice x.bytes 6 6)) seq

/-! ### The lookup (R38, R39, R65) -/

/-- The domain page that traps a frame received on a front port (R422). -/
def ptpPage (s : State) (port : Nat) (bytes : List Nat) (pr : Parsed) : Option Nat :=
  match viewEth (viewHdrs pr false) with
  | none => none
  | some (e, tags) =>
    let last := (tags.getLast?).getD e
    let dom := byteAt bytes (last.pos + last.len + 4)
    if 1024 ≤ port || 2 < tags.length || tags.any (fun h => h.kind != .vlan) || etherTypeOf pr.head last != 0x88F7
    then none
    else [0, 1].find? (fun j =>
      cfgB s (.ptp j) Fld.SMP_PTP_CFG_EN && cfg s (.ptp j) Fld.SMP_PTP_CFG_DOMAIN_NUM == dom
        && bit (word s (.ptp j) 1 port) 0)

/-- The class of a frame that is trapped (R422). -/
def ptpTrap (s : State) (port : Nat) (bytes : List Nat) (pr : Parsed) : Option Nat :=
  (ptpPage s port bytes pr).map (fun j => cfg s (.ptp j) Fld.SMP_PTP_CFG_TRAP_CLASS)

/-- Where the classifier and the Filet send a frame that no bobbin and no flow action takes. -/
def plainDest (c : ClsResult) (d : FilDest) : FDest :=
  if c.disp = 2 then .port c.target
  else match d with
    | .port n => .port n
    | .group g => .group g
    | .flood g => .flood g
    | .hairpin => .none
    | .drop => .none

/-- The final destination (Tables 7.7 and 9.4); `d` names the bobbin of a frame under BOB_SEL 16. -/
def finalDest (h : Nat) (c : ClsResult) (fd : FilDest) (sk : SkResult) (d : Nat) : FDest :=
  if c.disp = 1 then .none
  else if c.disp = 3 then .bobbin (16 * h + (if c.bobSel = 16 then d % 16 else c.bobSel % 16)) c.handler 0
  else match sk.dest with
    | .keep => plainDest c fd
    | .drop => .none
    | .port n => .port n
    | .bobbin b n => .bobbin b n 1

/-- The policers of a lookup: the rule's, then the flow's if the first did not discard the frame; a frame built by NEW
charges none (R392). -/
def lookupPolice (s : State) (built : Bool) (len : Nat) (c : ClsResult) (sk : SkResult) : State × Bool :=
  if built then (s, false)
  else
    let r := match c.policer with
      | some i => if c.disp = 1 then (s, false) else polFrame s i len
      | none => (s, false)
    match sk.policer with
    | some i => if r.2 then r else polFrame r.1 i len
    | none => r

/-- The lookup of frame `x`, of `len` bytes from DA to FCS, with bytes `b` as far as the lookup reads them. -/
def lookupFrame (s : State) (x : Frm) (len : Nat) (b : List Nat) : State × LookupRes :=
  let h := x.hoop
  let port := x.inPort
  let epoch := s.epoch % 65536
  let front := decide (port < 1024)
  let prp := (redPair s port).any (fun r => !r.2.1)
  let (s, pr) := parseIn s h (if front then some (port % 32) else none) prp b
  let trap := ptpTrap s port b pr
  let (s, c) := classify s (h / 4) port len pr
  let learns := trap.isNone && !(isAld s port && lstate s port == 5)
  let (s, fd) := filLookup s h port x.arrival pr front learns c.disp
  let base : LookupRes := { epoch := epoch, hoop := h, parsed := pr, cls := c, fil := fd }
  match trap with
  | some k => (s, { base with tclass := k, dest := .port 1031 })
  | none =>
    let (s, sk) := skeinLookup s h port c.profile len x.arrival pr c.disp fd
    let (s, drop) := lookupPolice s x.built len c sk
    (s, { base with sk := sk, polDrop := drop, tclass := c.cls
                    dest := finalDest h c fd sk (selDigest s h port c.profile pr) })

/-- A memory error met by a lookup in hoop `h`; an error of the pipeline fences the hoop (Table 16.2). -/
def lookupErr (h : Nat) (s : State) (e : MemErr) : State :=
  match e with
  | .context i uncorr => if uncorr then ctxUncorr s h i else bump s (.skn h) 31 1
  | .skeinEntry n i => sknEntryUncorr s h n i
  | .pipeline st => hoopFence s h (if st then 2 else 1)
  | _ => polError (rsxError (memError h s e) e) e

/-- Whether the bytes that the lookup of a frame in reception reads have come: its first 256 bytes, its own scan
window, and its tail where a PRP trailer is looked for (R179, R192, R198). A MAC control frame is never forwarded, so none
in reception is looked up (R159). -/
def lookupReady (s : State) (x : Frm) (len : Nat) (pr : Parsed) : Bool :=
  x.state == 1 ||
    (decide (64 ≤ len) && decide (min 256 (len - 4) ≤ x.bytes.length)
      && !(redPair s x.inPort).any (fun r => !r.2.1)
      && (x.ald.isSome || be16 x.bytes 12 != 0x8808)
      && (!pr.inspected || decide (pr.win ≤ x.bytes.length)))

/-- A frame that entered the same input before `x` still awaits its lookup (R171, R349). -/
def lookupBehind (s : State) (x : Frm) : Bool :=
  s.rs.frm.any (fun e => e.2.used && e.2.inPort == x.inPort && e.2.stage == .lookup && e.2.state != 2
    && decide (e.2.serial < x.serial))

/-- INGRESS_LOOKUP (R38, R39): the ingress pipeline of its hoop looks up frame `f` at time `t`, the frames of one input in
the order in which they entered. `len` gives L of a
frame still in reception; the errors are those that the memories on the way show. -/
def execIngressLookup (f t : Nat) (len : Option Nat) (errs : List MemErr) (s : State) :
    Host.Outcome State Fault Refusal :=
  let s0 := advance s t
  let x := frm s f
  let n := if x.state = 0 then len.getD 0 else x.bytes.length + 4
  if !x.used || x.stage != .lookup || x.state == 2 || domainOff s (.prk x.hoop) || lookupBehind s x then .next s
  else
    let s1 := errs.foldl (lookupErr x.hoop) s0
    if hoopFenced s1 x.hoop || !(frm s1 f).used || (frm s1 f).state == 2 then .next s1
    else
      let b := x.bytes ++ List.replicate (n - 4 - x.bytes.length) 0
      let r := lookupFrame s1 x n b
      if lookupReady s x n r.2.parsed then
        .next (exempt (putFrm r.1 f { frm r.1 f with stage := .result, res := r.2, len := len }) f)
      else .next s

/-! ### The enqueue (R349, R365, R394) -/

/-- A frame that is discarded at the enqueue: while it is in reception, its receiver frees what is stored. -/
def discardFrm (s : State) (f : Nat) : State :=
  let x := frm s f
  let s := putFrm s f { x with stage := .queued }
  if x.state = 0 ∧ x.refs ≤ 1 then
    match rxOf s x.inPort with
    | some r => dropRef (putRx s x.inPort (some { r with f := none, lost := true })) f
    | none => s
  else s

/-- A multicast frame of the same source and class still awaits replication (R349). -/
def behindMulticast (s : State) (x : Frm) : Bool :=
  s.rs.repl.any (fun g => (frm s g).src == x.src && (frm s g).res.tclass == x.res.tclass)

/-- Two destinations that may have an output in common, or the same bobbin. -/
def sharesDest (a b : FDest) : Bool :=
  match a, b with
  | .port m, .port n => m == n
  | .bobbin m _ _, .bobbin n _ _ => m == n
  | .bobbin _ _ _, _ | _, .bobbin _ _ _ | .none, _ | _, .none => false
  | _, _ => true

/-- An earlier frame of the same input, class and output, or for the same bobbin, still awaits its enqueue (R302, R349). -/
def enqueueBehind (s : State) (x : Frm) : Bool :=
  s.rs.frm.any (fun e => e.2.used && e.2.inPort == x.inPort && e.2.stage == .result && e.2.state != 2 && !e.2.res.polDrop
    && decide (e.2.serial < x.serial) && sharesDest e.2.res.dest x.res.dest
    && (e.2.res.tclass == x.res.tclass || (match x.res.dest with | .bobbin _ _ _ => true | _ => false)))

/-- Whether the frames before it are enqueued and the queue entries that a placing needs are free (R349, R363). -/
def placeRoom (s : State) (x : Frm) (extra : Nat) : Bool :=
  !behindMulticast s x && !enqueueBehind s x && decide (extra + (match x.res.dest with | .port _ => 1 | _ => 0) ≤ freeQe s)

/-- A frame goes to its destination: a queue, replication, a bobbin, or nowhere. -/
def placeFrm (s : State) (f : Nat) : State :=
  let x := frm s f
  let q := putFrm s f { x with stage := .queued }
  let m := addRef (putFrm s f { x with stage := .replicate }) f
  let m := { m with rs := { m.rs with repl := m.rs.repl ++ [f] } }
  match x.res.dest with
  | .none => q
  | .port n => enqPort q n x.res.tclass f
  | .group _ => m
  | .flood _ => m
  | .bobbin b _ _ => toBobbin q b f

/-- The mirror entry that a lookup selects (R365). -/
def mirrorEntry (s : State) (f : Nat) : State :=
  let x := frm s f
  match x.res.cls.mirror with
  | none => s
  | some k =>
    let p := Page.mir k
    if cfg s p Fld.RSX_MIR_CTRL_MODE = 0 ∨ cfg s p Fld.RSX_MIR_QLIMIT_QLIMIT ≤ portEntries s (1040 + k) then
      stick (bump s p 2 1) p Fld.MIR_STICKY_MIR_SKIP
    else
      let q := 8 * (1040 + k) + x.res.tclass
      bump (qeCheck (addRef (putQueue s q (queueOf s q ++ [⟨f, none⟩])) f)) p 0 1

/-- ENQUEUE (R38, R349, R365, R394, R471): the lookup result of frame `f` reaches the Reseau. -/
def execEnqueue (f t : Nat) (s : State) : Host.Outcome State Fault Refusal :=
  let x := frm s f
  if !x.used || x.stage != .result || x.state == 2 || !placeRoom s x (b2n x.res.cls.mirror.isSome) then .next s
  else
    let d := dupCheck (advance s t) f
    let s := mirrorEntry d.1 f
    let s := if d.2 || x.res.polDrop || x.res.dest == .none then discardFrm s f else placeFrm s f
    .next (if x.state = 1 then handOver s f else s)

/-! ### Multicast (R351 to R353) -/

/-- Whether group `g` is valid in force; an entry in error is not (R372). -/
def groupValid (s : State) (g : Nat) : Bool :=
  decide (g < 16384) && bit (word s .rsx 3 (34 * g)) 31 && !eccBad s .rsx 3 g

/-- The member ports of a group, rising. -/
def groupMembers (s : State) (g : Nat) : List Nat :=
  (List.range 33).flatMap (fun i => (setBitsOf 32 (word s .rsx 3 (34 * g + 1 + i))).map (32 * i + ·))

/-- A port that takes a copy of a frame from `inPort` (R352, R447). -/
def takesCopy (s : State) (inPort g : Nat) (flood : Bool) (p : Nat) : Bool :=
  !(p == inPort && (flood || !bit (word s .rsx 3 (34 * g)) 30))
    && (decide (1024 ≤ p) || (portEnabled s p && !(isAld s p && lstate s p == 5)))

/-- The group of a frame, and whether it is flooded. -/
def groupOf (x : Frm) : Nat × Bool :=
  match x.res.dest with
  | .group g => (g, false)
  | .flood g => (g, true)
  | _ => (0, false)

/-- The copies of frame `f` go to the ports `ps` in turn while the pool has free entries; the ports that are left. -/
def copyTo (f c : Nat) : List Nat → State → State × List Nat
  | [], s => (s, [])
  | p :: ps, s => if freeQe s = 0 then (s, p :: ps) else copyTo f c ps (bump (enqPort s p c f) .rsx 4 1)

/-- The replication of frame `f` ends: the replicator gives up its reference. -/
def replicated (s : State) (f : Nat) : State :=
  dropRef (putFrm { s with rs := { s.rs with repl := s.rs.repl.erase f } } f
    { frm s f with stage := .queued, copies := none }) f

/-- The copies of a frame are made, or those for which the pool has entries (R353). -/
def makeCopies (s : State) (f : Nat) (ps : List Nat) : State :=
  let r := copyTo f (frm s f).res.tclass ps s
  if r.2.isEmpty then replicated r.1 f else putFrm r.1 f { frm r.1 f with copies := some r.2 }

/-- MC_REPLICATE (R352, R353): the oldest multicast frame of a source is replicated, or goes on where the pool had no
free entry; the errors are those met in the group table (R372). The members are those at its start. -/
def execMcReplicate (src : Nat) (errs : List MemErr) (s : State) : Host.Outcome State Fault Refusal :=
  let s := errs.foldl rsxError s
  .next (match s.rs.repl.find? (fun f => (frm s f).src == src) with
    | none => s
    | some f =>
      let x := frm s f
      match x.copies with
      | some ps => makeCopies s f ps
      | none =>
        let (g, flood) := groupOf x
        let ps := (groupMembers s g).filter (takesCopy s x.inPort g flood)
        if !groupValid s g then replicated (stick (bump s .rsx 6 1) .rsx Fld.RSX_STICKY_GROUP_INVALID) f
        else if freeQe s = 0 && !ps.isEmpty then s
        else
          let s := bump s .rsx 3 1
          makeCopies (if ps.isEmpty then bump s .rsx 5 1 else s) f ps)

/-! ### Mirror copies (R366, R367) -/

/-- The header of a GRE copy of `k` mirrored bytes (Table 11.6); `id` is its identification. -/
def greHeader (s : State) (e k id : Nat) : List Nat :=
  let p := Page.mir e
  let mac (hi lo : Field) : List Nat := beBytes 6 (cfg s p hi * 2 ^ 32 + cfg s p lo)
  let vlan := if cfgB s p Fld.RSX_MIR_VLAN_VLAN_EN then beBytes 2 0x8100 ++ beBytes 2 (cfg s p Fld.RSX_MIR_VLAN_TCI) else []
  let ip (sum : Nat) : List Nat :=
    [0x45, cfg s p Fld.RSX_MIR_IP_CFG_DSCP * 4] ++ beBytes 2 (24 + k) ++ beBytes 2 (id % 65536) ++ beBytes 2 0x4000
      ++ [cfg s p Fld.RSX_MIR_IP_CFG_TTL, 47] ++ beBytes 2 sum
      ++ beBytes 4 (cfg s p Fld.RSX_MIR_IP_SRC_SRC) ++ beBytes 4 (cfg s p Fld.RSX_MIR_IP_DST_DST)
  let sum := 65535 - (words16 (ip 0)).foldl onesAdd 0
  mac Fld.RSX_MIR_DA_HI_DA Fld.RSX_MIR_DA_LO_DA ++ mac Fld.RSX_MIR_SA_HI_SA Fld.RSX_MIR_SA_LO_SA ++ vlan
    ++ beBytes 2 0x0800 ++ ip sum ++ beBytes 2 0 ++ beBytes 2 (cfg s p Fld.RSX_MIR_IP_CFG_GRE_PROTO)

/-- The bytes that a copy keeps of a frame (R366). -/
def mirrorKeep (s : State) (e n : Nat) : Nat :=
  let p := Page.mir e
  let tr := cfg s p Fld.RSX_MIR_CTRL_TRUNC
  let k := if tr ≠ 0 ∧ tr < n then tr else n
  let hdr := if cfg s p Fld.RSX_MIR_CTRL_MODE = 2 then (if cfgB s p Fld.RSX_MIR_VLAN_VLAN_EN then 42 else 38) else 0
  min k (16380 - hdr)

/-- The bytes of a copy before its FCS. -/
def mirrorBytes (s : State) (e : Nat) (b : List Nat) : List Nat :=
  let k := mirrorKeep s e b.length
  if cfg s (.mir e) Fld.RSX_MIR_CTRL_MODE = 2 then greHeader s e k (tabGet s.rs.mirId 0 e) ++ b.take k
  else b.take k ++ List.replicate (60 - k) 0

/-- MIRROR_COPY (R366, R367): engine `k` copies the frame that it has taken from its queue, or skips it. -/
def execMirrorCopy (k t : Nat) (s : State) : Host.Outcome State Fault Refusal :=
  let s0 := advance s t
  let p := Page.mir k
  match txOf s (1040 + k) with
  | none => .next s
  | some x =>
    let fr := frm s x.f
    let done (s : State) : State := qeCheck (dropRef (putTx s (1040 + k) none) x.f)
    if fr.state = 0 then .next s
    else if fr.state = 2 then .next (done (bump s0 p 3 1))
    else if cfg s p Fld.RSX_MIR_CTRL_MODE = 0 then
      .next (done (stick (bump s0 p 2 1) p Fld.MIR_STICKY_MIR_SKIP))
    else if freeQe s = 0 then .next s
    else
      let cls := cfg s p Fld.RSX_MIR_CTRL_CLASS
      let dest := cfg s p Fld.RSX_MIR_CTRL_DEST
      let b := mirrorBytes s k fr.bytes
      let y : Frm := { bytes := b, inPort := 1040 + k, arrival := s0.now, stitch := s.stitch, stage := .queued
                       res := { epoch := s.epoch % 65536, dest := .port dest, tclass := cls } }
      match openFrame s0 (1040 + k) cls y with
      | (s, none) => .next s
      | (s, some f) =>
        let s := handOver (enqPort s dest cls f) f
        let s := { s with rs := { s.rs with mirId := tabPut s.rs.mirId 0 k ((tabGet s.rs.mirId 0 k + 1) % 65536) } }
        let s := bump (bump s p 1 1) p 5 (b.length + 4)
        .next (done (if mirrorKeep s k fr.bytes.length < fr.bytes.length then bump s p 4 1 else s))

/-! ### Recirculation (R350) -/

/-- RECIRC_FEED (R350): the frame taken from the queues of port 1032 + `p` enters the ingress of hoop 4p in new
cells, and its old reference is given up. It enters with the rewrite of its first pass (R65, R274), DEDUCED. -/
def execRecircFeed (p t : Nat) (s : State) : Host.Outcome State Fault Refusal :=
  let port := 1032 + p
  let s0 := advance s t
  match txOf s port with
  | none => .next s
  | some x =>
    let fr := frm s x.f
    let done (s : State) : State := qeCheck (dropRef (putTx s port none) x.f)
    if fr.state = 2 then .next (done (bump s0 .rsx 9 1))
    else if fr.state = 0 then .next s
    else if domainOff s (.prk (4 * p)) then .next (wakeH2 s (4 * p) 3)
    else
      let y : Frm := { bytes := egressBytes fr, inPort := port, hoop := 4 * p, arrival := s0.now, stitch := s.stitch
                       stage := .lookup, ald := fr.ald, built := fr.built }
      match openFrame s0 port x.cls y with
      | (s, none) => .next s
      | (s, some _) => .next (done s)

end Sys2Proof.Machine
end

