-- ==== Sys2Proof/Machine/Sampler.lean ====
section
/-! DEFINITION. The Sampler (chapter 13): channels and the voter, the servo and its hand-off points, PTP
domains, UTC and leaps, capture, pulse outputs and IRIG-B. -/

namespace Sys2Proof.Machine

/-! ### Commits that a change of time makes late (R49, R54, R78) -/

/-- A pending targeted commit of a group is cancelled and reported late when `late` holds for its target. -/
def lateGroup (late : Nat → Bool) (g : GroupSt) : GroupSt :=
  let hit (r : Option CommitReq) : Bool := match r with | some (.targeted n) => late n | _ => false
  let h1 := hit g.latched
  let h2 := hit g.req
  let g := { g with latched := if h1 then none else g.latched, req := if h2 then none else g.req }
  if h1 || h2 then
    if g.latched.isNone && g.req.isNone then { g with state := 3, seq := g.seq + 1 } else g
  else g

/-- Every pending targeted commit whose target is late is cancelled; COMMIT_LATE reports it (R49, R54, R78). -/
def cancelTargeted (s : State) (late : Nat → Bool) : State :=
  let gs := s.groups.map (fun e => (e.1, lateGroup late e.2))
  let s' := { s with groups := gs }
  stickIf (gs != s.groups) s' .stitch Fld.STITCH_STICKY_COMMIT_LATE

/-! ### Channels and the voter (R406 to R409) -/

/-- Bits `lo` up to `lo + n - 1` of the time status word. -/
def status (s : State) (lo n : Nat) : Nat := bits (rd s .tod Fld.SMP_TOD_STAT_STATUS) (lo + n - 1) lo

/-- Those bits are set. -/
def setStatus (s : State) (lo n v : Nat) : State :=
  wr s .tod Fld.SMP_TOD_STAT_STATUS (setBits (rd s .tod Fld.SMP_TOD_STAT_STATUS) lo n v)

/-- STATE of Table 13.2: 0 FREE, 1 ACQUIRING, 2 LOCKED, 3 HOLDOVER, 4 RESTORED. -/
def servo (s : State) : Nat := status s 0 3

/-- SOURCE: 0 none, 1 primary, 2 secondary, 3 Aladotra (R410). -/
def source (s : State) : Nat := status s 8 2

/-- A channel in the vote: neither fenced nor rejoining. -/
def chVoting (s : State) (i : Nat) : Bool := !fenced s (.ch i) && !rdB s (.ch i) Fld.SMP_CH_STAT_REJOIN

/-- The channels in the vote. -/
def voters (s : State) : List Nat := [0, 1, 2].filter (chVoting s)

/-- IN_VOTE is shown in the channel pages and the time status word. -/
def showVote (s : State) : State :=
  let s := [0, 1, 2].foldl (fun s i => wr s (.ch i) Fld.SMP_CH_STAT_IN_VOTE (b2n (chVoting s i))) s
  setStatus s 5 3 ((voters s).foldl (fun m i => m + 2 ^ i) 0)

/-- The counts of comparisons start again. -/
def clearCompares (s : State) : State := { s with smp := { s.smp with div := [], dev := [] } }

/-- A channel is fenced, unless it is the last in the vote (R408). -/
def chFence (s : State) (i detail : Nat) : State :=
  if fenced s (.ch i) || voters s == [i] then s
  else
    let s := wr (fenceUnit s (.ch i) 4 detail) (.ch i) Fld.SMP_CH_STAT_REJOIN 0
    let s := clearCompares { s with smp := { s.smp with rejoin := tabPut s.smp.rejoin 0 i 0 } }
    let s := stick (showVote s) .tod Fld.TOD_STICKY_CH_FENCED
    stickIf ((voters s).length == 1) s .tod Fld.TOD_STICKY_LAST_CHANNEL

/-- The unit of channel times within a quarter ns: that of FREQ and CH_TRIM, 1/1,024 ppb. -/
def chUnit : Nat := 1_024_000_000_000

/-- The time of channel `i` at its last edge. -/
def chTime (s : State) (i : Nat) : Nat := tabGet s.smp.chan 0 i

/-- It changes. -/
def putChTime (s : State) (i v : Nat) : State := { s with smp := { s.smp with chan := tabPut s.smp.chan 0 i v } }

/-- A channel is loaded with a time in quarter ns. -/
def loadChannel (t : Nat) (s : State) (i : Nat) : State := putChTime s i (t * chUnit)

/-- The common rate correction FREQ. -/
def freq (s : State) : Int := signed 32 (rd s .tod Fld.SMP_FREQ_FREQ)

/-- The signed TRIM of a channel. -/
def chTrim (s : State) (i : Nat) : Int := signed 32 (rd s (.ch i) Fld.SMP_CH_TRIM_TRIM)

/-- The median of the trims of the channels in the vote; of two, their mean. -/
def medianTrim (s : State) : Int :=
  match (voters s).map (chTrim s) with
  | [a] => a
  | [a, b] => (a + b) / 2
  | _ => 0

/-- RELEASE of a channel (R409): it has effect only when the input shows edges. -/
def chRelease (s : State) (i : Nat) : State :=
  if fenced s (.ch i) && rdB s (.ch i) Fld.SMP_CH_STAT_CLK_OK then
    let trim := medianTrim s
    let s := wr (unfence s (.ch i)) (.ch i) Fld.SMP_CH_STAT_REJOIN 1
    let s := wr (wr s (.ch i) Fld.SMP_CH_OFFSET_OFFSET 0) (.ch i) Fld.SMP_CH_TRIM_TRIM (unsigned 32 trim)
    let s := loadChannel s.now s i
    showVote { s with smp := { s.smp with rejoin := tabPut s.smp.rejoin 0 i 0 } }
  else s

/-- What a rising edge adds to a channel's time: one nominal period of its input, 100 ns at 10 MHz and 40 ns at 25 MHz,
under the common rate and the channel's own trim (R406). -/
def chStep (s : State) (i : Nat) : Nat :=
  let period : Nat := if rd s (.ch i) Fld.SMP_CH_STAT_OSC_MHZ = 25 then 160 else 400
  ((period : Int) * ((chUnit : Int) + freq s + chTrim s i)).toNat

/-- A channel counts the edges that its input has shown. -/
def chCount (edges : List (Nat × Nat)) (s : State) (i : Nat) : State :=
  putChTime s i (chTime s i + (edges.getD i (0, 0)).1 * chStep s i)

/-- The time of a channel in quarter ns, with what its interpolator gives since its last edge. -/
def chRead (s : State) (edges : List (Nat × Nat)) (i : Nat) : Nat := chTime s i / chUnit + (edges.getD i (0, 0)).2

/-- The times that the channels read at a comparison. -/
def chTimes (s : State) (edges : List (Nat × Nat)) : List Nat :=
  let s := [0, 1, 2].foldl (chCount edges) s
  [0, 1, 2].map (chRead s edges)

/-- The voted time of the times of the channels in the vote (R407). -/
def voted : List Nat → Option Nat
  | [a] => some a
  | [a, b] => some ((a + b) / 2)
  | [a, b, c] => some (max (min a b) (min (max a b) c))
  | _ => none

/-- CH_OFFSET of a channel, in quarter ns. -/
def chOffset (s : State) (i : Nat) : Int := signed 32 (rd s (.ch i) Fld.SMP_CH_OFFSET_OFFSET)

/-- DIV_THR of a channel in quarter ns. -/
def divThr (s : State) (i : Nat) : Int := (4 * cfg s (.ch i) Fld.SMP_CH_CFG_DIV_THR : Nat)

/-- One comparison of channel `i` counts as divergent or not; the departure from the trimmed rate adds up. -/
def noteDiv (s : State) (i : Nat) (far : Bool) (dev : Int) : State :=
  let x := s.smp
  if far then
    { s with smp := { x with div := tabPut x.div 0 i (tabGet x.div 0 i + 1), dev := tabPut x.dev 0 i (tabGet x.dev 0 i + dev) } }
  else { s with smp := { x with div := tabPut x.div 0 i 0, dev := tabPut x.dev 0 i 0 } }

/-- Whether a channel has been divergent for DIV_CNT comparisons. -/
def divDue (s : State) (i : Nat) : Bool :=
  decide (cfg s (.ch i) Fld.SMP_CH_CFG_DIV_CNT ≤ tabGet s.smp.div 0 i)

/-- The last offset measurement of the locked source: source minus voted time, in quarter ns. -/
def srcOffset (s : State) : Int :=
  if source s = 3 then s.smp.off3 else signed 64 (rd s (.ptp (source s - 1)) Fld.SMP_PTP_OFFSET_OFFSET)

/-- Which of two channels that differ is fenced (R408): the one farther from the locked source, without one the
one whose advance departs further from its trimmed rate, on equal terms the later letter. -/
def divLoser (s : State) (i j : Nat) : Nat :=
  let far (k : Nat) : Nat :=
    if servo s = 2 then (chOffset s k - srcOffset s).natAbs else (tabGet s.smp.dev 0 k).natAbs
  if far j < far i then i else j

/-- The comparison of the channels in the vote with each other and the voted time (R408). -/
def compareVote (s : State) (times : List Nat) (devs : List Int) : State :=
  match voters s with
  | [i, j] =>
    let d : Int := ((times.getD i 0 : Int) - times.getD j 0).natAbs
    let s := [i, j].foldl (fun s k => noteDiv s k (decide (divThr s k < d)) (devs.getD k 0)) s
    if divDue s i || divDue s j then chFence s (divLoser s i j) 2 else s
  | vs =>
    let s := vs.foldl (fun s k => noteDiv s k (decide (divThr s k < (chOffset s k).natAbs)) (devs.getD k 0)) s
    (vs.filter (divDue s)).foldl (fun s k => chFence s k 2) s

/-- A rejoining channel counts the comparisons at which it lies within DIV_THR / 2 (R409); at DIV_CNT divergent ones in a
row it is fenced (R408). -/
def compareRejoin (s : State) (i : Nat) : State :=
  if rdB s (.ch i) Fld.SMP_CH_STAT_REJOIN then
    let near := decide (2 * (chOffset s i).natAbs ≤ (divThr s i).natAbs)
    let n := if near then tabGet s.smp.rejoin 0 i + 1 else 0
    let s := { s with smp := { s.smp with rejoin := tabPut s.smp.rejoin 0 i n } }
    let s := noteDiv s i (decide (divThr s i < (chOffset s i).natAbs)) 0
    if divDue s i then chFence s i 2 else s
  else s

/-- The part of a trim that an offset of `off` quarter ns takes: the rate, in 1/1,024 ppb, that removes it with the time
constant of 10 s (R406). -/
def trimFor (off : Int) : Int := off * 128 / 5

/-- The voter moves the trim of a channel in the vote against the change of its offset since the comparison at `was`
(R406). -/
def trimChannel (was s : State) (i : Nat) : State :=
  wr s (.ch i) Fld.SMP_CH_TRIM_TRIM (satSigned 32 (chTrim s i + trimFor (chOffset was i) - trimFor (chOffset s i)))

/-- The rates that bear on the time from `t` on. -/
def ratesFrom (t : Nat) : List (Nat × Int) → List (Nat × Int)
  | a :: b :: r => if b.1 ≤ t then ratesFrom t (b :: r) else a :: b :: r
  | r => r

/-- The common rate takes a value; the last 10 s of it are remembered. -/
def setFreq (s : State) (v : Int) : State :=
  let s := wr s .tod Fld.SMP_FREQ_FREQ (satSigned 32 v)
  { s with smp := { s.smp with rates := ratesFrom (s.now - 40_000_000_000) (s.smp.rates ++ [(s.now, freq s)]) } }

/-- Rates weighted by how long each held from `t` on, up to `fin`. -/
def rateSum (t fin : Nat) : List (Nat × Int) → Int
  | [] => 0
  | [a] => a.2 * (fin - max t a.1 : Nat)
  | a :: b :: r => a.2 * (min fin b.1 - max t a.1 : Nat) + rateSum t fin (b :: r)

/-- The average of the common rate over the last 10 s, or as far back as it is known (Table 13.1). -/
def freqMean (s : State) : Int :=
  let t := max (s.now - 40_000_000_000) ((s.smp.rates.head?.map (·.1)).getD s.now)
  if s.now ≤ t then freq s else rateSum t s.now s.smp.rates / (s.now - t : Nat)

/-- The servo steers while it is LOCKED: FREQ departs from `hold`, the rate that would hold the offset constant, towards
the offset and by at most SLEW_PPB (R412). In every other state the rate stands (Table 13.1). -/
def steer (s : State) (hold : Int) : State :=
  if servo s = 2 then
    let d := draw s 9 32
    let slew := d.1 % (1024 * cfg s .tod Fld.SMP_SERVO_CFG_SLEW_PPB + 1)
    setFreq d.2 (hold + (srcOffset s).sign * slew)
  else s

/-- CH_OFFSET and CLK_OK of a channel at a comparison; DIVERGED where it lies beyond DIV_THR. -/
def compareChannel (times : List Nat) (ok : Nat) (s : State) (i : Nat) : State :=
  let s := wr s (.ch i) Fld.SMP_CH_STAT_CLK_OK (b2n (bit ok i))
  let s := wr s (.ch i) Fld.SMP_CH_OFFSET_OFFSET (satSigned 32 ((times.getD i 0 : Int) - s.now))
  stickIf (!fenced s (.ch i) && decide (divThr s i < (chOffset s i).natAbs)) s (.ch i) Fld.CH_STICKY_DIVERGED

/-- VOTE_COMPARE (R406, R407, R408): the channels count their edges, the voter forms the voted time and compares. The
operands are what the oscillators and the source give: for each channel the edges since the last comparison and the
quarter ns that its interpolator reads since the last of them, the departures from the trimmed rates, the rate
that would hold the offset of the source constant, the inputs that show edges, and the ledger with the error of AON_CLK
(R430). -/
def execVoteCompare (edges : List (Nat × Nat)) (devs : List Int) (hold : Int) (ok aon ppb : Nat) (s : State) :
    Host.Outcome State Fault Refusal :=
  let was := s
  let times := chTimes s edges
  let s := [0, 1, 2].foldl (chCount edges) s
  let s := match voted ((voters s).map (fun i => times.getD i 0)) with | some v => advance s v | none => s
  let s := [0, 1, 2].foldl (compareChannel times ok) (showVote s)
  let s := [0, 1, 2].foldl compareRejoin s
  let s := compareVote s times devs
  let s := steer ((voters s).foldl (trimChannel was) s) hold
  let s := if rd s .tod Fld.SMP_LEDGER_LEDGER < aon then wr s .tod Fld.SMP_LEDGER_LEDGER aon else s
  .next (wr s .tod Fld.SMP_AON_PPB_PPB ppb)

/-- CLOCK_LOST (R408, R409): a channel input shows no edge for four nominal periods. -/
def execClockLost (i : Nat) (s : State) : Host.Outcome State Fault Refusal :=
  let s := wr s (.ch i) Fld.SMP_CH_STAT_CLK_OK 0
  .next (chFence (stick s (.ch i) Fld.CH_STICKY_CLK_LOST) i 1)

/-- CHANNEL_REJOIN (R409): after 1,000,000 good comparisons a channel returns to the vote. -/
def execChannelRejoin (i : Nat) (s : State) : Host.Outcome State Fault Refusal :=
  .next (if rdB s (.ch i) Fld.SMP_CH_STAT_REJOIN ∧ 1_000_000 ≤ tabGet s.smp.rejoin 0 i then
      let s := { s with smp := { s.smp with rejoin := tabPut s.smp.rejoin 0 i 0 } }
      showVote (clearCompares (wr s (.ch i) Fld.SMP_CH_STAT_REJOIN 0))
    else s)

/-! ### TRACEABLE and UTC (R413, R424, R425) -/

/-- What is known of a domain beside its page. -/
def domOf (s : State) (j : Nat) : DomSt := tabGet s.smp.dom {} j

/-- That knowledge changes. -/
def putDom (s : State) (j : Nat) (x : DomSt) : State := { s with smp := { s.smp with dom := tabPut s.smp.dom {} j x } }

/-- STATE of a domain page: 3 is LOCKED. -/
def domState (s : State) (j : Nat) : Nat := rd s (.ptp j) Fld.SMP_PTP_STAT_STATE

/-- Whether TRACEABLE is 1 (R413): never while a debug chain is open (R562). -/
def traceNow (s : State) : Bool :=
  if debugOpen s then false
  else if servo s = 2 then
    if source s = 3 then s.smp.trace3
    else source s != 0 && (domOf s (source s - 1)).traceable
      && decide (rd s (.ptp (source s - 1)) Fld.SMP_PTP_STAT_GM_CLASS
          ≤ cfg s (.ptp (source s - 1)) Fld.SMP_PTP_CFG_CLASS_MAX)
  else if servo s = 3 then
    s.smp.holdAt.any (fun t => decide (s.now ≤ t + cfg s .tod Fld.SMP_SERVO_CFG_HOLD_TRACE_S * 4_000_000_000))
  else false

/-- TRACEABLE follows its cases, and every fall sets TRACE_LOST. -/
def showTrace (s : State) : State :=
  let c := traceNow s
  let was := traceable s
  stickIf (was && !c) (setStatus s 3 1 (b2n c)) .tod Fld.TOD_STICKY_TRACE_LOST

/-- U takes a value; the one before is remembered for frames that arrived under it (R272). -/
def putUtc (s : State) (v : Nat) : State :=
  let past := if rd s .tod Fld.SMP_UTC_OFFSET = v then s.smp.utcPast else s.smp.utcPast ++ [(s.now, utcOffset s)]
  wr { s with smp := { s.smp with utcPast := past } } .tod Fld.SMP_UTC_OFFSET v

/-- The UTC offset and the announcements in force (R424): a source that announces both leaps announces none. The
change instant is fixed when a leap is first announced (R425). -/
def setUtc (s : State) (sw : Bool) (u : UtcNews) : State :=
  let i := u.leap61 && !u.leap59
  let d := u.leap59 && !u.leap61
  let same := rdB s .tod Fld.SMP_UTC_LEAP61 == i && rdB s .tod Fld.SMP_UTC_LEAP59 == d && s.smp.leapAt.isSome
  let s := wr (wr s .tod Fld.SMP_UTC_FROM_SW (b2n sw)) .tod Fld.SMP_UTC_VALID (b2n u.valid)
  let s := wr (wr s .tod Fld.SMP_UTC_LEAP59 (b2n d)) .tod Fld.SMP_UTC_LEAP61 (b2n i)
  let s := putUtc s u.offset
  let s := setStatus (setStatus s 16 16 u.offset) 10 3 (b2n (i || d) + 2 * b2n d + 4 * b2n u.valid)
  { s with smp := { s.smp with leapAt :=
      if same then s.smp.leapAt else leapInstant s (s.now / 4_000_000_000) } }

/-- U is taken from the Announce messages of the active domain, unless SMP_UTC_SW overrides (R424). -/
def takeUtc (s : State) : State :=
  if cfgB s .tod Fld.SMP_UTC_SW_OVR ∨ source s = 0 ∨ source s = 3 then s
  else match (domOf s (source s - 1)).utc with
    | some u => setUtc s false u
    | none => s

/-- LEAP_APPLY (R425): at the change instant U changes, the announcement clears and LEAP_APPLIED is set. -/
def execLeapApply (t : Nat) (s : State) : Host.Outcome State Fault Refusal :=
  let s := advance s t
  .next (match s.smp.leapAt with
    | none => s
    | some c =>
      if s.now < c * 4_000_000_000 then s
      else
        let u := utcOffset s + (if rdB s .tod Fld.SMP_UTC_LEAP61 then 1 else -1)
        let s := setUtc s (rdB s .tod Fld.SMP_UTC_FROM_SW)
          { offset := unsigned 16 u, valid := rdB s .tod Fld.SMP_UTC_VALID, leap61 := false, leap59 := false }
        stick { s with leapLast := some c, smp := { s.smp with leapAt := none } } .tod Fld.TOD_STICKY_LEAP_APPLIED)

/-! ### The step at an acquisition (R49, R411) -/

/-- Every pulse output takes as its next edge the first one later than now (R428, R431). -/
def pulsesFromNow (s : State) : State :=
  { s with smp := { s.smp with pulse := (List.range 17).foldl (fun m i =>
      tabPut m {} i { tabGet m {} i with last := some s.now }) s.smp.pulse } }

/-- Times that measure durations move with the step, so that the durations stand: pause timers, shaper credits,
scan credits, the pending period, the time spent locked, idle times, throttles, interrupt timers. -/
def shiftTimers (s : State) (d : Int) : State :=
  let mv (t : Nat) : Nat := ((t : Int) + d).toNat
  let tm := { s.tm with
    port := s.tm.port.map (fun e => (e.1, { e.2 with credAt := mv e.2.credAt }))
    pause := s.tm.pause.map (fun e => (e.1, { e.2 with
      timer := e.2.timer.map (fun x => (x.1, ((x.2 : Int) + 100 * d).toNat))
      since := e.2.since.map (fun x => (x.1, mv x.2)), ignore := e.2.ignore.map (fun x => (x.1, mv x.2))
      txAt := mv e.2.txAt })) }
  let on (t : Nat) : Nat := if t = 0 then 0 else mv t
  let pwr := { s.pwr with
    thr := s.pwr.thr.map (fun e => (e.1, { e.2 with loweredAt := mv e.2.loweredAt, calmAt := on e.2.calmAt
                                                    coolAt := on e.2.coolAt, stepAt := mv e.2.stepAt }))
    h1At := s.pwr.h1At.map (fun e => (e.1, mv e.2)), idleFrom := s.pwr.idleFrom.map (fun e => (e.1, mv e.2)) }
  let ndl := { s.ndl with irq := s.ndl.irq.map (fun e => (e.1, { e.2 with first := e.2.first.map mv })) }
  let filt := s.learnFilt.map (fun e => (e.1, e.2.map (fun x => { x with at4 := mv x.at4 })))
  { s with tm := tm, pwr := pwr, ndl := ndl, learnFilt := filt, scan := s.scan.map (fun e => (e.1, { e.2 with at4 := mv e.2.at4 }))
           perReq := s.perReq.map (fun r => (r.1, mv r.2)), ald := { s.ald with alone := mv s.ald.alone }
           smp := { s.smp with
             dom := s.smp.dom.map (fun e => (e.1, { e.2 with lockAt := e.2.lockAt.map mv }))
             rates := s.smp.rates.map (fun e => (mv e.1, e.2)) } }

/-- The first boundary of the grid of R43 that lies at least 500 ns after now. -/
def firstBoundary (s : State) : Nat :=
  let p := 4 * periodNs s
  (s.now + 2000 + p - 1) / p * p

/-- A member of an Aladotra system: its stitch count follows the manager (R49, Table 14.5). -/
def aldMember (s : State) : Bool :=
  let m := rd s .ald Fld.ALD_STAT_MSTATE
  m == 3 || m == 4 || m == 5

/-- The re-base of R49: the count becomes T / P and every pending targeted commit is late. -/
def rebase (s : State) (count : Nat) : State := cancelTargeted { s with stitch := count } (fun _ => true)

/-- The grid after a step: where the step moves it, the stitch in progress is stretched and a close that had
passed is undone (R49). -/
def regrid (s : State) (d : Int) : State :=
  let mv (t : Nat) : Nat := ((t : Int) + d).toNat
  let moved := d % (4 * periodNs s : Nat) != 0
  let s := { s with bndAt := mv s.bndAt }
  if moved then
    let back := fun (g : GroupSt) => { g with latched := none, req := if g.req.isNone then g.latched else g.req }
    let s := { s with nextBnd := firstBoundary s, closed := false, groups := s.groups.map (fun e => (e.1, back e.2)) }
    stick s .stitch Fld.STITCH_STICKY_STITCH_REALIGN
  else { s with nextBnd := mv s.nextBnd }

/-- A channel in the vote or rejoining takes a step of `d` quarter ns (R411). -/
def stepChannel (d : Int) (s : State) (i : Nat) : State :=
  if fenced s (.ch i) then s else putChTime s i ((chTime s i : Int) + d * chUnit).toNat

/-- The step of R411 by `d` quarter ns. -/
def stepTime (s : State) (d : Int) : State :=
  let s := [0, 1, 2].foldl (stepChannel d) (shiftTimers { s with now := ((s.now : Int) + d).toNat } d)
  let s := countWrap s .tod Fld.SMP_STEP_SEQ_STEP_SEQ
  let s := wr s .tod Fld.SMP_LAST_STEP_STEP (unsigned 64 d)
  let s := regrid (pulsesFromNow (stick s .tod Fld.TOD_STICKY_STEPPED)) d
  let s := [0, 1].foldl (fun s j => wr s (.ptp j) Fld.SMP_PTP_OFFSET_OFFSET
    (unsigned 64 (signed 64 (rd s (.ptp j) Fld.SMP_PTP_OFFSET_OFFSET) - d))) s
  let s := { s with smp := { s.smp with off3 := s.smp.off3 - d } }
  if aldMember s then s else rebase s (nowNs s / periodNs s)

/-! ### The servo and its hand-off points (R410 to R414, Table 13.1) -/

/-- The device steers from beacons: a worker or standby that joins or has joined a system (R410). -/
def aldFollows (s : State) : Bool :=
  let m := rd s .ald Fld.ALD_STAT_MSTATE
  (m == 2 || aldMember s) && rd s .ald Fld.ALD_STAT_MGR != 1

/-- The servo state changes. -/
def setServo (s : State) (st src : Nat) : State := setStatus (setStatus s 0 3 st) 8 2 src

/-- The servo locks to a source; U comes from it. -/
def lockTo (s : State) (src : Nat) : State :=
  let s := setServo s 2 src
  showTrace (takeUtc { s with smp := { s.smp with active := src, holdAt := none, meas := 0 } })

/-- The active domain changes without a step (R414). -/
def switchTo (s : State) (src : Nat) : State :=
  stick (lockTo (setStatus s 4 1 1) src) .tod Fld.TOD_STICKY_SWITCHED

/-- HOLDOVER is entered: the rate stands at its average over the last 10 s, and TRACEABLE lasts for HOLD_TRACE_S where the
lock that is left was traceable. -/
def holdover (s : State) : State :=
  let was := traceable s
  let s := setFreq s (freqMean s)
  let s := setStatus (setServo s 3 0) 4 1 0
  let s := { s with smp := { s.smp with holdAt := if was then some s.now else none } }
  showTrace (stick s .tod Fld.TOD_STICKY_HOLDOVER)

/-- Whether the servo may steer from a PTP domain: its page is enabled, the preference is not none, and no
beacons steer (R410). -/
def domSteers (s : State) (j : Nat) : Bool :=
  cfgB s (.ptp j) Fld.SMP_PTP_CFG_EN && cfg s .tod Fld.SMP_TOD_CTRL_SRC_PREF != 0 && !aldFollows s && !s.smp.fwHold

/-- The other domain of a PTP source. -/
def otherSrc (src : Nat) : Nat := 3 - src

/-- Whether a switch to a PTP source may be made: the domain is LOCKED (R414). -/
def canSwitch (s : State) (src : Nat) : Bool :=
  (src == 1 || src == 2) && domSteers s (src - 1) && domState s (src - 1) == 3

/-- The steering source is lost (R410, R414). -/
def loseSource (s : State) : State :=
  if servo s = 2 then
    if source s ≠ 3 ∧ cfgB s .tod Fld.SMP_TOD_CTRL_AUTO_SWITCH ∧ canSwitch s (otherSrc (source s)) then
      switchTo s (otherSrc (source s))
    else holdover s
  else if servo s = 1 then
    let s := setServo s 0 0
    { s with smp := { s.smp with meas := 0 } }
  else s

/-- STATE of a domain page changes: leaving 3 sets LOCK_LOST, and the servo reacts where the domain steers. -/
def setDomState (s : State) (j v : Nat) : State :=
  let was := domState s j
  let s := wr s (.ptp j) Fld.SMP_PTP_STAT_STATE v
  let x := domOf s j
  let s := putDom s j { x with lockAt := if v = 3 then (if was = 3 then x.lockAt else some s.now) else none }
  let s := stickIf (was == 3 && v != 3) s (.ptp j) Fld.PTP_STICKY_LOCK_LOST
  if source s = j + 1 ∧ ((servo s = 2 ∧ v ≠ 3) ∨ (servo s = 1 ∧ v ≠ 2 ∧ v ≠ 3)) then loseSource s else s

/-- SERVO_ACQUIRE (R410, R411): with at least 8 offset measurements the servo steps once by the last of them and
locks. -/
def execServoAcquire (t : Nat) (s : State) : Host.Outcome State Fault Refusal :=
  let s := advance s t
  .next (if s.smp.meas < 8 ∨ s.smp.fwHold then s
    else if aldFollows s then
      if servo s ≤ 1 then lockTo (stepTime s s.smp.off3) 3 else s
    else if servo s = 1 ∧ source s ≠ 0 then
      let src := source s
      let s := stepTime s (srcOffset s)
      setDomState (lockTo s src) (src - 1) 3
    else s)

/-- SOURCE_LOST (R410, R414): source `src` is lost; the servo reacts where it steers. -/
def execSourceLost (src t : Nat) (s : State) : Host.Outcome State Fault Refusal :=
  let s := advance s t
  .next (if src = 1 ∨ src = 2 then
      if domState s (src - 1) = 0 then s else setDomState s (src - 1) 4
    else if src = 3 ∧ source s = 3 then loseSource s
    else s)

/-- SOURCE_REGAINED (Table 13.1): from HOLDOVER or RESTORED the servo locks to a source by rate only. -/
def execSourceRegained (src t : Nat) (s : State) : Host.Outcome State Fault Refusal :=
  let s := advance s t
  .next (if (servo s = 3 ∨ servo s = 4) ∧ !s.smp.fwHold then
      if src = 3 then (if aldFollows s then lockTo s 3 else s)
      else if canSwitch s src then
        if s.smp.active = otherSrc src then switchTo s src else lockTo s src
      else s
    else s)

/-- HOLDOVER_TRACE_EXPIRY (R413). -/
def execHoldoverTraceExpiry (t : Nat) (s : State) : Host.Outcome State Fault Refusal := .next (showTrace (advance s t))

/-- SWITCH_REQ (R414): a switch to the other domain, when it is LOCKED. -/
def execSwitchReq (t : Nat) (s : State) : Host.Outcome State Fault Refusal :=
  let s := advance s t
  .next (if servo s = 2 ∧ source s ≠ 3 ∧ canSwitch s (otherSrc (source s)) then switchTo s (otherSrc (source s)) else s)

/-- AUTO_REVERT (R414): the primary domain has stayed LOCKED for PRIM_HOLD_S seconds. -/
def execAutoRevert (t : Nat) (s : State) : Host.Outcome State Fault Refusal :=
  let s := advance s t
  let held := (domOf s 0).lockAt.any (fun a =>
    decide (a + cfg s .tod Fld.SMP_REVERT_PRIM_HOLD_S * 4_000_000_000 ≤ s.now))
  .next (if cfgB s .tod Fld.SMP_TOD_CTRL_AUTO_REVERT ∧ servo s = 2 ∧ source s = 2 ∧ held ∧ canSwitch s 1
    then switchTo s 1 else s)

/-- SWITCH_SETTLED (R414): the offset to the new domain, as its servo measures it, is below 1 ns. -/
def execSwitchSettled (off : Int) (s : State) : Host.Outcome State Fault Refusal :=
  .next (if status s 4 1 = 1 ∧ off.natAbs < 4 ∧ source s ≠ 0 ∧ source s ≠ 3 then
      setStatus (wr s (.ptp (source s - 1)) Fld.SMP_PTP_OFFSET_OFFSET (unsigned 64 off)) 4 1 0
    else s)

/-- REACQ (Table 13.1): the servo returns to FREE; a rate that was steered stands at its average over the last 10 s. -/
def execReacq (t : Nat) (s : State) : Host.Outcome State Fault Refusal :=
  let s := advance s t
  let s := if servo s = 2 then setFreq s (freqMean s) else s
  let s := setStatus (setServo s 0 0) 4 1 0
  .next (showTrace { s with smp := { s.smp with meas := 0, active := 0, holdAt := none } })

/-- LATCH (R404): the latch registers take the Sampler time. -/
def execLatch (t : Nat) (s : State) : Host.Outcome State Fault Refusal :=
  let s := advance s t
  let s := wr (wr s .tod Fld.SMP_LATCH_NS_QUARTER s.now) .tod Fld.SMP_LATCH_NS_NS (nowNs s % 1_000_000_000)
  let s := wr s .tod Fld.SMP_LATCH_SEC_SEC (nowNs s / 1_000_000_000)
  .next (countWrap s .tod Fld.SMP_LATCH_SEC_HI_LATCH_SEQ)

/-- REPLICA_REFRESH (R416, Table 16.2): a hoop that misses four consecutive refreshes is fenced; a sleeping hoop
takes none. -/
def execReplicaRefresh (t : Nat) (missed : List Nat) (s : State) : Host.Outcome State Fault Refusal :=
  .next ((List.range 32).foldl (fun s h =>
    let n := if missed.contains h ∧ !hoopAsleep s h then tabGet s.smp.miss 0 h + 1 else 0
    let s := { s with smp := { s.smp with miss := tabPut s.smp.miss 0 h n } }
    if 4 ≤ n then hoopFence s h 3 else s) (advance s t))

/-! ### The PTP clock (R422, R423) -/

/-- The Pillow takes the stamps kept for its messages of a domain; their entries are freed (R418). -/
def takeStamps (s : State) (j : Nat) : State :=
  let mine (w : StampFor) : Bool := match w with | .pillow i _ => i == j | _ => false
  let s := (tabKeys s.rs.tsf).foldl (fun s h =>
    let q := (tabGet s.rs.tsf [] h).filter (fun e => !mine e.owner)
    wr { s with rs := { s.rs with tsf := tabPut s.rs.tsf [] h q } } (.ts h) Fld.HOP_TS_STAT_LEVEL q.length) s
  { s with rs := { s.rs with tsLost := s.rs.tsLost.filter (fun w => !mine w) } }

/-- An offset measurement of a domain: the servo gathers it when it acquires from that domain. From FREE it takes
the preferred domain, or the other one while the preferred one is neither acquiring nor locked. -/
def gather (s : State) (j : Nat) : State :=
  let pref := cfg s .tod Fld.SMP_TOD_CTRL_SRC_PREF
  let prefUp := decide (2 ≤ domState s (pref - 1)) && decide (domState s (pref - 1) ≤ 3)
  if !domSteers s j then s
  else if servo s = 0 ∧ (pref = j + 1 ∨ !prefUp) then
    let s := setServo s 1 (j + 1)
    { s with smp := { s.smp with meas := 1 } }
  else if servo s = 1 ∧ source s = j + 1 then { s with smp := { s.smp with meas := s.smp.meas + 1 } }
  else s

/-- What the firmware concludes from a message reaches the page of the domain, the servo and U (R410, R413, R424). -/
def ptpNews (s : State) (j : Nat) (n : PtpNews) : State :=
  let p := Page.ptp j
  let s := stickIf (rd s p Fld.SMP_PTP_GM_GM != trunc 64 n.gm) s p Fld.PTP_STICKY_GM_CHANGED
  let s := wr (wr s p Fld.SMP_PTP_GM_GM n.gm) p Fld.SMP_PTP_STAT_GM_CLASS n.gmClass
  let s := wr (wr s p Fld.SMP_PTP_STAT_SLAVE_PORT n.slave) p Fld.SMP_PTP_MPD_MPD n.mpd
  let x := domOf s j
  let s := putDom s j { x with traceable := n.traceable, utc := if n.utc.isSome then n.utc else x.utc }
  let s := setDomState s j (if 1 ≤ n.state ∧ n.state ≤ 4 then n.state else domState s j)
  let s := match n.offset with
    | some o => gather (wr s p Fld.SMP_PTP_OFFSET_OFFSET (unsigned 64 o)) j
    | none => s
  showTrace (if source s = j + 1 then takeUtc s else s)

/-- PTP_MESSAGE_RX (R422, R423): the firmware copies the frame that Table 12.1 chooses on port 1031, of class `c`, out and
processes it for the domain that trapped it. -/
def execPtpMessageRx (j c t : Nat) (news : PtpNews) (s : State) : Host.Outcome State Fault Refusal :=
  let s := retag (takeStamps (advance s t) j) 1031
  .next (match readyHead s 1031 c with
    | none => s
    | some f =>
      let x := frm s f
      let page := ptpPage s x.inPort x.bytes x.res.parsed
      if chooseClass s 1031 ≠ some c ∨ s.smp.fwHold ∨ page = some (1 - j) then s
      else
        let s := countChosen (takeTag s 1031 c) 1031 c (frmLen x)
        let s := qeCheck (dropRef (unqueue s (8 * 1031 + c) f) f)
        if page = some j then ptpNews s j news else s)

/-- The PTP port of domain `j` uses the peer-to-peer delay mechanism (Table 13.4). -/
def ptpPeer (s : State) (j : Nat) : Bool := cfg s (.ptp j) Fld.SMP_PTP_CFG_PROFILE != 0

/-- The destination address of a message of kind `kind` on port `n` (Table 13.4): kinds 2, 3 and 10 are those of peer
delay. -/
def ptpAddr (s : State) (j n kind : Nat) : List Nat :=
  if (if ptpPeer s j then kind == 2 || kind == 3 || kind == 10 else bit (word s (.ptp j) 1 n) 2) then
    [0x01, 0x80, 0xC2, 0x00, 0x00, 0x0E]
  else [0x01, 0x1B, 0x19, 0x00, 0x00, 0x00]

/-- A message that the firmware of domain `j` sends on port `n` (R423, Table 13.4; IEEE 1588-2019 for the places in the
message): its address and EtherType, its kind, the domain's number, no kind of the other delay mechanism, Sync and
Pdelay_Resp in two steps, and the logarithmic intervals within their limits. -/
def ptpConforms (s : State) (j n kind : Nat) (b : List Nat) : Bool :=
  let log := signed 8 (byteAt b 47)
  slice b 0 6 == ptpAddr s j n kind && be16 b 12 == 0x88F7 && byteAt b 14 % 16 == kind
    && byteAt b 18 == cfg s (.ptp j) Fld.SMP_PTP_CFG_DOMAIN_NUM
    && (if ptpPeer s j then kind != 1 && kind != 9 else kind != 2 && kind != 3 && kind != 10)
    && ((kind != 0 && kind != 3) || bit (byteAt b 20) 1)
    && (kind != 0 || (decide (-4 ≤ log) && decide (log ≤ 0)))
    && (kind != 11 || (decide (-3 ≤ log) && decide (log ≤ 1)))

/-- PTP_MESSAGE_SEND (R422, R423): the firmware sends a PTP frame from port 1031 to a port of the domain, without
a lookup and with a kept transmit stamp. -/
def execPtpMessageSend (j n kind t : Nat) (b : List Nat) (s : State) : Host.Outcome State Fault Refusal :=
  let s := takeStamps (advance s t) j
  let c := cfg s (.ptp j) Fld.SMP_PTP_CFG_TRAP_CLASS
  let y : Frm := { bytes := b, inPort := 1031, arrival := s.now, stitch := s.stitch, stage := .queued
                   stamp := some (.pillow j kind)
                   res := { epoch := s.epoch % 65536, dest := .port n, tclass := c } }
  .next (if !cfgB s (.ptp j) Fld.SMP_PTP_CFG_EN || !bit (word s (.ptp j) 1 n) 0 || s.smp.fwHold
      || !ptpConforms s j n kind b || decide (b.length < 60) || decide (9212 < b.length) || freeQe s == 0 then s
    else match openFrame s 1031 c y with
      | (s, none) => s
      | (s, some f) => handOver (enqPort s n c f) f)

/-! ### Event capture (R421, R426) -/

/-- The FIFO in the order of its stamps, equal stamps by the lower input; SEQ rises along it. -/
def capInsert (q : List CapEnt) (e : CapEnt) : List CapEnt :=
  let r := insertBy (fun x => 32 * x.time + x.input) e q
  List.zipWith (fun x n => { x with seq := n }) r (q.map (·.seq) ++ [e.seq])

/-- The captured values of an input that wait to cross. -/
def capWaiting (s : State) (i : Nat) : Nat := (s.smp.capWait.filter (fun e => e.input == i)).length

/-- CAPTURE_EDGE (R426): an edge of an input crosses the balls at `t`. Its value waits to cross, unless eight values of the
input already do (R421). -/
def execCaptureEdge (i t : Nat) (rising : Bool) (s : State) : Host.Outcome State Fault Refusal :=
  let s := advance s t
  let on := bit (if rising then cfg s .cap Fld.SMP_CAP_RISE_RISE else cfg s .cap Fld.SMP_CAP_FALL_FALL) i
  let e : CapEnt := { seq := s.smp.capSeq, edge := rising, input := i
                      time := ((t : Int) - signed 16 (bits (word s .cap 2 i) 15 0)).toNat }
  .next (if !on then s
    else
      let s := { s with smp := { s.smp with capSeq := (s.smp.capSeq + 1) % 65536 } }
      if 8 ≤ capWaiting s i then stick (stick s .cap Fld.PAGE_HDR_STICKY_XING_SAT) .cap Fld.CAP_STICKY_CAP_LOST
      else { s with smp := { s.smp with capWait := s.smp.capWait ++ [e] } })

/-- The oldest captured value crosses into the FIFO, or finds it full (R421, R426). -/
def capCross (s : State) : State :=
  match s.smp.capWait with
  | [] => s
  | e :: es =>
    let s := { s with smp := { s.smp with capWait := es } }
    if 64 ≤ s.smp.cap.length then stick s .cap Fld.CAP_STICKY_CAP_OVF
    else
      let q := capInsert s.smp.cap e
      wr { s with smp := { s.smp with cap := q } } .cap Fld.SMP_CAP_LEVEL_LEVEL q.length

/-- The words of a capture entry (Table 13.5). -/
def capWords (e : CapEnt) : List Nat :=
  let ns := e.time / 4
  let sec := ns / 1_000_000_000
  [e.seq * 65536 + b2n e.edge * 32 + e.input, e.time % 4 * 2 ^ 30 + ns % 1_000_000_000, sec % 2 ^ 32,
    sec / 2 ^ 32 % 65536]

/-- The oldest capture leaves the FIFO. -/
def capPop (s : State) : State :=
  wr { s with smp := { s.smp with cap := s.smp.cap.drop 1 } } .cap Fld.SMP_CAP_LEVEL_LEVEL (s.smp.cap.length - 1)

/-! ### Pulse outputs and IRIG-B (R427 to R429) -/

/-- A word of the entry of an output (Table 13.11). -/
def pulseWord (s : State) (i w : Nat) : Nat := word s .pulse 1 (8 * i + w)

/-- MODE of an output. -/
def pulseMode (s : State) (i : Nat) : Nat := bits (pulseWord s i 0) 2 0

/-- START of an output in ns. -/
def pulseStart (s : State) (i : Nat) : Nat := pulseWord s i 3 + 2 ^ 32 * pulseWord s i 4

/-- The state of an output. -/
def pulseOf (s : State) (i : Nat) : PulseSt := tabGet s.smp.pulse {} i

/-- It changes. -/
def putPulse (s : State) (i : Nat) (x : PulseSt) : State :=
  { s with smp := { s.smp with pulse := tabPut s.smp.pulse {} i x } }

/-- The level of an output: its idle level is POL. -/
def pulseLevel (s : State) (i : Nat) : Bool := bit (pulseWord s i 0) 3 != (pulseOf s i).fin.isSome

/-- OUT_ADJ of an output in quarter ns: an edge leaves the ball that much before the time that it marks, so that it stands
there behind the board's delay (Table 13.11). -/
def outAdj (s : State) (i : Nat) : Int := signed 16 (bits (pulseWord s i 5) 15 0)

/-- Whether time `n` is that of a boundary, the last or the coming one, whose stitch count is a multiple of `d` (R427). -/
def pulseBoundary (s : State) (d n : Nat) : Bool :=
  d != 0 && ((n == s.bndAt && s.stitch % d == 0) || (n == s.nextBnd && (s.stitch + 1) % d == 0))

/-- Whether an output has an edge that leaves the ball at Sampler time `t` in quarter ns, and the width in ns of its pulse. -/
def pulseEdgeAt (s : State) (i t : Nat) : Option Nat :=
  let x := pulseOf s i
  let w := pulseWord s i 1
  let e := (t : Int) + outAdj s i
  let ns := e.toNat / 4
  if e < 0 ∨ e.toNat % 4 ≠ 0 ∨ x.last.any (fun l => decide (t ≤ l)) then none
  else match pulseMode s i with
    | 1 => if pulseStart s i ≤ ns ∧ 0 < pulseWord s i 2 ∧ (ns - pulseStart s i) % pulseWord s i 2 = 0 then some w else none
    | 2 => if ns = pulseStart s i then some w else none
    | 3 => if pulseBoundary s (bits (pulseWord s i 0) 31 16) e.toNat then some w else none
    | 4 =>
      let k := ns % 1_000_000_000 / 10_000_000
      if ns % 10_000_000 = 0 ∧ k ≠ 0 then
        (x.irig[k]?).map (fun y => if y = 0 then 2_000_000 else if y = 1 then 5_000_000 else 8_000_000)
      else none
    | _ => none

/-- The outputs run, which they do not in D3 (R428). -/
def pulsesRun (s : State) : Bool := decide (s.pwr.d3 ≠ .asleep)

/-- PULSE_EDGE (R427): an output reaches an edge of its entry and starts a pulse. -/
def execPulseEdge (i t : Nat) (s : State) : Host.Outcome State Fault Refusal :=
  let s := advance s t
  .next (match pulseEdgeAt s i t with
    | some w => if pulsesRun s then putPulse s i { pulseOf s i with last := some t, fin := some (t + 4 * w) } else s
    | none => s)

/-- PULSE_WIDTH_END (R427): a pulse ends WIDTH after its edge, whatever the entry holds by then (R428). -/
def execPulseWidthEnd (i t : Nat) (s : State) : Host.Outcome State Fault Refusal :=
  let s := advance s t
  .next (if (pulseOf s i).fin.any (fun e => decide (e ≤ t)) then putPulse s i { pulseOf s i with fin := none } else s)

/-- The day of a year and the year of a day since 1 January 1970. -/
def civil (days : Nat) : Nat × Nat :=
  let z := days + 719468
  let e := z % 146097
  let y := (e - e / 1460 + e / 36524 - e / 146096) / 365
  let d := e - (365 * y + y / 4 - y / 100)
  let year := y + z / 146097 * 400
  let leap := if year % 4 = 0 ∧ (year % 100 ≠ 0 ∨ year % 400 = 0) then 1 else 0
  if 306 ≤ d then (d - 305, year + 1) else (d + 60 + leap, year)

/-- Bits of a number, least significant first, as symbols. -/
def lsbBits (n x : Nat) : List Nat := (List.range n).map (fun i => x / 2 ^ i % 2)

/-- Two decimal digits as BCD with an empty bit between them. -/
def bcd2 (tens x : Nat) : List Nat := lsbBits 4 (x % 10) ++ [0] ++ lsbBits tens (x / 10)

/-- The time quality code (R429). -/
def irigQuality (s : State) (i : Nat) : Nat :=
  if !traceable s then 15 else if servo s = 2 then 0 else bits (pulseWord s i 5) 19 16

/-- The 100 symbols of an IRIG-B frame for Sampler second `sec` (R429, IRIG Standard 200). -/
def irigFrame (s : State) (i sec : Nat) : List Nat :=
  let w0 := pulseWord s i 0
  let tz := signed 8 (bits w0 15 8)
  let extra := rdB s .tod Fld.SMP_UTC_LEAP61 && s.smp.leapAt == some (sec + 1)
  let utc := ((sec : Int) - utcOffset s + (if bit w0 5 then tz * 900 else 0)).toNat
  let sod := utc % 86400
  let (doy, year) := civil (utc / 86400)
  let secs := if extra then 60 else sod % 60
  let sbs := if extra then sod + 1 else sod
  let near := s.smp.leapAt.any (fun c => decide (sec < c) && decide (c ≤ sec + 59))
  let q := irigQuality s i
  let off := tz.natAbs / 2
  let head := [2] ++ bcd2 3 secs ++ [2] ++ bcd2 3 (sod / 60 % 60) ++ [0, 2] ++ bcd2 2 (sod / 3600) ++ [0, 0, 2]
    ++ bcd2 4 (doy % 100) ++ [2] ++ lsbBits 2 (doy / 100) ++ [0, 0, 0, 0, 0, 0, 0, 2]
    ++ (if bit w0 4 then bcd2 4 (year % 100) else List.replicate 9 0) ++ [2]
  let ctl := [b2n near, b2n (near && rdB s .tod Fld.SMP_UTC_LEAP59), 0, 0, Config.irigSign (decide (tz < 0)) % 2]
    ++ lsbBits 4 (off / 2) ++ [2, off % 2] ++ lsbBits 4 q
  let ones := ((head ++ ctl).filter (· == 1)).length
  head ++ ctl ++ [Config.irigParity ones % 2, 0, 0, 0, 2] ++ lsbBits 9 sbs ++ [2] ++ lsbBits 8 (sbs / 512) ++ [0, 2]

/-- IRIG_B_SECOND (R429): at the start of a second an IRIG-B output starts a frame with its reference marker. -/
def execIrigBSecond (i t : Nat) (s : State) : Host.Outcome State Fault Refusal :=
  let s := advance s t
  let x := pulseOf s i
  let e := (t : Int) + outAdj s i
  .next (if !pulsesRun s ∨ pulseMode s i ≠ 4 ∨ e < 0 ∨ e.toNat % 4_000_000_000 ≠ 0 ∨ x.last.any (fun l => decide (t ≤ l)) then s
    else putPulse s i { last := some t, fin := some (t + 32_000_000), irig := irigFrame s i (e.toNat / 4_000_000_000) })

/-- HIGH starts again from the present level (R437). -/
def highClear (s : State) (h : Nat) : State := wr s (.ts h) Fld.HOP_TS_STAT_HIGH (rd s (.ts h) Fld.HOP_TS_STAT_LEVEL)

/-- HIGH_CLR (R437, R122). -/
def execHighClr (h : Nat) (s : State) : Host.Outcome State Fault Refusal :=
  .next (eventNow s (.ts h) Fld.HOP_TS_CTRL_HIGH_CLR (highClear · h))

/-! ### Commits of the Sampler pages (R428, R432 to R436) -/

/-- The rules of R432 that the latched values break. -/
def todLatchedBad (s : State) : Bool :=
  let slew := ltc s .tod Fld.SMP_SERVO_CFG_SLEW_PPB
  slew == 0 || decide (5000 < slew) || decide (3 ≤ ltc s .tod Fld.SMP_TOD_CTRL_SRC_PREF)
    || (ltc s .tod Fld.SMP_TOD_CTRL_AUTO_REVERT == 1 && ltc s .tod Fld.SMP_REVERT_PRIM_HOLD_S == 0)
    || (ltc s .tod Fld.SMP_UTC_SW_OVR == 1 && ltc s .tod Fld.SMP_UTC_SW_LEAP59 == 1
        && ltc s .tod Fld.SMP_UTC_SW_LEAP61 == 1)

/-- The rules of R433. -/
def chLatchedBad (s : State) (i : Nat) : Bool :=
  ltc s (.ch i) Fld.SMP_CH_CFG_DIV_THR == 0 || ltc s (.ch i) Fld.SMP_CH_CFG_DIV_CNT == 0

/-- The rules of R434; `get` reads a page's latched value where the page is due, else the value in force. -/
def ptpLatchedBad (s : State) (get : Page → Field → Nat) (j : Nat) : Bool :=
  let p := Page.ptp j
  let prof := ltc s p Fld.SMP_PTP_CFG_PROFILE
  let dom := ltc s p Fld.SMP_PTP_CFG_DOMAIN_NUM
  prof == 3 || (prof == 0 && (decide (dom < 24) || decide (43 < dom)))
    || decide (64 < ((entriesLatched s p 1).filter (fun n => bit (wordL s p 1 n) 0)).length)
    || (ltc s p Fld.SMP_PTP_CFG_EN == 1 && get (.ptp (1 - j)) Fld.SMP_PTP_CFG_EN == 1
        && get (.ptp (1 - j)) Fld.SMP_PTP_CFG_DOMAIN_NUM == dom)

/-- The rules of R435 for the latched entry of an output. -/
def pulseEntryBad (s : State) (i : Nat) : Bool :=
  let w0 := wordL s .pulse 1 (8 * i)
  let width := wordL s .pulse 1 (8 * i + 1)
  let per := wordL s .pulse 1 (8 * i + 2)
  match bits w0 2 0 with
  | 0 => false
  | 1 => decide (per < 8) || decide (width < 4) || decide (per < width + 4)
  | 2 => i == 16 || decide (width < 4)
  | 3 => i == 16 || decide (width < 4) || bits w0 31 16 == 0
  | 4 => i != 14 && i != 15
  | _ => true

/-- The rules of R435. -/
def pulseLatchedBad (s : State) : Bool := (List.range 17).any (pulseEntryBad s)

/-- The time-of-day page takes new settings: without a preference no PTP domain steers, and an override that is
new or has changed gives U (R410, R424). -/
def todApplied (old s : State) : State :=
  let sw (x : State) : List Nat := [cfg x .tod Fld.SMP_UTC_SW_OVR, cfg x .tod Fld.SMP_UTC_SW_OFFSET,
    cfg x .tod Fld.SMP_UTC_SW_LEAP61, cfg x .tod Fld.SMP_UTC_SW_LEAP59]
  let s := if cfg s .tod Fld.SMP_TOD_CTRL_SRC_PREF = 0 ∧ (source s = 1 ∨ source s = 2) then
      (if servo s = 2 then holdover s else loseSource s) else s
  let s := if sw old = sw s then s
    else if cfgB s .tod Fld.SMP_UTC_SW_OVR then
      setUtc s true { offset := cfg s .tod Fld.SMP_UTC_SW_OFFSET, valid := true
                      leap61 := cfgB s .tod Fld.SMP_UTC_SW_LEAP61, leap59 := cfgB s .tod Fld.SMP_UTC_SW_LEAP59 }
    else takeUtc (wr s .tod Fld.SMP_UTC_FROM_SW 0)
  showTrace s

/-- A domain page takes new settings: enabling starts in listening, disabling ends in 0. -/
def ptpApplied (old s : State) (j : Nat) : State :=
  let was := cfgB old (.ptp j) Fld.SMP_PTP_CFG_EN
  let on := cfgB s (.ptp j) Fld.SMP_PTP_CFG_EN
  showTrace (if was == on then s else setDomState s j (b2n on))

/-- The pulse page takes new entries (R428). -/
def pulseApplied (old s : State) : State :=
  (List.range 17).foldl (fun s i =>
    if words old .pulse 1 (8 * i) 8 = words s .pulse 1 (8 * i) 8 then s
    else
      let late := pulseMode s i == 2 && decide (4 * pulseStart s i ≤ s.now)
      let x := pulseOf s i
      let s := putPulse s i { x with last := some (if pulseMode s i = 3 then s.now - 1 else s.now), irig := [] }
      stickIf late s .pulse Fld.PULSE_STICKY_LATE_ONESHOT) s

end Sys2Proof.Machine
end

