-- ==== Sys2Proof/Machine/Aladotra.lean ====
section
/-! DEFINITION. Aladotra systems (chapter 14): links, delays, beacons and the tree, joining and leaving, system
commits, resynchronisation, and the loss and change of the active manager. -/

namespace Sys2Proof.Machine

/-! ### Fields and lists -/

/-- MSTATE: 0 OFF, 1 LISTEN, 2 JOINING, 3 SYNCING, 4 MEMBER, 5 LEAVING, 6 ISOLATED. -/
def mstate (s : State) : Nat := rd s .ald Fld.ALD_STAT_MSTATE

/-- MSTATE changes. -/
def setMstate (s : State) (v : Nat) : State := wr s .ald Fld.ALD_STAT_MSTATE v

/-- MGR: 0 not capable, 1 active, 2 standby, 3 reserve. -/
def mgrPos (s : State) : Nat := rd s .ald Fld.ALD_STAT_MGR

/-- The active manager of the system. -/
def isManager (s : State) : Bool := mgrPos s == 1

/-- LAST of ALD_CID. -/
def lastCid (s : State) : Nat := rd s .ald Fld.ALD_CID_LAST

/-- The total lag Λ of this device (R452). -/
def totalLag (s : State) : Nat := rd s .ald Fld.ALD_TREE_LAG

/-- The parent link, where there is one. -/
def parentPort (s : State) : Option Nat :=
  let n := rd s .ald Fld.ALD_TREE_PARENT_PORT
  if n < 1024 then some n else none

/-- The lead of a system commit (Table 2.3): 0 and 1 are treated as 2. -/
def sysLead (s : State) : Nat := max 2 (cfg s .stitch Fld.SMP_SYS_LEAD_LEAD)

/-- The Aladotra links that are not DOWN, by port. -/
def aldLinks (s : State) : List Nat :=
  s.reg.filterMap (fun e =>
    match pageOf (keyBase e.1) with
    | some (.mac n) => if e.1 = fieldKey (.mac n) Fld.MAC_ALD_STAT_LSTATE then some n else none
    | _ => none)

/-- The links whose state satisfies `p`. -/
def linksIn (s : State) (p : Nat → Bool) : List Nat := (aldLinks s).filter (fun n => p (lstate s n))

/-- The links of states 2 to 5. -/
def treeLinks (s : State) : List Nat := linksIn s (fun x => decide (2 ≤ x) && decide (x ≤ 5))

/-- A member of the table. -/
def memberOf (s : State) (m : Nat) : Member := tabGet s.ald.member {} m

/-- It changes. -/
def putMember (s : State) (m : Nat) (x : Member) : State :=
  { s with ald := { s.ald with member := tabPut s.ald.member {} m x } }

/-- The members present (R458): neither absent nor still joining. -/
def presentMembers (s : State) : List Nat :=
  tabKeys (s.ald.member.filter (fun e => e.2.state == 2 || e.2.state == 3 || e.2.state == 5))

/-- MAXLAG: the largest Λ of the present members (R459). -/
def maxLagNow (s : State) : Nat := (presentMembers s).foldl (fun n m => max n (memberOf s m).lag) 0

/-- ALD_TREE shows MAXLAG on the active manager. -/
def showMaxLag (s : State) : State := wr s .ald Fld.ALD_TREE_MAXLAG (if isManager s then maxLagNow s else 0)

/-- The pending system commits, and the CID of the earliest one in ALD_CID. -/
def setPend (s : State) (ps : List SysCommit) : State :=
  let first := ps.foldl (fun (o : Option SysCommit) c =>
    match o with | some d => if c.target < d.target then some c else o | none => some c) none
  wr { s with ald := { s.ald with pend := ps } } .ald Fld.ALD_CID_PEND ((first.map (·.cid)).getD 0)

/-- Whether a page belongs to SYNC_GROUP. -/
def inSyncGroup (s : State) (p : Page) : Bool :=
  rd s p Fld.PAGE_COMMIT_COMMIT_GROUP == cfg s .ald Fld.ALD_CTRL_SYNC_GROUP

/-- Staged records are withdrawn from the FIL pages of SYNC_GROUP (R463). -/
def syncDiscard (s : State) : State :=
  (List.range 8).foldl (fun s p => if inSyncGroup s (.fil p) then filRun s p 6 else s) s

/-- A commit that this device discards (R75). -/
def missCommit (s : State) : State := bump (stick s .stitch Fld.STITCH_STICKY_SYS_COMMIT_MISSED) .ald 9 1

/-- The device discards every system commit that it holds, with what it staged for them (R75, R77, R463). -/
def dropCommits (s : State) : State :=
  let lost := s.ald.pend.length
  if lost = 0 then s
  else bump (stick (syncDiscard (setPend s [])) .stitch Fld.STITCH_STICKY_SYS_COMMIT_MISSED) .ald 9 lost

/-- A device in a system that is not its active manager, an isolated member among them: its period follows the manager's
(R45). -/
def aldWorker (s : State) : Bool := (aldMember s || mstate s == 6) && !isManager s

/-- The first boundary on nanosecond 0 of a second at or after time `t` whose stitch is at least `least`: its stitch
and its time (R45, R455). -/
def secondBoundary (s : State) (least t : Nat) : Nat × Nat :=
  let p := 4 * periodNs s
  let sec := 4_000_000_000
  let t0 := (max t s.nextBnd + sec - 1) / sec * sec
  let n0 := s.stitch + 1 + (t0 - s.nextBnd) / p
  let per := sec / p
  let k := if n0 < least then (least - n0 + per - 1) / per else 0
  (n0 + k * per, t0 + k * sec)

/-! ### Control cells (R446, R448) -/

/-- The time that 10 bytes hold, in quarter ns. -/
def readTime (b : List Nat) (i : Nat) : Nat :=
  let w := beNat (slice b (i + 6) 4)
  (beNat (slice b i 6) * 1_000_000_000 + bits w 29 0) * 4 + bits w 31 30

/-- A cell whose body the firmware lays out (R448): its bytes are free. -/
def fwCell (s : State) (n ctype : Nat) : State :=
  let d := draw s 11 352
  cellSend d.2 n ctype (beBytes 44 d.1)

/-- Such a cell on several links. -/
def fwCells (s : State) (ns : List Nat) (ctype : Nat) : State := ns.foldl (fun s n => fwCell s n ctype) s

/-- An up cell goes to the parent; on the active manager it has arrived. -/
def relayUp (s : State) (ctype : Nat) : State := match parentPort s with | some n => fwCell s n ctype | none => s

/-- A down cell goes to every child link. -/
def relayDown (s : State) (ctype : Nat) : State := fwCells s (linksIn s (· == 4)) ctype

/-- The oldest cell of a type that waits on a link. -/
def cellHeld (s : State) (n ctype : Nat) : Option (Nat × List Nat × Nat × Nat) :=
  (linkOf s n).inbox.find? (fun c => c.1 == ctype)

/-- It is handled. -/
def cellDone (s : State) (n ctype : Nat) : State :=
  let x := linkOf s n
  putLink s n { x with inbox := x.inbox.eraseP (fun c => c.1 == ctype) }

/-- A cell that firmware answers: it waits while the firmware restarts (R523). -/
def onCell (n ctype : Nat) (f : State → State) (s : State) : State :=
  if (cellHeld s n ctype).isNone ∨ s.smp.fwHold then s else f (cellDone s n ctype)

/-! ### Link states (Table 14.1) -/

/-- A link changes its state. LINK_UP is 1 in states 3, 4 and 5 only (R443), and R156 and R157 govern its fall. -/
def setLink (s : State) (n v : Nat) : State :=
  let p := Page.mac n
  let up := v == 3 || v == 4 || v == 5
  if lstate s n = v then s
  else if up || !linkUp s n then wr (wr s p Fld.MAC_ALD_STAT_LSTATE v) p Fld.MAC_STATUS_LINK_UP (b2n up)
  else
    let s := wr (linkDrop s n true) p Fld.MAC_ALD_STAT_LSTATE v
    if v = 6 then s else cellsOut s n

/-- A link is fenced (R474): it sends and takes nothing. -/
def aldFence (s : State) (n detail : Nat) : State :=
  if fenced s (.mac n) then s else setLink (fenceUnit s (.mac n) 6 detail) n 6

/-- RELEASE of a link returns it to HELLO, or to DOWN while R155 does not hold. -/
def aldRelease (s : State) (n : Nat) : State :=
  if fenced s (.mac n) then
    let s := putLink (unfence s (.mac n)) n {}
    setLink s n (if rdB s (.mac n) Fld.MAC_STATUS_PCS_LOCK then 1 else 0)
  else s

/-- UP is entered from HELLO when the peer's SYS_ID matches and a delay has been measured. -/
def linkUpCheck (s : State) (n : Nat) : State :=
  let x := linkOf s n
  if lstate s n = 1 ∧ x.hello.any (fun h => h.1 == sysId s) ∧ x.ex ≠ [] then setLink s n 2 else s

/-- The state that Table 14.1 gives a link of states 2 to 5. -/
def treeState (s : State) (n : Nat) : Nat :=
  if !aldMember s then 2
  else if parentPort s = some n then 3
  else match (linkOf s n).beacon with
    | some b => if bit b.parent 15 && b.parent % 1024 == ownMember s then 4 else 5
    | none => 2

/-- Every link takes its state. -/
def showLinks (s : State) : State := (treeLinks s).foldl (fun s n => setLink s n (treeState s n)) s

/-! ### Delay (R449, R450, R452) -/

/-- DELAY of a link in quarter ns. -/
def linkDelay (s : State) (n : Nat) : Nat := rd s (.mac n) Fld.MAC_ALD_DELAY_DELAY

/-- L of a link: DELAY plus 756 ns in stitches, rounded up. -/
def linkLag (s : State) (n : Nat) : Nat :=
  let p := 4 * periodNs s
  (linkDelay s n + 3024 + p - 1) / p

/-- Whether `div` stitches have begun since the stitch `q`, where there was one; a count that was set back does not hold
anything up. -/
def divPassed (s : State) (q : Option Nat) (div : Nat) : Bool :=
  q.all (fun q => decide (q + div ≤ s.stitch) || decide (s.stitch < q))

/-- A PROBE of a link is due: every PROBE_DIV stitches, and in HELLO every stitch (R450). -/
def probeDue (s : State) (n : Nat) : Bool :=
  divPassed s (linkOf s n).probeAt (if lstate s n = 1 then 1 else cfg s .ald Fld.ALD_TIMERS_PROBE_DIV)

/-- PROBE_SEND (R450): a PROBE that is due carries its identifier and its transmit stamp. -/
def execProbeSend (n t : Nat) (s : State) : Host.Outcome State Fault Refusal :=
  let s := advance s t
  .next (if 1 ≤ lstate s n ∧ lstate s n ≤ 5 ∧ probeDue s n then
      let t1 := adjust t (asym s n)
      let x := linkOf s n
      let id := (x.probeId + 1) % 65536
      let s := putLink s n { x with probeId := id, probe := some (id, t1), probeAt := some s.stitch }
      cellSend s n 2 (beBytes 2 id ++ timeBytes t1)
    else s)

/-- PROBE_RX (R450): the answer carries the receive stamp of the PROBE and its own transmit stamp. -/
def execProbeRx (n t : Nat) (s : State) : Host.Outcome State Fault Refusal :=
  let s := advance s t
  .next (match cellHeld s n 2 with
    | some (_, b, t2, _) =>
      if 1 ≤ lstate s n ∧ lstate s n ≤ 5 then
        cellSend (cellDone s n 2) n 3 (slice b 0 2 ++ timeBytes t2 ++ timeBytes (adjust t (asym s n)))
      else s
    | none => s)

/-- An exchange is used: DELAY is the mean of the last eight plus ASYM, and L follows. -/
def useExchange (s : State) (n : Nat) (v : Int) : State :=
  let x := linkOf s n
  let ex := (x.ex ++ [v]).drop ((x.ex ++ [v]).length - 8)
  let mean : Int := ex.foldl (fun a e => a + e) 0 / (2 * ex.length : Nat)
  let s := putLink s n { x with ex := ex, badEx := 0, probe := none }
  let s := wr s (.mac n) Fld.MAC_ALD_DELAY_DELAY (mean + asym s n).toNat
  linkUpCheck (wr s (.mac n) Fld.MAC_ALD_STAT_LAG (linkLag s n)) n

/-- PROBE_RESP_RX (R450, R474): the exchange gives a delay; one more than 50 ns from DELAY is not used, and three
such in a row fence the link. -/
def execProbeRespRx (n t : Nat) (s : State) : Host.Outcome State Fault Refusal :=
  let s := advance s t
  .next (match cellHeld s n 3 with
    | none => s
    | some (_, b, t4, _) =>
      let s := cellDone s n 3
      let x := linkOf s n
      match x.probe with
      | none => s
      | some (id, t1) =>
        let v : Int := ((t4 : Int) - t1) - ((readTime b 12 : Int) - readTime b 2)
        if be16 b 0 ≠ id then s
        else if x.ex ≠ [] ∧ 400 < (v + 2 * asym s n - 2 * linkDelay s n).natAbs then
          let s := putLink s n { x with badEx := x.badEx + 1, probe := none }
          let s := stick s (.mac n) Fld.MAC_STICKY_DELAY_JUMP
          if 3 ≤ x.badEx + 1 then aldFence s n 2 else s
        else useExchange s n v)

/-! ### Link frames (R444 to R447) -/

/-- A header whose CRC is wrong (R446, R474). -/
def badHeader (s : State) (n : Nat) : State :=
  let x := linkOf s n
  let s := putLink s n { x with hcrc := x.hcrc + 1 }
  let s := stick (bump s (.mac n) 37 1) (.mac n) Fld.MAC_STICKY_HCRC_ERR
  if 64 < x.hcrc + 1 then aldFence s n 1 else s

/-- A data frame enters the MAC checks; TE makes it a code error (R446). -/
def aldData (s : State) (n t hops src : Nat) (body : List Nat) (te overrun : Bool) : State :=
  let s := bump s (.mac n) 34 1
  let s := if te then bump s (.mac n) 38 1 else s
  let k := body.length - 4
  rxPiece s n t (some (hops, src)) (body.take k) (if te then .codeErr else .fcs (leNat (body.drop k))) overrun

/-- A control cell whose CRC and type are good waits for its handling. -/
def aldCell (s : State) (n t src ctype : Nat) (body : List Nat) : State :=
  let s := bump s (.mac n) 36 1
  if beNat (slice body 44 4) ≠ crc32c (body.take 44) ∨ ctype = 0 ∨ 13 < ctype then bump s (.mac n) 37 1
  else if lstate s n = 1 ∧ (ctype = 1 ∨ 4 < ctype) then s
  else
    let x := linkOf s n
    putLink s n { x with inbox := x.inbox ++ [(ctype, body, adjust t (asym s n), src)] }

/-- A link frame out of the descrambler (R446): the checks in their order; the first that fails decides. -/
def aldFrame (s : State) (n t : Nat) (b : List Nat) (overrun : Bool) : State :=
  let p := Page.mac n
  let st := lstate s n
  let type := byteAt b 0 / 16
  let w := be16 b 2
  let len := be16 b 8
  let body := slice b 16 len
  let te := bit (byteAt b (16 + len)) 7
  if be16 b 14 ≠ crc16 (b.take 14) then badHeader s n
  else
    let seq := be16 b 10
    let gap := (linkOf s n).rxSeq.any (fun q => (q + 1) % 65536 != seq)
    let s := putLink s n { linkOf s n with rxSeq := some seq }
    let alien := be16 b 12 != sysId s % 65536
    let s := stickIf alien s p Fld.MAC_STICKY_SYSID_MISMATCH
    if alien ∧ (st ≠ 1 ∨ type ≠ 2 ∨ w % 64 ≠ 4) then s
    else if type ≠ 1 ∧ type ≠ 2 then s
    else if (type = 1 ∧ (len < 64 ∨ 16384 < len)) ∨ (type = 2 ∧ len ≠ 48) then s
    else if type = 1 ∧ w / 64 = ownMember s then stick (bump s p 40 1) p Fld.MAC_STICKY_LOOP_DROP
    else
      let s := if gap then bump s p 41 1 else s
      if type = 2 then aldCell s n t (w / 64) (w % 64) body
      else if 3 ≤ st then aldData s n t (byteAt b 1 % 32) (w / 64) body te overrun
      else s

/-- Bytes of the scrambled stream pass the descrambler of a port, which is synchronised 58 bits after it first receives
data (R129): the state after, and the bytes recovered where it was synchronised from the first of them. -/
def aldHear (s : State) (n : Nat) (xs : List Nat) : State × Option (List Nat) :=
  let x := linkOf s n
  let r := unscramble x.dsc.2 xs
  (putLink s n { x with dsc := (min 58 (x.dsc.1 + 8 * xs.length), r.2) }, if 58 ≤ x.dsc.1 then some r.1 else none)

/-- ALD_LINK_FRAME_RX (R129, R446): a link frame in the scrambled stream of a port, `line`, after what came since the last
one, `pre`; `fec` gives the codewords received, corrected and not correctable and the symbols corrected (R176). -/
def execAldLinkFrameRx (n t : Nat) (pre line : List Nat) (overrun : Bool) (fec : List Nat) (s : State) :
    Host.Outcome State Fault Refusal :=
  let s := advance s t
  if !isAld s n ∨ lstate s n = 0 ∨ 5 < lstate s n then .next s
  else
    let r := aldHear (aldHear (fecCount s n fec) n pre).1 n line
    .next (match r.2 with
      | some b => aldFrame r.1 n t b overrun
      | none => r.1)

/-- HELLO_RX (R448): the peer's identity, SYS_ID, PROTO, port and pair capability. -/
def execHelloRx (n sys proto uid peer : Nat) (pair : Bool) (s : State) : Host.Outcome State Fault Refusal :=
  .next (onCell n 4 (fun s0 =>
    let src := ((cellHeld s n 4).map (·.2.2.2)).getD 0
    let p := Page.mac n
    let x := linkOf s0 n
    let changed := x.hello.any (fun h => h.2.2.1 != uid)
    let s := putLink s0 n { x with hello := some (sys, proto, uid, peer), peerPair := pair }
    let s := wr (wr (wr s p Fld.MAC_ALD_PEER_VALID 1) p Fld.MAC_ALD_PEER_PORT peer) p Fld.MAC_ALD_PEER_MEMBER src
    let s := stickIf changed s p Fld.MAC_STICKY_PEER_CHANGED
    if 2 ≤ lstate s n ∧ lstate s n ≤ 5 ∧ sys ≠ sysId s then setLink s n 1 else linkUpCheck s n) s)

/-! ### Beacons (R451 to R454) -/

/-- The body of a beacon (Table 14.4), less its CRC. -/
def beaconBody (b : Beacon) : List Nat :=
  beBytes 8 b.stitch ++ timeBytes b.txTime ++ beBytes 4 (b.period % 2 ^ 20) ++ beBytes 2 b.flags ++ beBytes 2 b.utc
    ++ [b.depth % 256, b.lag % 256] ++ beBytes 2 b.active ++ beBytes 2 b.standby ++ beBytes 2 b.parent
    ++ beBytes 2 b.armCid ++ beBytes 4 b.armAt ++ beBytes 2 b.lastCid ++ [0, 0]

/-- The beacon that a body holds. -/
def readBeacon (b : List Nat) : Beacon :=
  { stitch := beNat (slice b 0 8), txTime := readTime b 8, period := beNat (slice b 18 4) % 2 ^ 20, flags := be16 b 22
    utc := be16 b 24, depth := byteAt b 26, lag := byteAt b 27, active := be16 b 28 % 1024, standby := be16 b 30
    parent := be16 b 32, armCid := be16 b 34, armAt := be32 b 36, lastCid := be16 b 40 }

/-- The content that the active manager produces for the present stitch. -/
def ownContent (s : State) : Beacon :=
  let arm := s.ald.pend.find? (fun c => c.seen && decide (s.stitch < c.target))
  let flags := b2n arm.isSome * 2 ^ 15 + b2n (traceable s) * 2 ^ 14 + rd s .tod Fld.SMP_UTC_VALID * 2 ^ 13
    + rd s .tod Fld.SMP_UTC_LEAP61 * 2 ^ 12 + rd s .tod Fld.SMP_UTC_LEAP59 * 2 ^ 11 + b2n s.ald.firstBeacon * 2 ^ 10
  { stitch := s.stitch, period := periodNs s, flags := flags, utc := rd s .tod Fld.SMP_UTC_OFFSET, active := ownMember s
    standby := rd s .ald Fld.ALD_MGRS_SB_VALID * 2 ^ 15 + rd s .ald Fld.ALD_MGRS_STANDBY
    armCid := (arm.map (·.cid)).getD 0, armAt := ((arm.map (·.target)).getD 0) % 2 ^ 32, lastCid := lastCid s }

/-- A content leaves on every link of states 2 to 5, with what each sender writes for itself (R451). The stamp lies
between clocks 256 and 383 of the boundary (Table 2.1). -/
def emitBeacon (s : State) (b : Beacon) : State :=
  let par := match parentPort s with
    | some n => 2 ^ 15 + rd s (.mac n) Fld.MAC_ALD_PEER_MEMBER
    | none => 0
  (treeLinks s).foldl (fun s n =>
    let d := draw s 10 16
    let tx := adjust (s.bndAt + 683 + d.1 % 339) (asym s n)
    bump (cellSend d.2 n 1 (beaconBody { b with
      txTime := tx, depth := rd s .ald Fld.ALD_STAT_DEPTH, lag := totalLag s, parent := par })) .ald 0 1) s

/-- The best parent (R453): the lowest depth, then the lowest Λ, then the lowest port. `fresh` asks for a beacon in
the stitch that has ended. -/
def bestParent (s : State) (fresh : Bool) : Option (Nat × Beacon) :=
  let ok (n : Nat) : Option (Nat × Beacon) :=
    match (linkOf s n).beacon with
    | some b =>
      if (lstate s n = 2 ∨ lstate s n = 3 ∨ lstate s n = 5) ∧ cfgB s (.mac n) Fld.MAC_ALD_CFG_TREE_EN
          ∧ (!aldMember s ∨ b.active = rd s .ald Fld.ALD_MGRS_ACTIVE ∨ bit b.flags 10)
          ∧ (!fresh ∨ s.stitch ≤ (linkOf s n).beaconAt + 1) then some (n, b) else none
    | none => none
  let rank (x : Nat × Beacon) : Nat := (x.2.depth * 2 ^ 20 + x.2.lag + linkLag s x.1) * 2 ^ 11 + x.1
  ((aldLinks s).filterMap ok).foldl (fun o x =>
    match o with | some y => if rank x < rank y then some x else o | none => some x) none

/-- A device takes a parent; a depth above 8 sets DEPTH_LIMIT and it takes none. -/
def setParent (s : State) (n : Nat) (b : Beacon) : State :=
  if 8 ≤ b.depth then stick s .ald Fld.ALD_STICKY_DEPTH_LIMIT
  else
    let old := parentPort s
    let s := wr (wr s .ald Fld.ALD_TREE_PARENT_PORT n) .ald Fld.ALD_STAT_DEPTH (b.depth + 1)
    let s := wr s .ald Fld.ALD_TREE_LAG (b.lag + linkLag s n)
    match old with
    | some o =>
      if o = n then s
      else
        let s := stick s (.mac o) Fld.MAC_STICKY_PEER_CHANGED
        bump (stick s (.mac n) Fld.MAC_STICKY_PEER_CHANGED) .ald 3 1
    | none => s

/-- No parent: depth, lag and the parent link are cleared. -/
def noParent (s : State) : State :=
  wr (wr (wr s .ald Fld.ALD_TREE_PARENT_PORT 2047) .ald Fld.ALD_STAT_DEPTH 0) .ald Fld.ALD_TREE_LAG 0

/-- A device that has found a parent steers from its beacons (R410, R455): a locked servo goes on by rate. -/
def follow (s : State) : State :=
  if servo s = 2 then lockTo s 3
  else if servo s = 1 then { setServo s 0 0 with smp := { s.smp with meas := 0 } }
  else s

/-- LISTEN or ISOLATED ends where a parent qualifies: the device is JOINING. -/
def tryJoin (s : State) : State :=
  if cfgB s .ald Fld.ALD_CTRL_EN ∧ (mstate s = 1 ∨ mstate s = 6) then
    match bestParent s false with
    | some (n, b) =>
      let s := setParent s n b
      if parentPort s = some n then showLinks (follow (setMstate s 2)) else s
    | none => s
  else s

/-- The managers of the system, as a content names them, and this device's own position (R439). -/
def showMgrs (s : State) (b : Beacon) : State :=
  let s := wr (wr s .ald Fld.ALD_MGRS_ACT_VALID 1) .ald Fld.ALD_MGRS_ACTIVE b.active
  let s := wr (wr s .ald Fld.ALD_MGRS_SB_VALID (b2n (bit b.standby 15))) .ald Fld.ALD_MGRS_STANDBY (b.standby % 1024)
  let pos := if !s.ald.capable then 0 else if bit b.standby 15 ∧ b.standby % 1024 = ownMember s ∧ aldMember s then 2 else 3
  wr s .ald Fld.ALD_STAT_MGR pos

/-- A member missed a commit that the active manager applied (R463). -/
def missedCid (s : State) (cid : Nat) : Bool :=
  let d := (cid + 65536 - lastCid s) % 65536
  d != 0 && decide (d < 32768) && !s.ald.pend.any (fun c => c.cid == cid)

/-- The beacon of the parent: its content is held from the next boundary, and it steers time and U (R424, R452,
R454, R463). -/
def parentBeacon (s : State) (n t : Nat) (b : Beacon) : State :=
  let s := { s with ald := { s.ald with fresh := s.ald.fresh ++ [b] } }
  let s := showMgrs (wr s .ald Fld.ALD_TREE_LAG (b.lag + linkLag s n)) b
  let off : Int := (b.txTime + linkDelay s n : Nat) - (t : Int)
  let meas := if servo s = 0 then s.smp.meas + 1 else s.smp.meas
  let s := { s with smp := { s.smp with off3 := off, trace3 := bit b.flags 14, meas := meas } }
  let s := if source s = 3 ∧ !cfgB s .tod Fld.SMP_UTC_SW_OVR then
      setUtc s false { offset := b.utc, valid := bit b.flags 13, leap61 := bit b.flags 12, leap59 := bit b.flags 11 }
    else s
  let s := if mstate s = 4 ∧ missedCid s b.lastCid then
      bump (stick (setMstate s 3) .ald Fld.ALD_STICKY_RESYNC) .ald 10 1
    else s
  showTrace s

/-- The lower-ranked of two active managers gives up its role and listens (R440). -/
def giveUp (s : State) (t : Nat) : State :=
  let s := bump (stick s .ald Fld.ALD_STICKY_MGR_CONFLICT) .ald 14 1
  let s := wr (setMstate s 1) .ald Fld.ALD_STAT_MGR 3
  let s := dropCommits { s with ald := { s.ald with member := [], alone := t } }
  showLinks (showMaxLag (noParent s))

/-- The standby takes over what the active manager keeps up to date for it (R441). -/
def takeCopy (s : State) (n : Nat) (c : Option AldCopy) : State :=
  match c with
  | some x =>
    if mgrPos s = 2 ∧ cfgB s (.mac n) Fld.MAC_ALD_CFG_PAIR ∧ (linkOf s n).peerPair then
      let s := { s with ald := { s.ald with member := x.members.foldl (fun m e => tabPut m {} e.1 e.2) [] } }
      setPend s (s.ald.pend.map (fun a => match x.commits.find? (fun d => d.cid == a.cid) with
        | some d => { a with acks := d.acks, refusals := d.refusals, seen := d.seen }
        | none => a))
    else s
  | none => s

/-- BEACON_RX (R440, R451 to R454). `lower` says that this device ranks below another active manager that the beacon
comes from; `copy` is what a pair link brings the standby. -/
def execBeaconRx (n t : Nat) (lower : Bool) (copy : Option AldCopy) (s : State) : Host.Outcome State Fault Refusal :=
  let s := advance s t
  .next (match cellHeld s n 1 with
    | none => s
    | some (_, body, rx, src) =>
      let s := cellDone s n 1
      if lstate s n < 2 ∨ 5 < lstate s n then s
      else
        let b := readBeacon body
        let s := bump (putLink s n { linkOf s n with beacon := some b, beaconAt := s.stitch }) .ald 1 1
        let s := wr (wr s (.mac n) Fld.MAC_ALD_PEER_VALID 1) (.mac n) Fld.MAC_ALD_PEER_MEMBER src
        let s := { s with ald := { s.ald with alone := s.now } }
        if isManager s then
          if (b.active ≠ ownMember s ∨ b.depth = 0) ∧ lower then giveUp s t else showLinks s
        else
          let s := takeCopy (if parentPort s = some n then parentBeacon s n rx b else s) n copy
          showLinks (tryJoin s))

/-- MANAGER_ELECTION (R440): after 1 s without a beacon of its system, a capable device becomes active manager. -/
def execManagerElection (t : Nat) (s : State) : Host.Outcome State Fault Refusal :=
  let s := advance s t
  .next (if s.ald.capable ∧ cfgB s .ald Fld.ALD_CTRL_EN ∧ (mstate s = 1 ∨ mstate s = 6) ∧ s.ald.alone + 4_000_000_000 ≤ t
    then
      let num := if (memberOf s 0).state = 0 ∨ (memberOf s 0).uid = Config.devUid then 0 else ownMember s
      let s := wr (wr (setMstate s 4) .ald Fld.ALD_STAT_MGR 1) .ald Fld.ALD_STAT_MEMBER num
      let s := wr (wr (noParent s) .ald Fld.ALD_MGRS_ACT_VALID 1) .ald Fld.ALD_MGRS_ACTIVE num
      let s := wr s .ald Fld.ALD_MGRS_SB_VALID 0
      let s := putMember s num { uid := Config.devUid % 2 ^ 64, capable := true, state := 3, lastCid := lastCid s
                                 prio := cfg s .ald Fld.ALD_CTRL_MGR_PRIO }
      showLinks { s with ald := { s.ald with firstBeacon := true } }
    else s)

/-! ### Joining and leaving (R455 to R458) -/

/-- JOIN_REQ_SEND (R455): a joining device asks once its offset lies within 20 ns. -/
def execJoinReqSend (t : Nat) (s : State) : Host.Outcome State Fault Refusal :=
  let s := advance s t
  .next (if mstate s = 2 ∧ servo s = 2 ∧ source s = 3 ∧ s.smp.off3.natAbs ≤ 80 ∧ !s.smp.fwHold then relayUp s 5 else s)

/-- The lowest free member number, or the number under which the table holds a DEV_UID. -/
def memberNumber (s : State) (uid : Nat) : Nat :=
  match s.ald.member.find? (fun e => e.2.uid == uid) with
  | some e => e.1
  | none => firstGap 0 (tabKeys s.ald.member)

/-- JOIN_REQ (R455, R456): the active manager admits or refuses; other members pass the cell up. -/
def execJoinReq (n uid proto lastc : Nat) (capable : Bool) (prio : Nat) (s : State) :
    Host.Outcome State Fault Refusal :=
  .next (onCell n 5 (fun s =>
    if !isManager s then relayUp s 5
    else
      let m := memberNumber s uid
      let x := memberOf s m
      let back (s : State) : State := fwCells s (dedup (n :: linksIn s (· == 4))) 6
      if proto ≠ Config.proto ∨ (x.uid ≠ uid ∧ 1024 ≤ s.ald.member.length)
          ∨ (x.uid = uid ∧ (x.state = 2 ∨ x.state = 3 ∨ x.state = 5)) then back s
      else
        let sj := (secondBoundary s (s.stitch + sysLead s) s.now).1
        let s := putMember s m { x with
          uid := uid, capable := capable, prio := prio, lastCid := lastc, state := 1, change := sj, seen := s.stitch }
        back (bump s .ald 4 1)) s)

/-- The time of the boundary that begins stitch `sj` of the manager, by the last beacon of the parent (R452). -/
def managerTime (b : Beacon) (sj : Nat) : Nat :=
  let p := 4 * b.period
  ((b.txTime / p * p : Nat) + ((sj : Int) - (b.stitch + b.lag : Nat)) * (p : Nat)).toNat

/-- JOIN_GRANT (R455, R456): a device receives its member number and its join stitch, or a refusal. -/
def execJoinGrant (n uid : Nat) (refused : Bool) (member sj : Nat) (s : State) : Host.Outcome State Fault Refusal :=
  .next (onCell n 6 (fun s =>
    if uid ≠ Config.devUid % 2 ^ 64 then fwCells s (linksIn s (fun x => x == 2 || x == 4)) 6
    else if mstate s ≠ 2 then s
    else if refused then stick s .ald Fld.ALD_STICKY_JOIN_REFUSED
    else match (linkOf s n).beacon with
      | some b => wr { s with ald := { s.ald with joinAt := some (sj, managerTime b sj) } } .ald Fld.ALD_STAT_MEMBER member
      | none => s) s)

/-- A STATUS cell is due: every STATUS_DIV stitches (Table 14.3). -/
def statusDue (s : State) : Bool := divPassed s s.ald.statusAt (cfg s .ald Fld.ALD_TIMERS_STATUS_DIV)

/-- STATUS_SEND (R458): a STATUS cell that is due. -/
def execStatusSend (s : State) : Host.Outcome State Fault Refusal :=
  .next (if aldMember s ∧ !isManager s ∧ !s.smp.fwHold ∧ statusDue s then
      relayUp { s with ald := { s.ald with statusAt := some s.stitch } } 7
    else s)

/-- The active manager's choice of standby (R441): the highest-ranked capable member on a pair link. -/
def chooseStandby (s : State) : State :=
  let cand := (treeLinks s).filterMap (fun n =>
    let m := rd s (.mac n) Fld.MAC_ALD_PEER_MEMBER
    let x := memberOf s m
    if cfgB s (.mac n) Fld.MAC_ALD_CFG_PAIR && (linkOf s n).peerPair && x.capable && x.state == 3 then some (m, x)
    else none)
  let rank (x : Nat × Member) : Nat := x.2.prio * 2 ^ 64 + x.2.uid
  let best := cand.foldl (fun o x =>
    match o with | some y => if rank x < rank y then some x else o | none => some x) none
  let old := if rdB s .ald Fld.ALD_MGRS_SB_VALID then some (rd s .ald Fld.ALD_MGRS_STANDBY) else none
  let s := wr s .ald Fld.ALD_MGRS_SB_VALID (b2n best.isSome)
  let s := wr s .ald Fld.ALD_MGRS_STANDBY ((best.map (·.1)).getD 0)
  if best.map (·.1) = old then s else { s with ald := { s.ald with standbyAt := s.now } }

/-- STATUS_RX (R458): the active manager records a member's state, lag, depth, parent and last CID. -/
def execStatusRx (n member st lag depth parent lastc prio : Nat) (s : State) : Host.Outcome State Fault Refusal :=
  .next (onCell n 7 (fun s =>
    if !isManager s then relayUp s 7
    else
      let x := memberOf s member
      if x.state = 0 ∨ x.state = 4 then s
      else
        let v := if x.state = 2 ∧ st = 4 then 3 else if x.state = 3 ∧ st = 3 then 2 else x.state
        let s := putMember s member { x with
          lag := lag, depth := depth, parent := parent, lastCid := lastc, seen := s.stitch, state := v, prio := prio }
        chooseStandby (showMaxLag s)) s)

/-- MEMBER_ABSENT (R458): no STATUS has come for ABSENT * STATUS_DIV stitches. -/
def execMemberAbsent (m : Nat) (s : State) : Host.Outcome State Fault Refusal :=
  let x := memberOf s m
  let wait := cfg s .ald Fld.ALD_TIMERS_ABSENT * cfg s .ald Fld.ALD_TIMERS_STATUS_DIV
  .next (if isManager s ∧ m ≠ ownMember s ∧ (x.state = 2 ∨ x.state = 3 ∨ x.state = 5) ∧ x.seen + wait < s.stitch then
      chooseStandby (showMaxLag (putMember s m { x with state := 4 }))
    else s)

/-- LEAVE_REQ (R457): a member asks to leave. -/
def execLeaveReq (s : State) : Host.Outcome State Fault Refusal :=
  .next (if (mstate s = 3 ∨ mstate s = 4) ∧ !isManager s then relayUp (setMstate s 5) 13 else s)

/-- LEAVE (R457): the active manager names the leave stitch; the leaving member takes it. -/
def execLeave (n member : Nat) (sl : Option Nat) (s : State) : Host.Outcome State Fault Refusal :=
  .next (onCell n 13 (fun s =>
    match sl with
    | none =>
      if !isManager s then relayUp s 13
      else
        let x := memberOf s member
        if x.state = 0 then s
        else
          let at' := (secondBoundary s (s.stitch + sysLead s) s.now).1
          relayDown (putMember s member { x with state := 5, change := at' }) 13
    | some v =>
      if member = ownMember s ∧ mstate s = 5 then { s with ald := { s.ald with leaveAt := some v } }
      else relayDown s 13) s)

/-! ### System commits (R459 to R463) -/

/-- The firmware runs one command on a FIL page, through its command registers. -/
def filStage (s : State) (p op : Nat) (key data : Nat) : State :=
  let put (s : State) (f : Field) (v : Nat) : State := wrBlk (wr s (.fil p) f v) (.fil p) f v
  let s := put (put s Fld.FIL_CMD_KEY_LO_KEY (key % 2 ^ 32)) Fld.FIL_CMD_KEY_HI_KEY (key / 2 ^ 32)
  let s := put (put s Fld.FIL_CMD_DATA_DK (bits data 31 30)) Fld.FIL_CMD_DATA_DEST (data % 65536)
  filRun (put s Fld.FIL_CMD_OP op) p op

/-- Whether every FIL page can take a command now (R254). -/
def filIdle (s : State) : Bool :=
  (List.range 8).all (fun p => !rdB s (.fil p) Fld.FIL_CMD_STAT_BUSY && !filWaits s p)

/-- One record of a commit is staged on the pages of PANELS (R460, Table 14.8); false when a result is not 0. -/
def stageRecord (a : State × Bool) (r : List Nat) : State × Bool :=
  let w0 := r.getD 0 0
  let op := if bits w0 31 30 = 1 then 3 else 4
  (setBitsOf 8 (bits w0 23 16)).foldl (fun (a : State × Bool) p =>
    let s := filStage a.1 p op (r.getD 1 0 + 2 ^ 32 * r.getD 2 0) (r.getD 3 0)
    (s, a.2 && rd s (.fil p) Fld.FIL_CMD_STAT_RESULT == 0)) a

/-- An acknowledgement or refusal of this device goes to the active manager, which may be itself (R461). -/
def ownAck (s : State) (cid : Nat) (refuse : Bool) : State :=
  let note (c : SysCommit) : SysCommit :=
    if c.cid != cid then c
    else if refuse then { c with refusals := c.refusals ++ [ownMember s], acked := true }
    else { c with acks := c.acks ++ [ownMember s], acked := true }
  let s' := setPend s (s.ald.pend.map note)
  if isManager s then
    if refuse then wr s' .ald Fld.ALD_SC_STAT_REASON 8 else s'
  else relayUp s' 9

/-- A device takes a system commit: it stages the records and acknowledges (R460, R461). -/
def takeCommit (s : State) (c : SysCommit) : State :=
  let r := c.records.foldl stageRecord (s, true)
  let s := setPend r.1 (s.ald.pend ++ [{ c with staged := r.2, acks := [], refusals := [], acked := false, seen := false }])
  if !r.2 then ownAck (stick s .ald Fld.ALD_STICKY_SYNC_FAIL) c.cid true
  else if cfgB s .ald Fld.ALD_CTRL_ACK_AUTO then ownAck s c.cid false
  else s

/-- The REASON for which the active manager refuses a request, 0 where it takes it (R459, Table 14.7). -/
def scReason (s : State) (target groups : Nat) : Nat :=
  let ml := maxLagNow s
  let recs := s.ald.records
  if !isManager s then 1
  else if target < s.stitch + sysLead s then 2
  else if target ≤ s.stitch + 1 + ml then 3
  else if s.ald.pend.any (fun c => decide (((c.target : Int) - target).natAbs ≤ ml + 1)) then 4
  else if s.ald.badRecord || (recs != [] && (!bit groups (cfg s .ald Fld.ALD_CTRL_SYNC_GROUP)
      || (presentMembers s).any (fun m => (memberOf s m).state == 2))) then 5
  else if 16384 < recs.length then 6
  else if s.ald.handAt = some target then 7
  else 0

/-- A system commit is issued to every present member and taken by the manager itself (R460). -/
def issueCommit (s : State) (c : SysCommit) (state : Nat) : State :=
  let s := wr (wr s .ald Fld.ALD_SC_STAT_STATE state) .ald Fld.ALD_SC_STAT_CID c.cid
  let s := wr s .ald Fld.ALD_SC_STAT_REASON 0
  let s := { s with ald := { s.ald with nextCid := (c.cid + 1) % 65536, journal := s.ald.journal ++ [(c.cid, c.records)] } }
  takeCommit (relayDown (bump s .ald 11 c.records.length) 8) c

/-- SC_REQUEST (R459): a write of GO; the records since the previous GO belong to it. -/
def execScRequest (s : State) : Host.Outcome State Fault Refusal :=
  let target := bk s .ald Fld.ALD_SC_TARGET_LO_TARGET + 2 ^ 32 * bk s .ald Fld.ALD_SC_TARGET_HI_TARGET
  let groups := rd s .ald Fld.ALD_SC_REQ_GROUPS
  let why := scReason s target groups
  let recs := s.ald.records
  .next (if s.smp.fwHold ∨ !filIdle s then s
    else
      let s := bump { s with ald := { s.ald with records := [], badRecord := false } } .ald 6 1
      if why ≠ 0 then wr (wr s .ald Fld.ALD_SC_STAT_STATE 4) .ald Fld.ALD_SC_STAT_REASON why
      else issueCommit s { cid := s.ald.nextCid, target := target, groups := groups, maxLag := maxLagNow s
                           records := recs } 1)

/-- SC_DIST (R460, R461): a member, a leaving one until its leave stitch among them, takes a system commit and passes it
down. -/
def execScDist (n : Nat) (c : SysCommit) (s : State) : Host.Outcome State Fault Refusal :=
  .next (if !filIdle s then s
    else onCell n 8 (fun s =>
      if parentPort s ≠ some n ∨ isManager s then s
      else
        let s := relayDown s 8
        if aldMember s then takeCommit s c else s) s)

/-- SC_ACK_WRITE (R461): software acknowledges the commit of the CID written. -/
def execScAckWrite (s : State) : Host.Outcome State Fault Refusal :=
  let cid := rd s .ald Fld.ALD_SC_ACK_CID
  .next (if s.ald.pend.any (fun c => c.cid == cid && c.staged && !c.acked) then ownAck s cid false else s)

/-- SC_ACK (R461): the active manager records an acknowledgement or a refusal; others pass it up. -/
def execScAck (n member cid : Nat) (refuse : Bool) (s : State) : Host.Outcome State Fault Refusal :=
  .next (onCell n 9 (fun s =>
    if !isManager s then relayUp s 9
    else
      let note (c : SysCommit) : SysCommit :=
        if c.cid != cid then c
        else if refuse then { c with refusals := c.refusals ++ [member] } else { c with acks := c.acks ++ [member] }
      let s := setPend s (s.ald.pend.map note)
      if refuse then wr (wr s .ald Fld.ALD_SC_STAT_REASON 8) .ald Fld.ALD_SC_STAT_CID cid else s) s)

/-- A commit of the model's own sequencer for one group: targeted at a stitch (R53, R462, R464). -/
def requestGroup (s : State) (g target : Nat) : State :=
  let x := tabGet s.groups {} g
  { s with groups := tabPut s.groups {} g { x with req := some (.targeted target), state := 2, seq := x.seq + 1 } }

/-- Whether a local commit request of group `g` is refused: a system commit holds the group, or the group is SYNC_GROUP of a
device that is SYNCING or MEMBER, where it applies only through system commits and resynchronisation (R460). -/
def sysHeld (s : State) (g : Nat) : Bool :=
  s.ald.pend.any (fun c => bit c.groups g)
    || ((mstate s == 3 || mstate s == 4) && g == cfg s .ald Fld.ALD_CTRL_SYNC_GROUP)

/-- TSYNC (R464): a round of resynchronisation records is staged with INSERT on all eight FIL pages; after the last
record DELETE is staged for the entries that the manager did not send; each round applies at the stitch named. -/
def execTsync (n dst : Nat) (records : List (List Nat)) (last : Bool) (cid sa : Nat) (s : State) :
    Host.Outcome State Fault Refusal :=
  .next (if !filIdle s then s
    else onCell n 10 (fun s =>
      if dst ≠ ownMember s ∨ mstate s ≠ 3 then relayDown s 10
      else
        let key (r : List Nat) : Nat := r.getD 1 0 + 2 ^ 32 * r.getD 2 0
        let s := records.foldl (fun s r => (List.range 8).foldl (fun s p => filStage s p 3 (key r) (r.getD 3 0)) s) s
        let sent := s.ald.sync ++ records.map key
        let s := if last then
            (List.range 8).foldl (fun s p =>
              ((filList s p).filter (fun e => e.2.user && e.2.stg == 0 && !sent.contains e.2.key)).foldl
                (fun s e => filStage s p 4 e.2.key 0) s) s
          else s
        let s := { s with ald := { s.ald with sync := if last then [] else sent, syncCid := if last then some cid else none } }
        requestGroup s (cfg s .ald Fld.ALD_CTRL_SYNC_GROUP) sa) s)

/-! ### The loss and change of the active manager (R465 to R469) -/

/-- The newest content that any link has brought, or that this device held. -/
def newestContent (s : State) : Nat :=
  let own := s.ald.held.foldl (fun n b => max n b.stitch) 0
  (aldLinks s).foldl (fun n l => match (linkOf s l).beacon with | some b => max n b.stitch | none => n) own

/-- The pair links of this device to the active manager. -/
def pairLinks (s : State) : List Nat :=
  (treeLinks s).filter (fun n => cfgB s (.mac n) Fld.MAC_ALD_CFG_PAIR && (linkOf s n).peerPair)

/-- MGR_LOST (R465): the standby misses the content of a manager stitch beyond MISS_TOL. -/
def execMgrLost (t : Nat) (s : State) : Host.Outcome State Fault Refusal :=
  let s := advance s t
  let m := newestContent s + 1
  let due := (s.bndAt : Int) - ((s.stitch : Int) - m) * (4 * periodNs s : Nat)
  let d := match (pairLinks s).head? with | some n => linkDelay s n | none => 0
  .next (if mgrPos s = 2 ∧ due + (d + 1024 + 4 * cfg s .ald Fld.ALD_MGR_CFG_MISS_TOL : Nat) < t then
      stick { s with ald := { s.ald with lost := true } } .ald Fld.ALD_STICKY_MGR_LOST
    else s)

/-- The earliest target that R459 allows beside other pending commits. -/
def earliestTarget (s : State) : Nat → Nat → Nat
  | 0, t => t
  | k + 1, t =>
    match s.ald.pend.find? (fun c => decide (((c.target : Int) - t).natAbs ≤ maxLagNow s + 1)) with
    | some c => earliestTarget s k (c.target + maxLagNow s + 2)
    | none => t

/-- The earliest such target on nanosecond 0 of a second, as a change of period needs (R46). -/
def earliestSecond (s : State) : Nat → Nat → Nat
  | 0, t => (secondBoundary s t s.now).1
  | k + 1, t =>
    let u := (secondBoundary s t s.now).1
    match s.ald.pend.find? (fun c => decide (((c.target : Int) - u).natAbs ≤ maxLagNow s + 1)) with
    | some c => earliestSecond s k (c.target + maxLagNow s + 2)
    | none => u

/-- A commit that fell in the gap is issued again with a new target (R468). -/
def reissue (s : State) (c : SysCommit) : State :=
  let least := max (s.stitch + sysLead s) (s.stitch + 2 + maxLagNow s)
  let t := (if c.period.isSome then earliestSecond else earliestTarget) s (s.ald.pend.length + 1) least
  issueCommit (syncDiscard s) { c with cid := s.ald.nextCid, target := t, maxLag := maxLagNow s } 6

/-- The pending commits where the role changes and the content up to manager stitch `upto` is not this device's: those armed
stay armed; of the others, with a `gap`, those whose decision stitch fell in it are issued again; this device, like
every other, discards what is not kept (R76, R468). A handover has no gap (R469). -/
def takeoverCommits (s : State) (upto : Nat) (gap : Bool) : State :=
  let d (c : SysCommit) : Nat := c.target - 1 - c.maxLag
  let newest := newestContent s
  let armed (c : SysCommit) : Bool := c.seen || s.ald.held.any (fun b => bit b.flags 15 && b.armCid == c.cid)
    || (aldLinks s).any (fun n => (linkOf s n).beacon.any (fun b => bit b.flags 15 && b.armCid == c.cid))
  let old := s.ald.pend
  let keep := old.filterMap (fun c =>
    if armed c then some { c with seen := true } else if upto < d c then some c else none)
  let again := old.filter (fun c => gap && !armed c && decide (newest < d c) && decide (d c ≤ upto))
  let gone := old.filter (fun c => !armed c && decide (d c ≤ upto))
  again.foldl reissue (gone.foldl (fun s _ => missCommit (syncDiscard s)) (setPend s keep))

/-- TAKEOVER_ACTIVE (R466): the standby takes the active role. -/
def execTakeoverActive (t : Nat) (s : State) : Host.Outcome State Fault Refusal :=
  let s := advance s t
  .next (if mgrPos s ≠ 2 ∨ !s.ald.lost ∨ !filIdle s then s
    else
      let s := wr (setMstate s 4) .ald Fld.ALD_STAT_MGR 1
      let s := noParent { s with ald := { s.ald with lost := false, firstBeacon := true } }
      let s := wr (wr s .ald Fld.ALD_MGRS_ACT_VALID 1) .ald Fld.ALD_MGRS_ACTIVE (ownMember s)
      let s := stick (bump s .ald 12 1) .ald Fld.ALD_STICKY_TAKEOVER
      let s := fwCells s (treeLinks s) 11
      let pref := cfg s .tod Fld.SMP_TOD_CTRL_SRC_PREF
      let s := if canSwitch s pref then lockTo s pref else if servo s = 2 then holdover s else s
      let s := chooseStandby (showMaxLag s)
      showLinks (takeoverCommits s s.stitch true))

/-- TAKEOVER (R466): a member learns of the new active manager and relays once on every other link. -/
def execTakeover (n member : Nat) (s : State) : Host.Outcome State Fault Refusal :=
  .next (onCell n 11 (fun s =>
    if rd s .ald Fld.ALD_MGRS_ACTIVE = member ∨ isManager s then s
    else
      let s := wr s .ald Fld.ALD_MGRS_ACTIVE member
      fwCells s ((treeLinks s).filter (· != n)) 11) s)

/-- HANDOVER_START (R469): a standby that ranks above the active manager has been standby for REVERT_S seconds. -/
def execHandoverStart (t : Nat) (s : State) : Host.Outcome State Fault Refusal :=
  let s := advance s t
  let sb := rd s .ald Fld.ALD_MGRS_STANDBY
  let x := memberOf s sb
  let rank (p u : Nat) : Nat := p * 2 ^ 64 + u
  let above := decide (rank x.prio x.uid < rank (cfg s .ald Fld.ALD_CTRL_MGR_PRIO) (Config.devUid % 2 ^ 64))
  .next (if isManager s ∧ rdB s .ald Fld.ALD_MGRS_SB_VALID ∧ x.state = 3 ∧ cfgB s .ald Fld.ALD_CTRL_REVERT_EN ∧ above
      ∧ s.ald.handAt = none ∧ s.ald.standbyAt + cfg s .ald Fld.ALD_MGR_CFG_REVERT_S * 4_000_000_000 ≤ t then
      let sh := (secondBoundary s (s.stitch + sysLead s) s.now).1
      relayDown { s with ald := { s.ald with handAt := some sh, handTo := sb } } 12
    else s)

/-- HANDOVER (R469): a member learns the handover stitch. -/
def execHandover (n dst sh : Nat) (s : State) : Host.Outcome State Fault Refusal :=
  .next (onCell n 12 (fun s => relayDown { s with ald := { s.ald with handAt := some sh, handTo := dst } } 12) s)

/-! ### The boundary (Table 2.1) -/

/-- The device becomes standalone (R77, R457): it keeps its count and period and discards what it holds. -/
def standalone (s : State) : State :=
  let s := dropCommits (noParent (setMstate s 0))
  let s := wr (wr s .ald Fld.ALD_MGRS_ACT_VALID 0) .ald Fld.ALD_MGRS_SB_VALID 0
  let s := wr (wr s .ald Fld.ALD_STAT_MGR 0) .ald Fld.ALD_STAT_MEMBER 0
  let s := { s with ald := { s.ald with leaveAt := none, joinAt := none, handAt := none, held := [], fresh := [] } }
  showLinks (if source s = 3 then loseSource s else s)

/-- ISOLATED (R458): the member has no qualifying parent; it discards the commits that it holds. -/
def isolate (s : State) : State :=
  let s := stick (noParent (setMstate (dropCommits s) 6)) .ald Fld.ALD_STICKY_ISOLATED
  let s := { s with ald := { s.ald with alone := s.now } }
  showLinks (if source s = 3 then loseSource s else s)

/-- The device takes the system's period (R73). -/
def takePeriod (s : State) (ns : Nat) : State :=
  wrAct (wrShd s .stitch Fld.SMP_STITCH_PERIOD_PERIOD_NS ns) .stitch Fld.SMP_STITCH_PERIOD_PERIOD_NS ns

/-- The last beacon of the parent. -/
def parentContent (s : State) : Option Beacon := (parentPort s).bind (fun n => (linkOf s n).beacon)

/-- The join boundary (R455), whose manager stitch is `sj` with the start `t`, or, where the grant came too late for it, the
first later one at nanosecond 0 of a second: the device takes the manager's period and its stitch count for this boundary,
which is a re-base (R49); it is MEMBER at once where it has applied the manager's last commit. -/
def joinNow (s : State) (sj t : Nat) : State :=
  let b := parentContent s
  let s := match b with | some b => takePeriod s b.period | none => s
  let s := { s with ald := { s.ald with joinAt := none }, nextBnd := s.bndAt + 4 * periodNs s }
  let s := rebase s (sj + (s.bndAt - t) / (4 * periodNs s))
  let fit := b.any (fun b => b.lastCid == lastCid s)
  let s := if fit then setMstate s 4 else bump (stick (setMstate s 3) .ald Fld.ALD_STICKY_RESYNC) .ald 10 1
  showLinks s

/-- A member whose period is not that of its parent's beacons missed the change: at nanosecond 0 of a second it takes the
manager's period, and the manager's count for this boundary (R46, R73). -/
def catchUp (s : State) : State :=
  match parentContent s with
  | some b =>
    if aldMember s ∧ !isManager s ∧ b.period ≠ periodNs s ∧ b.period ≠ 0 ∧ s.bndAt % 4_000_000_000 = 0
        ∧ !s.ald.pend.any (fun c => c.period == some b.period) then
      let p := 4 * b.period
      rebase (takePeriod s b.period) (((b.stitch + b.lag : Nat) : Int) + ((s.bndAt : Int) - (b.txTime / p * p : Nat)) / (p : Nat)).toNat
    else s
  | none => s

/-- What the active manager does for its members at a boundary: joins and leaves that fall due (R455, R457). -/
def memberChanges (s : State) : State :=
  if !isManager s then s
  else
    let s := s.ald.member.foldl (fun s e =>
      let x := e.2
      if x.change ≠ s.stitch then s
      else if x.state = 1 then
        let s := putMember s e.1 { x with state := if x.lastCid = lastCid s then 3 else 2, change := 0 }
        if x.lastCid = lastCid s then s else relayDown s 10
      else if x.state = 5 then bump (putMember s e.1 {}) .ald 5 1
      else s) s
    chooseStandby (showMaxLag s)

/-- The handover boundary (R469): the roles of the two managers change. -/
def handoverNow (s : State) : State :=
  let mine := s.ald.handTo == ownMember s
  let was := isManager s
  let s := { s with ald := { s.ald with handAt := none } }
  let s := wr s .ald Fld.ALD_MGRS_ACTIVE s.ald.handTo
  if mine then
    let s := noParent (wr s .ald Fld.ALD_STAT_MGR 1)
    let s := stick (bump { s with ald := { s.ald with firstBeacon := true } } .ald 13 1) .ald Fld.ALD_STICKY_HANDOVER
    showLinks (chooseStandby (showMaxLag (takeoverCommits s (s.stitch - 1) false)))
  else if was then
    let s := stick (bump s .ald 13 1) .ald Fld.ALD_STICKY_HANDOVER
    showLinks (follow (showMaxLag (wr s .ald Fld.ALD_STAT_MGR 3)))
  else s

/-- The system commits whose target the boundary begins: `done` says that the groups due there applied (R75). -/
def commitBoundary (s : State) (done : Bool) : State :=
  let now := s.ald.pend.filter (fun c => c.target == s.stitch)
  let s := setPend s (s.ald.pend.filter (fun c => c.target != s.stitch))
  now.foldl (fun s c =>
    if c.seen ∧ (done ∨ c.groups = 0) then
      let s := bump (wr s .ald Fld.ALD_CID_LAST c.cid) .ald 7 1
      let s := match c.period with
        | some p => wrAct (wrShd s .stitch Fld.SMP_STITCH_PERIOD_PERIOD_NS p) .stitch Fld.SMP_STITCH_PERIOD_PERIOD_NS p
        | none => s
      if isManager s then wr (wr s .ald Fld.ALD_SC_STAT_STATE 3) .ald Fld.ALD_SC_STAT_CID c.cid else s
    else missCommit (syncDiscard s)) s

/-- The end of a resynchronisation: its last round has applied (R464). -/
def syncBoundary (s : State) (applied : Nat → Bool) : State :=
  match s.ald.syncCid with
  | some cid =>
    if mstate s = 3 ∧ applied (cfg s .ald Fld.ALD_CTRL_SYNC_GROUP) then
      setMstate (wr { s with ald := { s.ald with syncCid := none } } .ald Fld.ALD_CID_LAST cid) 4
    else s
  | none => s

/-- The Aladotra part of step 1 of a boundary: joins, leaves, handovers and system commits that fall due. `applied`
says which groups applied. -/
def aldStep1 (s : State) (applied : Nat → Bool) : State :=
  let s := { s with ald := { s.ald with link := tabMap (fun _ => true) {} (fun x => { x with hcrc := 0 }) s.ald.link } }
  let s := match s.ald.joinAt with
    | some (sj, t) => if mstate s = 2 ∧ t ≤ s.bndAt ∧ s.bndAt % 4_000_000_000 = 0 then joinNow s sj t else s
    | none => s
  let s := if mstate s = 5 ∧ s.ald.leaveAt = some s.stitch then standalone s else s
  let s := syncBoundary (commitBoundary (memberChanges (catchUp s)) (s.ald.pend.any (fun c =>
    c.target == s.stitch && (setBitsOf 16 c.groups).all applied))) applied
  if s.ald.handAt = some s.stitch then handoverNow s else s

/-- The parent at a boundary (R453, R458): a member whose parent brought no beacon changes to a link that qualifies;
without any link it is ISOLATED. -/
def parentBoundary (s : State) : State :=
  if isManager s ∨ !(aldMember s ∨ mstate s = 2) then s
  else
    let down := match parentPort s with
      | some n => lstate s n < 2 || lstate s n == 6 || !cfgB s (.mac n) Fld.MAC_ALD_CFG_TREE_EN
      | none => true
    let stale := down || (parentPort s).any (fun n => decide ((linkOf s n).beaconAt + 1 < s.stitch))
    if !stale then s
    else match bestParent s true with
      | some (n, b) => showLinks (setParent s n b)
      | none => if !down then s else if mstate s = 2 then setMstate (noParent s) 1 else isolate s

/-- The decision of the active manager at the boundary `d` of each commit (R462). -/
def decideArms (s : State) : State :=
  if !isManager s then s
  else
    let due := s.ald.pend.filter (fun c => c.target - 1 - c.maxLag == s.stitch && !c.seen)
    due.foldl (fun s c =>
      let ok := c.refusals == [] && (dedup (ownMember s :: presentMembers s)).all (fun m => c.acks.contains m)
      if ok then
        let s := setPend s (s.ald.pend.map (fun x => if x.cid = c.cid then { x with seen := true } else x))
        wr (wr s .ald Fld.ALD_SC_STAT_STATE 2) .ald Fld.ALD_SC_STAT_CID c.cid
      else
        let s := missCommit (syncDiscard (setPend s (s.ald.pend.filter (fun x => x.cid != c.cid))))
        let s := bump (stick s .ald Fld.ALD_STICKY_SC_NOT_ARMED) .ald 8 1
        wr (wr s .ald Fld.ALD_SC_STAT_STATE 5) .ald Fld.ALD_SC_STAT_CID c.cid) s

/-- At step 6 of boundary s - 1 each device decides from the newest content that it holds (R462): it passes the
request to the sequencer, or discards the commit. -/
def passArms (s : State) : State :=
  let newest := s.ald.held.foldl (fun (o : Option Beacon) b =>
    match o with | some x => if x.stitch < b.stitch then some b else o | none => some b) none
  let due := s.ald.pend.filter (fun c => c.target == s.stitch + 1)
  due.foldl (fun (s : State) (c : SysCommit) =>
    let seen : Bool := (isManager s && c.seen) || (!isManager s && newest.any (fun b =>
      decide (c.target - 1 - c.maxLag ≤ b.stitch) && bit b.flags 15 && b.armCid == c.cid
        && b.armAt == c.target % 2 ^ 32))
    let ovr := decide (c.maxLag < totalLag s)
    if seen && !ovr && c.staged then
      let s := setPend s (s.ald.pend.map (fun x => if x.cid = c.cid then { x with seen := true } else x))
      (setBitsOf 16 c.groups).foldl (fun s g => requestGroup s g c.target) s
    else
      let s := setPend s (s.ald.pend.filter (fun x => x.cid != c.cid))
      stickIf ovr (missCommit (syncDiscard s)) .ald Fld.ALD_STICKY_LAG_EXCEEDED) s

/-- The lag of every link whose delay is known is that of the period in force (R452). -/
def showLags (s : State) : State :=
  (treeLinks s).foldl (fun s n =>
    if (linkOf s n).ex = [] then s else wr s (.mac n) Fld.MAC_ALD_STAT_LAG (linkLag s n)) s

/-- The Aladotra part of step 6 (R452, R453, R462): content is held, the parent is kept, commits are decided, and a
beacon or HELLO leaves on the links. -/
def aldStep6 (s : State) : State :=
  if !cfgB s .ald Fld.ALD_CTRL_EN then s
  else
    let s := showLags s
    let held := (s.ald.held ++ s.ald.fresh).filter (fun b => decide (s.stitch ≤ b.stitch + 512))
    let s := parentBoundary { s with ald := { s.ald with held := held, fresh := [] } }
    let s := passArms (decideArms s)
    let s := if isManager s then
        let s := emitBeacon s (ownContent s)
        { s with ald := { s.ald with firstBeacon := false } }
      else if aldMember s then
        match s.ald.held.find? (fun b => b.stitch + totalLag s == s.stitch) with
        | some b => emitBeacon s b
        | none => bump s .ald 2 1
      else s
    fwCells s (linksIn s (fun x => x == 1 || (!aldMember s && decide (2 ≤ x) && decide (x ≤ 5)))) 4

/-! ### Commits of the ALD pages (R473, R476) -/

/-- The rules of R473 that the latched values break. -/
def aldLatchedBad (s : State) : Bool :=
  let m := mstate s
  (ltc s .ald Fld.ALD_CTRL_EN == 1 && ltc s .ald Fld.ALD_SYS_ID_SYS_ID == 0)
    || (m != 0 && m != 1 && (ltc s .ald Fld.ALD_SYS_ID_SYS_ID != sysId s
        || ltc s .ald Fld.ALD_CTRL_SYNC_GROUP != cfg s .ald Fld.ALD_CTRL_SYNC_GROUP))
    || ltc s .ald Fld.ALD_TIMERS_STATUS_DIV == 0 || ltc s .ald Fld.ALD_TIMERS_ABSENT == 0
    || ltc s .ald Fld.ALD_TIMERS_PROBE_DIV == 0

/-- The ports of a pair entry word. -/
def pairPorts (w : Nat) : List Nat := [bits w 10 0, bits w 26 16]

/-- The rules of R476. -/
def redLatchedBad (s : State) : Bool :=
  let forget := ltc s .red Fld.ALD_RED_CTRL_FORGET_MS
  let ws := ((entriesLatched s .red 1).map (fun i => wordL s .red 1 i)).filter (fun w => bit w 31)
  let ports := ws.flatMap pairPorts
  forget == 0 || decide (10000 < forget) || ports.any (fun p => decide (1024 ≤ p))
    || (dedup ports).length != ports.length

/-- The ALD_SYS page takes new settings: EN starts LISTEN; clearing it makes the device standalone. -/
def aldApplied (old s : State) : State :=
  let was := cfgB old .ald Fld.ALD_CTRL_EN
  let on := cfgB s .ald Fld.ALD_CTRL_EN
  if on && !was then
    let s := wr (setMstate s 1) .ald Fld.ALD_STAT_MGR (if s.ald.capable then 3 else 0)
    { s with ald := { s.ald with alone := s.now } }
  else if was && !on then { standalone s with ald := { (standalone s).ald with member := [] } }
  else s

/-- The words of a member entry (Table 14.8): 0 on a device that is neither active manager nor standby. -/
def memberWords (s : State) (m : Nat) : List Nat :=
  let x := memberOf s m
  if mgrPos s = 1 ∨ mgrPos s = 2 then
    [x.uid % 2 ^ 32, x.uid / 2 ^ 32, b2n x.capable * 2 ^ 16 + x.lag % 256 * 256 + x.depth % 16 * 16 + x.state,
      x.parent % 1024 * 2 ^ 16 + x.lastCid % 2 ^ 16]
  else [0, 0, 0, 0]

/-- A record is written into space 2 (R459, Table 14.8). -/
def syncRecord (s : State) (ws : List Nat) : State :=
  let op := bits (ws.getD 0 0) 31 30
  { s with ald := { s.ald with records := s.ald.records ++ [ws]
                               badRecord := s.ald.badRecord || op == 0 || op == 3 } }

end Sys2Proof.Machine
end

