-- ==== Sys2Proof/Machine/BobCode.lean ====
section
/-! DEFINITION. The instruction words of the bobbins (Tables 10.3 and 10.4): their fields, and which instruction a
word is. -/

namespace Sys2Proof.Machine

/-- The instructions of Table 10.4, one for each opcode, function and selector. -/
inductive BobOp where
  | add | sub | and | or | xor | shl | shr | sar | mul | mulhu | min | max | minu | maxu | slt | sltu | popcnt | bswap
  | addi | andi | ori | xori | shiftiShl | shiftiShr | shiftiSar | lui | insi
  | beq | bne | blt | bge | bltu | bgeu | jal | jr
  | ld | lw | sd | sw | ldi | hld | hst
  | install | ctxrd | ctxwr | ctxevict | fsearch | flearn | pcharge | pread
  | drd | dwr | dawait | datest
  | timeNs | timeStitch | timePhase | timeEpoch | timeStatus
  | fwd | drop | new | fin | yield | rdperf | rdid
  deriving DecidableEq, Repr

/-! ### Fields (Table 10.3) -/

/-- Opcode. -/
def fOp (w : Nat) : Nat := bits w 31 26
/-- rd of formats R, I and T; rs1 of format B. -/
def fRd (w : Nat) : Nat := bits w 25 21
/-- rs1 of formats R, I and T; rs2 of format B. -/
def fRs1 (w : Nat) : Nat := bits w 20 16
/-- rs2 of formats R and T. -/
def fRs2 (w : Nat) : Nat := bits w 15 11
/-- fn of format R. -/
def fFn (w : Nat) : Nat := bits w 10 0
/-- imm of format I as written. -/
def fImm (w : Nat) : Nat := bits w 15 0
/-- imm or off of formats I and B, signed. -/
def fSimm (w : Nat) : Int := signed 16 w
/-- off of format J, signed. -/
def fOff (w : Nat) : Int := signed 26 w
/-- fn of format T. -/
def fTfn (w : Nat) : Nat := bits w 10 7
/-- The local address of format T. -/
def fTlm (w : Nat) : Nat := bits w 6 0 * 128
/-- tok of format A. -/
def fTok (w : Nat) : Nat := bits w 25 20
/-- rs1 of format A. -/
def fArs (w : Nat) : Nat := bits w 19 15
/-- size or fn of format A. -/
def fSize (w : Nat) : Nat := bits w 14 12
/-- The local address of formats A and E. -/
def fLm (w : Nat) : Nat := bits w 10 0 * 8
/-- fn of format E. -/
def fEfn (w : Nat) : Nat := bits w 25 22
/-- rs1 of format E. -/
def fErs1 (w : Nat) : Nat := bits w 21 17
/-- rs2 of format E. -/
def fErs2 (w : Nat) : Nat := bits w 16 12

/-! ### Opcodes (Table 10.4) -/

/-- The ALU functions of opcode 0x00, by fn. -/
def aluOps : List BobOp :=
  [.add, .sub, .and, .or, .xor, .shl, .shr, .sar, .mul, .mulhu, .min, .max, .minu, .maxu, .slt, .sltu, .popcnt, .bswap]

/-- The instruction that a word is; none for an illegal one (R308). -/
def bobOp (w : Nat) : Option BobOp :=
  match fOp w with
  | 0x00 => aluOps[fFn w]?
  | 0x01 => some .addi
  | 0x02 => some .andi
  | 0x03 => some .ori
  | 0x04 => some .xori
  | 0x05 => [BobOp.shiftiShl, .shiftiShr, .shiftiSar][bits w 7 6]?
  | 0x06 => some .lui
  | 0x07 => some .insi
  | 0x08 => some .beq
  | 0x09 => some .bne
  | 0x0A => some .blt
  | 0x0B => some .bge
  | 0x0C => some .bltu
  | 0x0D => some .bgeu
  | 0x0E => some .jal
  | 0x0F => some .jr
  | 0x10 => some .ld
  | 0x11 => some .lw
  | 0x12 => some .sd
  | 0x13 => some .sw
  | 0x14 => some .ldi
  | 0x15 => some .hld
  | 0x16 => some .hst
  | 0x18 => [BobOp.install, .ctxrd, .ctxwr, .ctxevict][fTfn w]?
  | 0x19 => [BobOp.fsearch, .flearn][fTfn w]?
  | 0x1A => [BobOp.pcharge, .pread][fTfn w]?
  | 0x1C => some .drd
  | 0x1D => some .dwr
  | 0x1E => [BobOp.dawait, .datest][fSize w]?
  | 0x1F => [BobOp.timeNs, .timeStitch, .timePhase, .timeEpoch, .timeStatus][bits w 2 0]?
  | 0x20 => [BobOp.fwd, .drop, .new][fEfn w]?
  | 0x21 => [BobOp.fin, .yield][fImm w]?
  | 0x22 => [BobOp.rdperf, .rdid][bits w 15 8]?
  | _ => none

end Sys2Proof.Machine
end

