-- ==== Sys2Proof/Machine/Bobbin.lean ====
section
/-! DEFINITION. What each bobbin instruction does (chapter 10). A command names the bobbin, the thread, the Sampler
time at which the instruction issues and the memory error that it meets. It runs the thread's next instruction,
where that is the command's; the instruction's fields come from the word at the program counter. -/

namespace Sys2Proof.Machine

/-! ### Fetch and issue (R297, R299, R307, R340) -/

/-- BOB_HOOP_ERR takes the place of an uncorrectable error. -/
def hoopErr (s : State) (h space loc : Nat) : State :=
  let p := Page.bobh h
  wr (wr (wr s p Fld.BOB_HOOP_ERR_VALID 1) p Fld.BOB_HOOP_ERR_SPACE space) p Fld.BOB_HOOP_ERR_LOC loc

/-- An error of the instruction store at address `a`; an uncorrectable one marks the word (R340), and a word that is in
error already gives one again. -/
def storeErr (s : State) (h a : Nat) (e : BobErr) : State :=
  match e with
  | .store false => bump s (.bobh h) 0 1
  | .store true =>
    let s := { s with ecc := tabPut s.ecc false (wordKey (.bobh h) 1 a) true }
    hoopErr (stick (bump s (.bobh h) 1 1) (.bobh h) Fld.BOBH_STICKY_ISTORE_UNCORR) h 0 a
  | _ => s

/-- The word that thread `t` fetches at its program counter, or a faulted state. -/
def fetch (s : State) (b t : Nat) (e : BobErr) : State × Option Nat :=
  let h := b / 16
  let a := (thrOf s b t).pc
  let s := storeErr s h a (if storeBad s h 1 a then .store true else e)
  if (segOf s h (a / 1024)).state < 2 then (bobFault s b t 7 a a 0, none)
  else if storeBad s h 1 a then (bobFault s b t 5 a a 0, none)
  else (s, some (word s (.bobh h) 1 a))

/-- Thread `t` of bobbin `b` issues its next instruction at time `t4`, where it is `op`. -/
def issue (op : BobOp) (f : State → Nat → State) (b t t4 : Nat) (e : BobErr) (s : State) :
    Host.Outcome State Fault Refusal :=
  if 4 ≤ t || !canIssue s b t then .next s
  else
    match fetch (advance s t4) b t (if op = .ldi then .ok else e) with
    | (s', none) => .next s'
    | (s', some w) => .next (if bobOp w = some op then f s' w else s)

/-- The instruction retires, and its thread goes on at `a`. -/
def retireTo (s : State) (b t a : Nat) : State :=
  perfPulse (putThr s b t { thrOf s b t with pc := a % 65536 }) b 2 none

/-- The instruction retires, and its thread goes on at the next one. -/
def retire (s : State) (b t : Nat) : State := retireTo s b t ((thrOf s b t).pc + 1)

/-- A fault of the instruction at the program counter. -/
def faultHere (s : State) (b t reason addr tok : Nat) : State := bobFault s b t reason (thrOf s b t).pc addr tok

/-! ### Arithmetic, compares and branches -/

/-- A 64-bit register read as signed. -/
def sgn (x : Nat) : Int := signed 64 x

/-- An ALU instruction of format R. -/
def aluR (b t : Nat) (f : Nat → Nat → Nat) (s : State) (w : Nat) : State :=
  retire (setG s b t (fRd w) (f (gReg s b t (fRs1 w)) (gReg s b t (fRs2 w)))) b t

/-- An ALU instruction of format I, given rs1 and the instruction word. -/
def aluI (b t : Nat) (f : Nat → Nat → Nat) (s : State) (w : Nat) : State :=
  retire (setG s b t (fRd w) (f (gReg s b t (fRs1 w)) w)) b t

/-- A compare and branch of format B. -/
def branch (b t : Nat) (f : Nat → Nat → Bool) (s : State) (w : Nat) : State :=
  let pc := (thrOf s b t).pc
  if f (gReg s b t (fRd w)) (gReg s b t (fRs1 w)) then retireTo s b t (unsigned 16 ((pc : Int) + fSimm w))
  else retire s b t

/-- An arithmetic shift right. -/
def sarW (x n : Nat) : Nat := unsigned 64 (sgn x / (2 ^ n : Nat))

/-- The bytes of a 64-bit value reversed. -/
def bswapW (x : Nat) : Nat := beNat (leBytes 8 x)

/-- ADD (R308). -/
def execBobAdd (b t t4 : Nat) (e : BobErr) (s : State) : Host.Outcome State Fault Refusal :=
  issue .add (aluR b t fun x y => x + y) b t t4 e s

/-- SUB (R308). -/
def execBobSub (b t t4 : Nat) (e : BobErr) (s : State) : Host.Outcome State Fault Refusal :=
  issue .sub (aluR b t fun x y => x + (2 ^ 64 - y)) b t t4 e s

/-- AND (R308). -/
def execBobAnd (b t t4 : Nat) (e : BobErr) (s : State) : Host.Outcome State Fault Refusal :=
  issue .and (aluR b t fun x y => x &&& y) b t t4 e s

/-- OR (R308). -/
def execBobOr (b t t4 : Nat) (e : BobErr) (s : State) : Host.Outcome State Fault Refusal :=
  issue .or (aluR b t fun x y => x ||| y) b t t4 e s

/-- XOR (R308). -/
def execBobXor (b t t4 : Nat) (e : BobErr) (s : State) : Host.Outcome State Fault Refusal :=
  issue .xor (aluR b t fun x y => x ^^^ y) b t t4 e s

/-- SHL (R308). -/
def execBobShl (b t t4 : Nat) (e : BobErr) (s : State) : Host.Outcome State Fault Refusal :=
  issue .shl (aluR b t fun x y => x * 2 ^ (y % 64)) b t t4 e s

/-- SHR (R308). -/
def execBobShr (b t t4 : Nat) (e : BobErr) (s : State) : Host.Outcome State Fault Refusal :=
  issue .shr (aluR b t fun x y => x / 2 ^ (y % 64)) b t t4 e s

/-- SAR (R308). -/
def execBobSar (b t t4 : Nat) (e : BobErr) (s : State) : Host.Outcome State Fault Refusal :=
  issue .sar (aluR b t fun x y => sarW x (y % 64)) b t t4 e s

/-- MUL (R308): the low 64 bits. -/
def execBobMul (b t t4 : Nat) (e : BobErr) (s : State) : Host.Outcome State Fault Refusal :=
  issue .mul (aluR b t fun x y => x * y) b t t4 e s

/-- MULHU (R308): the high 64 bits of the unsigned product. -/
def execBobMulhu (b t t4 : Nat) (e : BobErr) (s : State) : Host.Outcome State Fault Refusal :=
  issue .mulhu (aluR b t fun x y => x * y / 2 ^ 64) b t t4 e s

/-- MIN (R308). -/
def execBobMin (b t t4 : Nat) (e : BobErr) (s : State) : Host.Outcome State Fault Refusal :=
  issue .min (aluR b t fun x y => if sgn x ≤ sgn y then x else y) b t t4 e s

/-- MAX (R308). -/
def execBobMax (b t t4 : Nat) (e : BobErr) (s : State) : Host.Outcome State Fault Refusal :=
  issue .max (aluR b t fun x y => if sgn x ≤ sgn y then y else x) b t t4 e s

/-- MINU (R308). -/
def execBobMinu (b t t4 : Nat) (e : BobErr) (s : State) : Host.Outcome State Fault Refusal :=
  issue .minu (aluR b t fun x y => if x ≤ y then x else y) b t t4 e s

/-- MAXU (R308). -/
def execBobMaxu (b t t4 : Nat) (e : BobErr) (s : State) : Host.Outcome State Fault Refusal :=
  issue .maxu (aluR b t fun x y => if x ≤ y then y else x) b t t4 e s

/-- SLT (R308). -/
def execBobSlt (b t t4 : Nat) (e : BobErr) (s : State) : Host.Outcome State Fault Refusal :=
  issue .slt (aluR b t fun x y => b2n (decide (sgn x < sgn y))) b t t4 e s

/-- SLTU (R308). -/
def execBobSltu (b t t4 : Nat) (e : BobErr) (s : State) : Host.Outcome State Fault Refusal :=
  issue .sltu (aluR b t fun x y => b2n (decide (x < y))) b t t4 e s

/-- POPCNT (R308). -/
def execBobPopcnt (b t t4 : Nat) (e : BobErr) (s : State) : Host.Outcome State Fault Refusal :=
  issue .popcnt (aluR b t fun x _ => popCount 64 x) b t t4 e s

/-- BSWAP (R308): rs2 is ignored. -/
def execBobBswap (b t t4 : Nat) (e : BobErr) (s : State) : Host.Outcome State Fault Refusal :=
  issue .bswap (aluR b t fun x _ => bswapW x) b t t4 e s

/-- ADDI (R308). -/
def execBobAddi (b t t4 : Nat) (e : BobErr) (s : State) : Host.Outcome State Fault Refusal :=
  issue .addi (aluI b t fun x w => unsigned 64 ((x : Int) + fSimm w)) b t t4 e s

/-- ANDI (R308). -/
def execBobAndi (b t t4 : Nat) (e : BobErr) (s : State) : Host.Outcome State Fault Refusal :=
  issue .andi (aluI b t fun x w => x &&& fImm w) b t t4 e s

/-- ORI (R308). -/
def execBobOri (b t t4 : Nat) (e : BobErr) (s : State) : Host.Outcome State Fault Refusal :=
  issue .ori (aluI b t fun x w => x ||| fImm w) b t t4 e s

/-- XORI (R308). -/
def execBobXori (b t t4 : Nat) (e : BobErr) (s : State) : Host.Outcome State Fault Refusal :=
  issue .xori (aluI b t fun x w => x ^^^ fImm w) b t t4 e s

/-- SHIFTI with selector 0 (R308): a shift left. -/
def execBobShiftiShl (b t t4 : Nat) (e : BobErr) (s : State) : Host.Outcome State Fault Refusal :=
  issue .shiftiShl (aluI b t fun x w => x * 2 ^ bits w 5 0) b t t4 e s

/-- SHIFTI with selector 1 (R308): a logical shift right. -/
def execBobShiftiShr (b t t4 : Nat) (e : BobErr) (s : State) : Host.Outcome State Fault Refusal :=
  issue .shiftiShr (aluI b t fun x w => x / 2 ^ bits w 5 0) b t t4 e s

/-- SHIFTI with selector 2 (R308): an arithmetic shift right. -/
def execBobShiftiSar (b t t4 : Nat) (e : BobErr) (s : State) : Host.Outcome State Fault Refusal :=
  issue .shiftiSar (aluI b t fun x w => sarW x (bits w 5 0)) b t t4 e s

/-- LUI (R308): imm × 2^16, sign-extended. -/
def execBobLui (b t t4 : Nat) (e : BobErr) (s : State) : Host.Outcome State Fault Refusal :=
  issue .lui (aluI b t fun _ w => unsigned 64 (fSimm w * 65536)) b t t4 e s

/-- INSI (R308): the 16-bit lane of rd that the rs1 field names, mod 4, takes imm. -/
def execBobInsi (b t t4 : Nat) (e : BobErr) (s : State) : Host.Outcome State Fault Refusal :=
  issue .insi (fun s w =>
    retire (setG s b t (fRd w) (setBits (gReg s b t (fRd w)) (16 * (fRs1 w % 4)) 16 (fImm w))) b t) b t t4 e s

/-- BEQ (R308). -/
def execBobBeq (b t t4 : Nat) (e : BobErr) (s : State) : Host.Outcome State Fault Refusal :=
  issue .beq (branch b t fun x y => x == y) b t t4 e s

/-- BNE (R308). -/
def execBobBne (b t t4 : Nat) (e : BobErr) (s : State) : Host.Outcome State Fault Refusal :=
  issue .bne (branch b t fun x y => x != y) b t t4 e s

/-- BLT (R308). -/
def execBobBlt (b t t4 : Nat) (e : BobErr) (s : State) : Host.Outcome State Fault Refusal :=
  issue .blt (branch b t fun x y => decide (sgn x < sgn y)) b t t4 e s

/-- BGE (R308). -/
def execBobBge (b t t4 : Nat) (e : BobErr) (s : State) : Host.Outcome State Fault Refusal :=
  issue .bge (branch b t fun x y => decide (sgn y ≤ sgn x)) b t t4 e s

/-- BLTU (R308). -/
def execBobBltu (b t t4 : Nat) (e : BobErr) (s : State) : Host.Outcome State Fault Refusal :=
  issue .bltu (branch b t fun x y => decide (x < y)) b t t4 e s

/-- BGEU (R308). -/
def execBobBgeu (b t t4 : Nat) (e : BobErr) (s : State) : Host.Outcome State Fault Refusal :=
  issue .bgeu (branch b t fun x y => decide (y ≤ x)) b t t4 e s

/-- JAL (R308): g31 takes the address of the next instruction, modulo 65,536 as R297 holds it. -/
def execBobJal (b t t4 : Nat) (e : BobErr) (s : State) : Host.Outcome State Fault Refusal :=
  issue .jal (fun s w =>
    let pc := (thrOf s b t).pc
    retireTo (setG s b t 31 (pc + 1)) b t (unsigned 16 ((pc : Int) + fOff w))) b t t4 e s

/-- JR (R308): the jump address is read before rd is written. -/
def execBobJr (b t t4 : Nat) (e : BobErr) (s : State) : Host.Outcome State Fault Refusal :=
  issue .jr (fun s w =>
    let dst := unsigned 16 ((gReg s b t (fRs1 w) : Int) + fSimm w)
    retireTo (setG s b t (fRd w) ((thrOf s b t).pc + 1)) b t dst) b t t4 e s

/-! ### Local memory (R305, R318) -/

/-- Whether bytes of local memory lie in the range of a read in flight. -/
def interlocked (s : State) (b a n : Nat) : Bool :=
  (accOf s b).any (fun x => x.data.isNone && decide (a < x.lm + x.size) && decide (x.lm < a + n))

/-- A local-memory error met by an access at `a`: the state, and whether the bobbin goes on (R305). -/
def lmErr (s : State) (b t a : Nat) (e : BobErr) : State × Bool :=
  match e with
  | .mem false => (bump s (.bob b) 15 1, true)
  | .mem true => (faultHere s b t 4 a 0, false)
  | _ => (s, true)

/-- A local load or store of `n` bytes at rs1 + imm: it waits for a read in flight (R318), and faults where the
address is misaligned or too high. -/
def lmAccess (b t n : Nat) (e : BobErr) (f : State → Nat → State) (s : State) (w : Nat) : State :=
  let a := unsigned 64 ((gReg s b t (fRs1 w) : Int) + fSimm w)
  if a % n ≠ 0 ∨ 16384 < a + n then faultHere s b t 8 a 0
  else if interlocked s b a n then s
  else match lmErr s b t a e with
    | (s, false) => s
    | (s, true) => retire (f s a) b t

/-- LD (R308). -/
def execBobLd (b t t4 : Nat) (e : BobErr) (s : State) : Host.Outcome State Fault Refusal :=
  issue .ld (fun s w => lmAccess b t 8 e (fun s a => setG s b t (fRd w) (leNat (lmRead s b a 8))) s w) b t t4 e s

/-- LW (R308): zero-extended. -/
def execBobLw (b t t4 : Nat) (e : BobErr) (s : State) : Host.Outcome State Fault Refusal :=
  issue .lw (fun s w => lmAccess b t 4 e (fun s a => setG s b t (fRd w) (leNat (lmRead s b a 4))) s w) b t t4 e s

/-- SD (R308). -/
def execBobSd (b t t4 : Nat) (e : BobErr) (s : State) : Host.Outcome State Fault Refusal :=
  issue .sd (fun s w => lmAccess b t 8 e (fun s a => lmWrite s b a (leBytes 8 (gReg s b t (fRd w)))) s w) b t t4 e s

/-- SW (R308). -/
def execBobSw (b t t4 : Nat) (e : BobErr) (s : State) : Host.Outcome State Fault Refusal :=
  issue .sw (fun s w => lmAccess b t 4 e (fun s a => lmWrite s b a (leBytes 4 (gReg s b t (fRd w)))) s w) b t t4 e s

/-- LDI (R308): a word of the instruction store, at the instruction's own address plus imm. -/
def execBobLdi (b t t4 : Nat) (e : BobErr) (s : State) : Host.Outcome State Fault Refusal :=
  issue .ldi (fun s w =>
    let h := b / 16
    let a := unsigned 16 (((thrOf s b t).pc : Int) + fSimm w)
    let s := storeErr s h a (if storeBad s h 1 a then .store true else e)
    if storeBad s h 1 a then faultHere s b t 5 a 0
    else retire (setG s b t (fRd w) (word s (.bobh h) 1 a)) b t) b t t4 e s

/-! ### Frame header (R306) -/

/-- The metadata slots of a frame (Table 10.2); the lookup destination of a frame that the Filet discards is a
free value. -/
def metaSlot (s : State) (x : Frm) (th : BobThr) (i : Nat) : State × Nat :=
  let r := x.res
  let tw (k : Nat) : Nat := (timeWords r.parsed.time).getD k 0
  let hit (k : Nat) : Nat := match r.parsed.hits[k]? with | some q => q.1 + q.2 * 2 ^ 14 | none => 0
  match i with
  | 0 => (s, x.inPort)
  | 1 => match plainDest r.cls r.fil with
    | .port n => (s, n)
    | .group g => (s, g + 2 ^ 16)
    | .flood g => (s, g + 2 ^ 17)
    | _ => let d := draw s 5 18; (d.2, d.1)
  | 2 => (s, r.tclass)
  | 3 => (s, parseFlags r.parsed + b2n r.sk.stale * 2 ^ 16)
  | 4 => (s, x.bytes.length + 4)
  | 5 => (s, r.epoch)
  | 6 => (s, r.sk.digest)
  | 7 => (s, x.arrival / 4)
  | 8 => (s, tw 0 + tw 1 * 2 ^ 32)
  | 9 => (s, tw 2 + tw 3 * 2 ^ 32)
  | 10 => (s, tw 4)
  | 11 => (s, hit 0 + hit 1 * 2 ^ 24 + r.parsed.hits.length * 2 ^ 48)
  | 12 => (s, hit 2 + hit 3 * 2 ^ 24)
  | 13 => (s, match r.sk.ctx with | some c => c + 2 ^ 31 | none => 0)
  | 14 => (s, th.handler + th.source * 2 ^ 8)
  | _ => (s, 0)

/-- The offset rs1 + imm of HLD and HST. -/
def hdrOffset (s : State) (b t w : Nat) : Nat := unsigned 64 ((gReg s b t (fRs1 w) : Int) + fSimm w)

/-- HLD (R306). -/
def execBobHld (b t t4 : Nat) (e : BobErr) (s : State) : Host.Outcome State Fault Refusal :=
  issue .hld (fun s w =>
    let o := hdrOffset s b t w
    let th := thrOf s b t
    match th.work with
    | .frame f =>
      if o + 7 < th.hdr.length then retire (setG s b t (fRd w) (beNat (slice th.hdr o 8))) b t
      else if 0x100 ≤ o ∧ o < 0x180 ∧ o % 8 = 0 then
        let r := metaSlot s (frm s f) th ((o - 0x100) / 8)
        retire (setG r.1 b t (fRd w) r.2) b t
      else faultHere s b t 10 o 0
    | _ => faultHere s b t 10 o 0) b t t4 e s

/-- HST (R306): it stores rd, byte 0 of the eight in bits 63:56. -/
def execBobHst (b t t4 : Nat) (e : BobErr) (s : State) : Host.Outcome State Fault Refusal :=
  issue .hst (fun s w =>
    let o := hdrOffset s b t w
    let th := thrOf s b t
    match th.work with
    | .frame _ =>
      if o + 7 < th.hdr.length then
        retire (putThr s b t { th with hdr := splice th.hdr o (beBytes 8 (gReg s b t (fRd w))), hst := true }) b t
      else faultHere s b t 10 o 0
    | _ => faultHere s b t 10 o 0) b t t4 e s

/-! ### Table operations (R309, R310) -/

/-- A table operation is performed: its thread waits until its result `v` is written to rd. -/
def tableOp (s : State) (b t w v : Nat) : State :=
  setWait (retire (bump s (.bob b) 12 1) b t) b t (.table (fRd w) v)

/-- TABLE_OP_COMPLETE (R309): the result is written to rd and the thread becomes ready. -/
def execTableOpComplete (b t : Nat) (s : State) : Host.Outcome State Fault Refusal :=
  match (thrOf s b t).wait with
  | .table rd v => .next (if bobOn s b then setWait (setG s b t rd v) b t .run else s)
  | _ => .next s

/-- A context that a bobbin names by index: none of FREE and of indexes that no context has. -/
def bobCtx (s : State) (h i : Nat) : Option Ctx :=
  if 32768 ≤ i ∨ (ctxOf s h i).state = 0 then none else some (ctxOf s h i)

/-- The image that 128 bytes of local memory hold. -/
def lmImage (s : State) (b a : Nat) : FlowRec := recOfWords (wordsOf (lmRead s b a 128) 32)

/-- INSTALL (R284, R309). The flow named is that of the MISS that the thread handles, or else of the image, or
else of the context. -/
def execBobInstall (b t t4 : Nat) (e : BobErr) (s : State) : Host.Outcome State Fault Refusal :=
  issue .install (fun s w =>
    match lmErr s b t (fTlm w) e with
    | (s, false) => s
    | (s, true) =>
      let h := b / 16
      let i := gReg s b t (fRs1 w)
      let r := gReg s b t (fRs2 w)
      let img := if bit r 62 then some (lmImage s b (fTlm w)) else none
      let k := match (thrOf s b t).work, img with
        | .event ev, _ => (ev.img.digest, ev.img.profile)
        | _, some m => (m.digest, m.profile)
        | _, none => ((ctxOf s h i).img.digest, (ctxOf s h i).img.profile)
      let q := skInstall s h i k.1 k.2 (bits r 25 0) (bit r 63) img
      tableOp q.1 b t w (b2n !q.2)) b t t4 e s

/-- CTXRD (R309). -/
def execBobCtxrd (b t t4 : Nat) (e : BobErr) (s : State) : Host.Outcome State Fault Refusal :=
  issue .ctxrd (fun s w =>
    match bobCtx s (b / 16) (gReg s b t (fRs1 w)) with
    | none => tableOp s b t w 1
    | some c =>
      match lmErr s b t (fTlm w) e with
      | (s, false) => s
      | (s, true) => tableOp (lmWords s b (fTlm w) (recWords c.img)) b t w 0) b t t4 e s

/-- CTXWR (R309): the field groups of the mask take their values from the image in local memory. -/
def execBobCtxwr (b t t4 : Nat) (e : BobErr) (s : State) : Host.Outcome State Fault Refusal :=
  issue .ctxwr (fun s w =>
    match lmErr s b t (fTlm w) e with
    | (s, false) => s
    | (s, true) =>
      let h := b / 16
      let i := gReg s b t (fRs1 w)
      match bobCtx s h i with
      | none => tableOp s b t w 1
      | some c =>
        let img := recSet (gReg s b t (fRs2 w) % 256) (lmImage s b (fTlm w)) c.img
        tableOp (putCtx s h i { c with img := img, dirty := true }) b t w 0) b t t4 e s

/-- CTXEVICT (R282, R309): it waits for room in the event queue of the flow's bobbin. -/
def execBobCtxevict (b t t4 : Nat) (e : BobErr) (s : State) : Host.Outcome State Fault Refusal :=
  issue .ctxevict (fun s w =>
    let h := b / 16
    let i := gReg s b t (fRs1 w)
    match bobCtx s h i with
    | none => tableOp s b t w 1
    | some c =>
      if evqRoom s (flowBobbin h c.img.digest) = 0 then s
      else tableOp (ctxEvict s h i 3) b t w 0) b t t4 e s

/-- FSEARCH (R247, R309). -/
def execBobFsearch (b t t4 : Nat) (e : BobErr) (s : State) : Host.Outcome State Fault Refusal :=
  issue .fsearch (fun s w =>
    let p := b / 64
    let k := gReg s b t (fRs1 w)
    match (filFind s p k (fun x => x.stg == 1)).or (filFind s p k (fun _ => true)) with
    | some l =>
      match lmErr s b t (fTlm w) e with
      | (s, false) => s
      | (s, true) => tableOp (lmWords s b (fTlm w) (filWords (filEnt s p l))) b t w 0
    | none => tableOp s b t w 1) b t t4 e s

/-- FLEARN (R309, R310). -/
def execBobFlearn (b t t4 : Nat) (e : BobErr) (s : State) : Host.Outcome State Fault Refusal :=
  issue .flearn (fun s w =>
    let k := gReg s b t (fRs1 w)
    let port := gReg s b t (fRs2 w)
    let mac := k % 2 ^ 48
    if k / 2 ^ 60 ≠ 0 ∨ groupAddr mac ∨ mac = 0 ∨ 1024 ≤ port then tableOp s b t w 1
    else tableOp (raiseLearn s (b / 16) k port s.now) b t w 0) b t t4 e s

/-- PCHARGE (R309, R393): the policer index is taken mod 2^18. -/
def execBobPcharge (b t t4 : Nat) (e : BobErr) (s : State) : Host.Outcome State Fault Refusal :=
  issue .pcharge (fun s w =>
    let r := polCharge s (gReg s b t (fRs1 w) % 262144) (gReg s b t (fRs2 w))
    tableOp r.1 b t w (b2n !r.2)) b t t4 e s

/-- PREAD (R309, R400): two words of configuration and two of state. -/
def execBobPread (b t t4 : Nat) (e : BobErr) (s : State) : Host.Outcome State Fault Refusal :=
  issue .pread (fun s w =>
    match lmErr s b t (fTlm w) e with
    | (s, false) => s
    | (s, true) =>
      let i := gReg s b t (fRs1 w) % 262144
      let x := polOf s i
      tableOp (lmWords s b (fTlm w) (words s .pol 1 (2 * i) 2 ++ [x.tokens, x.last])) b t w 0) b t t4 e s

/-! ### DRAM (R314 to R321, R328) -/

/-- An error of the window map met at entry `i`: an uncorrectable one marks the entry (R340). -/
def winErr (s : State) (h i : Nat) (e : BobErr) : State :=
  match e with
  | .win false => bump s (.bobh h) 2 1
  | .win true =>
    let s := { s with ecc := tabPut s.ecc false (wordKey (.bobh h) 4 i) true }
    hoopErr (stick (bump s (.bobh h) 3 1) (.bobh h) Fld.BOBH_STICKY_MAP_UNCORR) h 1 i
  | _ => s

/-- The accesses in flight on a DRAM channel. -/
def channelLoad (s : State) (c : Nat) : Nat :=
  s.bob.acc.foldl (fun n e => n + (e.2.filter (fun a => servedBy s a.addr == c)).length) 0

/-- The reason for which an access is refused before translation, if any (R316, R317): a token or size misused,
a local range misaligned or too high, a range that overlaps a read in flight. -/
def accessFault (s : State) (b t w a n : Nat) (write : Bool) : Option Nat :=
  let k := tokBase t + fTok w
  if tokCount t ≤ fTok w || tokState s b k != 0 || decide (5 < fSize w) || a % n != 0 then some 9
  else if fLm w % n != 0 || decide (16384 < fLm w + n) then some 8
  else if !write && interlocked s b (fLm w) n then some 9
  else none

/-- The reason for which translation fails, if any (R314). -/
def windowFault (s : State) (b a : Nat) (write : Bool) : Option Nat :=
  let h := b / 16
  let w0 := word s (.bobh h) 4 (2 * (a / 65536))
  let w1 := word s (.bobh h) 4 (2 * (a / 65536) + 1)
  if 2 ^ 30 ≤ a || storeBad s h 4 (a / 65536) || !bit w0 31 || !bit w1 (b % 16) then some 1
  else if !bit w0 (if write then 30 else 29) then some 2
  else none

/-- A DRAM access at the issue: a fault, a wait for its channel, or a token ISSUED (R314, R317, R318). -/
def issueAccess (write : Bool) (b t : Nat) (e : BobErr) (s : State) (w : Nat) : State :=
  let h := b / 16
  let a := gReg s b t (fArs w)
  let n := 2 ^ (3 + fSize w)
  let tok := (tokBase t + fTok w) % 128
  match accessFault s b t w a n write with
  | some r =>
    let s := setWait s b t .run
    if r = 9 ∧ tokCount t ≤ fTok w then
      let d := draw s 6 7
      faultHere d.2 b t 9 a d.1
    else faultHere s b t r (if r = 8 then fLm w else a) (if r = 9 then tok else 0)
  | none =>
    let e := if storeBad s h 4 (a / 65536) then .win true else e
    let s := winErr s h (a / 65536) (if a < 2 ^ 30 then e else .ok)
    match windowFault s b a write with
    | some r => faultHere (setWait s b t .run) b t r a tok
    | none =>
      let addr := bits (word s (.bobh h) 4 (2 * (a / 65536))) 18 0 * 65536 + a % 65536
      if 2048 ≤ channelLoad s (servedBy s addr) then setWait s b t .room
      else
        match (if write then lmErr s b t (fLm w) e else (s, true)) with
        | (s, false) => s
        | (s, true) =>
          let x : BobAcc := { tok := some tok, thread := t, window := a, addr := addr, lm := fLm w, size := n
                              pc := (thrOf s b t).pc, data := if write then some (lmRead s b (fLm w) n) else none }
          let drd (x : BobAcc) : Bool := x.data.isNone && x.tok.isSome
          let s := perfRise (putAcc s b (accOf s b ++ [x])) b 9 none ((accOf s b).any drd) (drd x)
          let s := perfPulse (bump s (.bob b) 9 1) b 8 (some t)
          retire (setWait s b t .run) b t

/-- DRD (R317). -/
def execBobDrd (b t t4 : Nat) (e : BobErr) (s : State) : Host.Outcome State Fault Refusal :=
  issue .drd (issueAccess false b t e) b t t4 e s

/-- DWR (R317, R318): its bytes are copied at issue. -/
def execBobDwr (b t t4 : Nat) (e : BobErr) (s : State) : Host.Outcome State Fault Refusal :=
  issue .dwr (issueAccess true b t e) b t t4 e s

/-- DRAM_ISSUE_ACCEPTED (R317): an access that waited for its channel is issued, once there is room. -/
def execDramIssueAccepted (b t t4 : Nat) (e : BobErr) (s : State) : Host.Outcome State Fault Refusal :=
  let th := thrOf s b t
  let go := { putThr s b t { th with wait := .run } with now := s.now }
  if th.wait != .room || !canIssue go b t then .next s
  else
    match fetch (advance go t4) b t e with
    | (s', none) => .next s'
    | (s', some w) =>
      match bobOp w with
      | some .drd => .next (issueAccess false b t e s' w)
      | some .dwr => .next (issueAccess true b t e s' w)
      | _ => .next s

/-- The 128-byte lines that an access touches. -/
def linesOf (x : BobAcc) : List Nat := (List.range ((x.size + 127) / 128)).map (fun i => x.addr / 128 + i)

/-- Access `i` of a bobbin may be performed: every earlier one on a line of its own has been (R288, R321). -/
def accFree (s : State) (b i : Nat) : Bool :=
  match (accOf s b)[i]? with
  | none => false
  | some x => ((accOf s b).take i).all (fun y => (linesOf y).all (fun l => !(linesOf x).contains l))

/-- Token `k` becomes DONE, and a thread that awaits it goes on with the token FREE (R319). -/
def tokDone (s : State) (b k : Nat) : State :=
  match [0, 1, 2, 3].find? (fun t => (thrOf s b t).wait == .token k) with
  | some t => retire (setWait s b t .run) b t
  | none => setDone s b k true

/-- An access completes with an uncorrectable error: the bobbin is fenced with the program counter of the issue
(R326, R328). -/
def accError (s : State) (b : Nat) (x : BobAcc) : State :=
  match x.tok with
  | some k => bobFault s b x.thread 3 x.pc x.window k
  | none => s

/-- The work threads that have reached END look again at their reads (R320). -/
def endChecks (s : State) (b : Nat) : State :=
  [1, 2, 3].foldl (fun s t => if (thrOf s b t).wait = .fin then endCheck s b t else s) s

/-- DRD_COMPLETE (R318, R328): access `i` in flight is a read; its bytes land and its token becomes DONE. `err` says
that the DRAM finds an uncorrectable error; a fenced bobbin discards the read (R327). -/
def execDrdComplete (b i : Nat) (err : Bool) (e : BobErr) (s : State) : Host.Outcome State Fault Refusal :=
  match (accOf s b)[i]? with
  | none => .next s
  | some x =>
    if x.data.isSome || !accFree s b i then .next s
    else
      let s := putAcc s b ((accOf s b).eraseIdx i)
      let bad := err || dramBad s x.addr x.size
      let s := if err then ddrUncorr s x.addr else s
      if fenced s (.bob b) then .next s
      else if bad then .next (accError s b x)
      else
        let s := match e with
          | .mem false => bump s (.bob b) 15 1
          | _ => s
        if e = .mem true then .next (bobFault s b x.thread 4 x.pc x.lm 0)
        else
          let s := bump (lmWrite s b x.lm (dramRead s x.addr x.size)) (.bob b) 10 x.size
          .next (endChecks (match x.tok with | some k => tokDone s b k | none => s) b)

/-- DWR_COMPLETE (R318): access `i` in flight is a write; it becomes visible and its token DONE. A write on a channel
fenced with no spare ends with an uncorrectable error (R328). -/
def execDwrComplete (b i : Nat) (s : State) : Host.Outcome State Fault Refusal :=
  match (accOf s b)[i]? with
  | none => .next s
  | some x =>
    match x.data with
    | none => .next s
    | some d =>
      if !accFree s b i then .next s
      else
        let dead := ddrDead s (servedBy s x.addr)
        let s := putAcc s b ((accOf s b).eraseIdx i)
        if dead then .next (accError s b x)
        else
          let s := bump (dramWrite s x.addr d) (.bob b) 11 x.size
          if fenced s (.bob b) then .next s
          else .next (match x.tok with | some k => tokDone s b k | none => s)

/-- DAWAIT (R319). -/
def execBobDawait (b t t4 : Nat) (e : BobErr) (s : State) : Host.Outcome State Fault Refusal :=
  issue .dawait (fun s w =>
    let k := tokBase t + fTok w
    if tokCount t ≤ fTok w then
      let d := draw s 6 7
      faultHere d.2 b t 9 0 d.1
    else match tokState s b k with
      | 0 => faultHere s b t 9 0 k
      | 1 => setWait s b t (.token k)
      | _ => retire (setDone s b k false) b t) b t t4 e s

/-- DATEST (R319): the result goes to the register of bits 19:15. -/
def execBobDatest (b t t4 : Nat) (e : BobErr) (s : State) : Host.Outcome State Fault Refusal :=
  issue .datest (fun s w =>
    if tokCount t ≤ fTok w then
      let d := draw s 6 7
      faultHere d.2 b t 9 0 d.1
    else retire (setG s b t (fArs w) (tokState s b (tokBase t + fTok w))) b t) b t t4 e s

/-! ### Time, identity, counters (R308, R337, R415) -/

/-- An instruction that writes a value to rd. -/
def readTo (b t : Nat) (f : State → Nat) (s : State) (w : Nat) : State := retire (setG s b t (fRd w) (f s)) b t

/-- TIME selector 0: Sampler time in ns. -/
def execBobTimeNs (b t t4 : Nat) (e : BobErr) (s : State) : Host.Outcome State Fault Refusal :=
  issue .timeNs (readTo b t nowNs) b t t4 e s

/-- TIME selector 1: the stitch count. -/
def execBobTimeStitch (b t t4 : Nat) (e : BobErr) (s : State) : Host.Outcome State Fault Refusal :=
  issue .timeStitch (readTo b t (·.stitch)) b t t4 e s

/-- TIME selector 2: ns since the last boundary. -/
def execBobTimePhase (b t t4 : Nat) (e : BobErr) (s : State) : Host.Outcome State Fault Refusal :=
  issue .timePhase (readTo b t fun s => nowNs s - s.bndAt / 4) b t t4 e s

/-- TIME selector 3: the commit epoch. -/
def execBobTimeEpoch (b t t4 : Nat) (e : BobErr) (s : State) : Host.Outcome State Fault Refusal :=
  issue .timeEpoch (readTo b t (·.epoch)) b t t4 e s

/-- The time status word of Table 13.2 in bits 31:0 and STEP_SEQ in bits 47:32 (R415). -/
def timeStatus (s : State) : Nat :=
  rd s .tod Fld.SMP_TOD_STAT_STATUS + rd s .tod Fld.SMP_STEP_SEQ_STEP_SEQ * 2 ^ 32

/-- TIME selector 4: the time status. -/
def execBobTimeStatus (b t t4 : Nat) (e : BobErr) (s : State) : Host.Outcome State Fault Refusal :=
  issue .timeStatus (readTo b t timeStatus) b t t4 e s

/-- RDPERF (R337). -/
def execBobRdperf (b t t4 : Nat) (e : BobErr) (s : State) : Host.Outcome State Fault Refusal :=
  issue .rdperf (fun s w =>
    if (thrOf s b t).perfRd then
      let r := perfRead s b (bits w 2 0)
      retire (setG r.2 b t (fRd w) r.1) b t
    else
      let s := stick (bump s (.bob b) 16 1) (.bob b) Fld.BOB_STICKY_PERF_DENIED
      retire (setG s b t (fRd w) 0) b t) b t t4 e s

/-- RDID (R308): the bobbin number in bits 8:0, the thread in bits 10:9. -/
def execBobRdid (b t t4 : Nat) (e : BobErr) (s : State) : Host.Outcome State Fault Refusal :=
  issue .rdid (readTo b t fun _ => b + t * 512) b t t4 e s

/-! ### Emitting frames (R311 to R313, R347) -/

/-- A port to which FWD and NEW may not send (R311). -/
def emitBad (p : Nat) : Bool := p == 1031 || decide (1040 ≤ p)

/-- The head override of a frame whose header HST has written (R347): the state with its cell taken, or none while
the emit account cannot take it. -/
def headOverride (s : State) (b c f : Nat) (th : BobThr) : State × Bool :=
  let src := 1048 + b / 64
  if !th.hst then (s, true)
  else if !sourceReady s src c then (s, false)
  else match takeCell s (8 * src + c) none with
    | (s, none) => (s, false)
    | (s, some cell) =>
      let x := frm s f
      (putFrm s f { x with headCell := some cell, head := th.hdr.take x.bytes.length }, true)

/-- FWD (R311): the frame takes its place in the order at once (R349); it waits for its head override cell and
for queue entries. -/
def execBobFwd (b t t4 : Nat) (e : BobErr) (s : State) : Host.Outcome State Fault Refusal :=
  issue .fwd (fun s w =>
    let port := gReg s b t (fErs1 w) % 2048
    let c := gReg s b t (fErs2 w)
    let th := thrOf s b t
    match th.work with
    | .frame f =>
      let x := frm s f
      let cls := if bit c 3 then x.res.tclass else c % 8
      let dest := if port = 0x7FF then plainDest x.res.cls x.res.fil else .port port
      let y := { x with res := { x.res with tclass := cls, dest := dest } }
      if port ≠ 0x7FF ∧ emitBad port then faultHere s b t 11 port 0
      else if !placeRoom s y 0 then s
      else match headOverride s b cls f th with
        | (s', false) => s'
        | (s', true) =>
          let s' := putFrm s' f { frm s' f with res := y.res }
          let s' := dropRef (placeFrm s' f) f
          let s' := putThr s' b t { thrOf s' b t with work := .done f x.res.sk.digest }
          retire (perfPulse (bump s' (.bob b) 4 1) b 15 (some t)) b t
    | _ => faultHere s b t 11 port 0) b t t4 e s

/-- DROP (R311). -/
def execBobDrop (b t t4 : Nat) (e : BobErr) (s : State) : Host.Outcome State Fault Refusal :=
  issue .drop (fun s _ =>
    match (thrOf s b t).work with
    | .frame f =>
      let d := (frm s f).res.sk.digest
      let s := bobDrop (putThr s b t { thrOf s b t with work := .done f d }) f
      retire (perfPulse (bump s (.bob b) 5 1) b 15 (some t)) b t
    | _ => faultHere s b t 11 0 0) b t t4 e s

/-- NEW (R313): a frame is copied from local memory and enqueued on its port and class, or waits for cells. -/
def execBobNew (b t t4 : Nat) (e : BobErr) (s : State) : Host.Outcome State Fault Refusal :=
  issue .new (fun s w =>
    let r := gReg s b t (fErs1 w)
    let port := r % 2048
    let c := bits r 14 12
    let n := gReg s b t (fErs2 w) % 16384
    if emitBad port then faultHere s b t 11 port 0
    else if n < 60 ∨ 9212 < n then faultHere s b t 11 n 0
    else if 16384 < fLm w + n then faultHere s b t 8 (fLm w) 0
    else match lmErr s b t (fLm w) e with
      | (s, false) => s
      | (s, true) =>
        let y : Frm := { bytes := lmRead s b (fLm w) n, inPort := 1048 + b / 64, hoop := b / 16, arrival := s.now
                         stitch := s.stitch, stage := .queued, built := true
                         res := { epoch := s.epoch % 65536, dest := .port port, tclass := c } }
        if freeQe s = 0 then s
        else match openFrame s (1048 + b / 64) c y with
          | (s, none) => s
          | (s, some f) =>
            let s := handOver (enqPort s port c f) f
            retire (perfPulse (bump s (.bob b) 6 1) b 15 (some t)) b t) b t t4 e s

/-! ### Control (R308, R320, R323) -/

/-- END: a work item or a run of thread 0 ends. -/
def execBobEnd (b t t4 : Nat) (e : BobErr) (s : State) : Host.Outcome State Fault Refusal :=
  issue .fin (fun s _ => let s := retire s b t; if t = 0 then endRun s b else endItem s b t) b t t4 e s

/-- YIELD: END in thread 0, no effect in a work thread. -/
def execBobYield (b t t4 : Nat) (e : BobErr) (s : State) : Host.Outcome State Fault Refusal :=
  issue .yield (fun s _ => let s := retire s b t; if t = 0 then endRun s b else s) b t t4 e s

/-- ILLEGAL_INSTRUCTION (R308, R326): an opcode, function or selector that Table 10.4 does not give faults. -/
def execIllegalInstruction (b t t4 : Nat) (e : BobErr) (s : State) : Host.Outcome State Fault Refusal :=
  if 4 ≤ t || !canIssue s b t then .next s
  else
    match fetch (advance s t4) b t e with
    | (s', none) => .next s'
    | (s', some w) => .next (if bobOp w = none then faultHere s' b t 6 w 0 else s)

end Sys2Proof.Machine
end

