-- ==== Sys2Proof/Machine/Segment.lean ====
section
/-! DEFINITION. Segmentation of host sends (R169 to R171). -/

namespace Sys2Proof.Machine

/-- What a transmit entry asks for (Table 15.2, KIND 1): segment size, header length, offsets, protocol and IP
version. -/
structure CutReq where
  mss : Nat
  hdr : Nat
  l3 : Nat
  l4 : Nat
  udp : Bool
  v6 : Bool
  deriving DecidableEq, Repr

/-- The segmentation request of the words of a first entry. -/
def cutReq (w : List Nat) : CutReq :=
  let w3 := w.getD 3 0
  let w4 := w.getD 4 0
  { mss := bits w3 31 18, hdr := bits w3 17 9, l3 := bits w4 7 0, l4 := bits w4 15 8, udp := bits w4 17 16 == 1
    v6 := bit w4 18 }

/-- The limits of R169, for a payload of `len` bytes. -/
def cutLimits (q : CutReq) (len : Nat) : Bool :=
  decide (42 ≤ q.hdr) && decide (q.hdr ≤ 256) && decide (64 ≤ q.mss) && decide (q.mss ≤ 9216)
    && decide (1 ≤ len) && decide (len ≤ 262144) && decide (q.hdr + q.mss + 4 ≤ 16384)

/-- The position behind the Ethernet header and up to `n` VLAN tags, and the EtherType there. -/
def cutTags (b : List Nat) : Nat → Nat → Nat × Nat
  | 0, i => (i, be16 b (i - 2))
  | n + 1, i => if be16 b (i - 2) = 0x8100 ∨ be16 b (i - 2) = 0x88A8 then cutTags b n (i + 4) else (i, be16 b (i - 2))

/-- Whether the header of a send is a stack that R169 supports and the offsets name it (R489). -/
def cutStackOk (q : CutReq) (b : List Nat) : Bool :=
  let (i, et) := cutTags b 2 14
  let proto := if q.udp then 17 else 6
  let ip := if q.v6 then et == 0x86DD && bits (byteAt b i) 7 4 == 6 && byteAt b (i + 6) == proto && q.l4 == i + 40
    else et == 0x0800 && byteAt b i == 0x45 && byteAt b (i + 9) == proto && q.l4 == i + 20
  q.l3 == i && ip
    && (if q.udp then q.hdr == q.l4 + 8
        else decide (5 ≤ bits (byteAt b (q.l4 + 12)) 7 4) && q.hdr == q.l4 + 4 * bits (byteAt b (q.l4 + 12)) 7 4)

/-- The number of frames of a payload of `len` bytes (R170). -/
def cutCount (q : CutReq) (len : Nat) : Nat := (len + q.mss - 1) / q.mss

/-- The Internet checksum of bytes; an odd byte at the end is followed by a zero byte. -/
def inetSum (x : List Nat) : Nat := 65535 - (words16 (x ++ [0])).foldl onesAdd 0

/-- The checksum over pseudo-header, L4 header and payload, with the checksum field read as 0; a UDP checksum of
0 is sent as 0xFFFF, as UDP requires. -/
def cutL4Sum (q : CutReq) (b : List Nat) : Nat :=
  let l4 := b.drop q.l4
  let n := l4.length
  let proto := if q.udp then 17 else 6
  let pseudo := if q.v6 then slice b (q.l3 + 8) 32 ++ beBytes 4 n ++ [0, 0, 0, proto]
    else slice b (q.l3 + 12) 8 ++ [0, proto] ++ beBytes 2 n
  let c := inetSum (pseudo ++ splice l4 (if q.udp then 6 else 16) [0, 0])
  if q.udp && c == 0 then 0xFFFF else c

/-- The IP header of frame `k`, of `n` bytes in all (Table 5.4). -/
def cutIp (q : CutReq) (k n : Nat) (b : List Nat) : List Nat :=
  if q.v6 then splice b (q.l3 + 4) (beBytes 2 (n - q.l4))
  else
    let b := splice b (q.l3 + 2) (beBytes 2 (n - q.l3))
    let b := splice b (q.l3 + 4) (beBytes 2 ((be16 b (q.l3 + 4) + k) % 65536))
    let b := splice b (q.l3 + 10) [0, 0]
    splice b (q.l3 + 10) (beBytes 2 (inetSum (slice b q.l3 20)))

/-- The flags byte of the TCP header of frame `k`: FIN and PSH only in the last frame, CWR only in the first. -/
def cutFlags (v k : Nat) (last : Bool) : Nat :=
  let v := if last then v else setBit (setBit v 0 false) 3 false
  if k = 0 then v else setBit v 7 false

/-- The L4 header of frame `k`, before its checksum (Table 5.4). -/
def cutL4 (q : CutReq) (k n : Nat) (last : Bool) (b : List Nat) : List Nat :=
  if q.udp then splice b (q.l4 + 4) (beBytes 2 (n - q.l4))
  else
    let b := splice b (q.l4 + 4) (beBytes 4 ((be32 b (q.l4 + 4) + k * q.mss) % 2 ^ 32))
    splice b (q.l4 + 13) [cutFlags (byteAt b (q.l4 + 13)) k last]

/-- Frame `k` of a send, from DA to the last byte before the FCS (R170). -/
def cutFrame (q : CutReq) (b : List Nat) (k : Nat) : List Nat :=
  let len := b.length - q.hdr
  let last := k + 1 == cutCount q len
  let f := b.take q.hdr ++ slice b (q.hdr + k * q.mss) q.mss
  let f := cutL4 q k f.length last (cutIp q k f.length f)
  splice f (q.l4 + (if q.udp then 6 else 16)) (beBytes 2 (cutL4Sum q f))

end Sys2Proof.Machine
end

