-- ==== Sys2Proof/Machine/Host.lean ====
section
/-! DEFINITION. The Needle and the Floss (chapter 15): queue pairs, sends, completions, deliveries, buffer
pools, translations and interrupts. Host memory is outside the block: what a read returns comes with the
command, and what the block writes shows in `NdlSt.out`. -/

namespace Sys2Proof.Machine

/-! ### Settings and rings -/

/-- Word `i` of the settings of pair `q` of function `f` (Table 15.3). -/
def qpWord (s : State) (f q i : Nat) : Nat := word s (.ndlf f) 1 (8 * q + i)

/-- The base of a transmit or receive ring. -/
def ringBase (s : State) (f q : Nat) (rx : Bool) : Nat :=
  let i := if rx then 2 else 0
  qpWord s f q i + qpWord s f q (i + 1) * 2 ^ 32

/-- The entries of a ring. -/
def ringSize (s : State) (f q : Nat) (rx : Bool) : Nat :=
  2 ^ (if rx then bits (qpWord s f q 4) 12 8 else bits (qpWord s f q 4) 4 0)

/-- The entry of function `f` in the function table (R479). -/
def fnRights (s : State) (f : Nat) : Nat := word s .ndl 2 f

/-- A pair is on. -/
def qpOn (s : State) (f q : Nat) : Bool := bit (rd s (.ndlf f) Fld.NDL_QP_ON_ON) q

/-- A function's queues are halted: it is fenced, or the link is down (R493, R507). -/
def fnHalted (s : State) (f : Nat) : Bool := fenced s (.ndlf f) || s.ndl.down

/-- The engine of a transmit ring. -/
def txEng (s : State) (f q : Nat) : TxEng := tabGet s.ndl.tx {} (64 * f + q)

/-- The engine of a transmit ring replaced. -/
def putTxEng (s : State) (f q : Nat) (x : TxEng) : State :=
  { s with ndl := { s.ndl with tx := tabPut s.ndl.tx {} (64 * f + q) x } }

/-- A receive ring. -/
def rxEng (s : State) (f q : Nat) : RxEng := tabGet s.ndl.rx {} (64 * f + q)

/-- A receive ring replaced. -/
def putRxEng (s : State) (f q : Nat) (x : RxEng) : State :=
  { s with ndl := { s.ndl with rx := tabPut s.ndl.rx {} (64 * f + q) x } }

/-- A ring is parked (R503). -/
def ringParked (s : State) (f q : Nat) (rx : Bool) : Bool :=
  s.ndl.park.any (fun p => p.f == f && p.q == q && p.rx == rx)

/-- The host writes of a command. -/
def hostOut (s : State) (w : List HostWrite) : State := { s with ndl := { s.ndl with out := w } }

/-- The account that a send of a pair charges (R488). -/
def txAccount (s : State) (f q : Nat) : Nat :=
  8 * (1024 + bits (qpWord s f q 4) 18 16) + bits (qpWord s f q 4) 22 20

/-! ### Fences (R492, R493) -/

/-- A function is fenced at a pair and entry. -/
def fnFence (s : State) (f reason q : Nat) (rx : Bool) (idx addr : Nat) : State :=
  if fenced s (.ndlf f) then s
  else
    let p := Page.ndlf f
    let s := wr s p Fld.NDL_FN_FAULT_VALID 1
    let s := wr s p Fld.NDL_FN_FAULT_DIR (b2n rx)
    let s := wr s p Fld.NDL_FN_FAULT_QP q
    let s := wr s p Fld.NDL_FN_FAULT_INDEX idx
    let s := if reason = 8 ∨ reason = 9 then wr s p Fld.NDL_FN_FAULT_ADDR_ADDR addr else s
    fenceUnit s p 3 (reason * 2 ^ 8 + q * 2 ^ 14 + b2n rx * 2 ^ 20)

/-- FENCE_REQ of a function page: reason 10. -/
def fnFenceReq (s : State) (f : Nat) : State := fenceUnit s (.ndlf f) 3 (10 * 2 ^ 8)

/-- The fence falls once the sends before the malformed one are complete (R492). -/
def txBadDue (s : State) (f q : Nat) : State :=
  match (txEng s f q).bad with
  | some b => if (txEng s f q).sends.isEmpty then fnFence s f b.reason q false b.idx b.addr else s
  | none => s

/-- The engine of a transmit ring stops at a malformed send. -/
def txMalformed (s : State) (f q reason idx addr : Nat) : State :=
  txBadDue (putTxEng s f q { txEng s f q with reading := false, again := false, chain := [], first := []
                                              bad := some ⟨reason, idx, addr⟩ }) f q

/-! ### Interrupts (R506) -/

/-- The number of an interrupt source. -/
def irqKey (f q : Nat) (rx : Bool) : Nat := 128 * f + 2 * q + b2n rx

/-- An interrupt source. -/
def irqSrc (s : State) (f q : Nat) (rx : Bool) : IrqSrc := tabGet s.ndl.irq {} (irqKey f q rx)

/-- An interrupt source replaced. -/
def putIrq (s : State) (f q : Nat) (rx : Bool) (x : IrqSrc) : State :=
  { s with ndl := { s.ndl with irq := tabPut s.ndl.irq {} (irqKey f q rx) x } }

/-- MOD_CNT of a pair, 0 treated as 1. -/
def modCnt (s : State) (f q : Nat) : Nat :=
  let n := bits (qpWord s f q 6) 15 0
  if n = 0 then 1 else n

/-- MOD_US of a pair. -/
def modUs (s : State) (f q : Nat) : Nat := bits (qpWord s f q 6) 31 16

/-- A source sends its message, clears its count and disarms. -/
def irqFire (s : State) (f q : Nat) (rx : Bool) : State :=
  let v := if rx then bits (qpWord s f q 5) 22 16 else bits (qpWord s f q 5) 14 8
  bump (sendMsix (putIrq s f q rx {}) f v) (.ndlf f) 7 1

/-- An armed source at its count fires. -/
def irqCheck (s : State) (f q : Nat) (rx : Bool) : State :=
  let x := irqSrc s f q rx
  if x.armed && decide (modCnt s f q ≤ x.count) then irqFire s f q rx else s

/-- A source counts an entry given back to software. -/
def irqCount (s : State) (f q : Nat) (rx : Bool) : State :=
  let x := irqSrc s f q rx
  irqCheck (putIrq s f q rx { x with count := x.count + 1, first := some (x.first.getD s.now) }) f q rx

/-- A source is armed; at or above MOD_CNT it fires at once. -/
def irqArm (s : State) (f q : Nat) (rx : Bool) : State :=
  irqCheck (putIrq s f q rx { irqSrc s f q rx with armed := true }) f q rx

/-- MOD_TIMER_EXPIRY (R506): MOD_US have passed since the first entry that an armed source has counted. -/
def execModTimerExpiry (f q : Nat) (rx : Bool) (t : Nat) (s : State) : Host.Outcome State Fault Refusal :=
  let s0 := advance s t
  let x := irqSrc s f q rx
  let due := match x.first with
    | some a => decide (0 < x.count) && decide (a + modUs s f q * 4000 ≤ s0.now)
    | none => false
  if x.armed && modUs s f q != 0 && due && !s.ndl.down then .next (irqFire s0 f q rx) else .next s

/-! ### Enabling a pair (R480) -/

/-- Whether an enable is accepted. -/
def qpMayEnable (s : State) (f q : Nat) : Bool :=
  let w4 := qpWord s f q 4
  let w5 := qpWord s f q 5
  let r := fnRights s f
  let port := bits w4 18 16
  let logOk (n : Nat) : Bool := decide (6 ≤ n) && decide (n ≤ 16)
  logOk (bits w4 4 0) && logOk (bits w4 12 8) && qpWord s f q 0 % 64 == 0 && qpWord s f q 2 % 64 == 0
    && port != 7 && bit r port && decide (bits w5 14 8 ≤ 64) && decide (bits w5 22 16 ≤ 64)
    && decide (q < bits r 22 16) && !fenced s (.ndlf f)

/-- One bit of a write to NDL_QP_ENABLE: the pair turns on, or the enable is refused. -/
def qpEnable (s : State) (f q : Nat) : State :=
  if qpOn s f q then s
  else if !qpMayEnable s f q then stick s (.ndlf f) Fld.NDLF_STICKY_CFG_REFUSED
  else
    let s := wr s (.ndlf f) Fld.NDL_QP_ON_ON (rd s (.ndlf f) Fld.NDL_QP_ON_ON + 2 ^ q)
    let s := putRxEng (putTxEng s f q { old := (txEng s f q).old }) f q {}
    putIrq (putIrq s f q false { armed := true }) f q true { armed := true }

/-- A write to NDL_QP_ENABLE_LO or, with `hi`, to NDL_QP_ENABLE_HI. -/
def qpEnableWrite (s : State) (f : Nat) (hi : Bool) (w : Nat) : State :=
  (setBitsOf 32 w).foldl (fun s n => qpEnable s f (32 * b2n hi + n)) s

/-- QP_ENABLE (R480). -/
def execQpEnable (f : Nat) (hi : Bool) (w : Nat) (s : State) : Host.Outcome State Fault Refusal :=
  .next (qpEnableWrite s f hi w)

/-! ### Doorbells (R485) -/

/-- A doorbell of a pair: the engine that stopped at OWN = 0 reads its entry again; one that reads it already
reads it once more. -/
def txRing (s : State) (f q : Nat) : State :=
  let x := txEng s f q
  if x.bad.isSome then s
  else if x.reading then putTxEng s f q { x with again := true }
  else putTxEng s f q { x with reading := true }

/-- A write to a transmit doorbell. -/
def txDoorbell (s : State) (f q w : Nat) : State :=
  if !qpOn s f q || fnHalted s f then s
  else
    let s := txRing s f q
    if bit w 31 then irqArm s f q false else s

/-- A write to a receive doorbell. -/
def rxDoorbell (s : State) (f q w : Nat) : State :=
  if !qpOn s f q || fnHalted s f then s
  else
    let s := putRxEng s f q { rxEng s f q with full := false }
    if bit w 31 then irqArm s f q true else s

/-- TX_DOORBELL (R485). -/
def execTxDoorbell (f q w : Nat) (s : State) : Host.Outcome State Fault Refusal := .next (txDoorbell s f q w)

/-- RX_DOORBELL (R485). -/
def execRxDoorbell (f q w : Nat) (s : State) : Host.Outcome State Fault Refusal := .next (rxDoorbell s f q w)

/-! ### Transmit entries (R486, R487, R492) -/

/-- The length of a send. -/
def chainLen (c : List ChainEnt) : Nat := c.foldl (fun n e => n + e.len) 0

/-- The reason for which the entries read so far are malformed; `fin` with the entry that ends the send. -/
def sendReason (s : State) (f : Nat) (w : List Nat) (c : List ChainEnt) (fin : Bool) : Option Nat :=
  let w7 := w.getD 7 0
  let r := fnRights s f
  let kind := bits w7 30 29
  let direct := bit w7 27
  let dest := bits (w.getD 5 0) 10 0
  let len := chainLen c
  let q := cutReq w
  if kind ≥ 2 ∨ (kind = 1 ∧ 2 ≤ bits (w.getD 4 0) 17 16) then some 1
  else if (c.getLast?.map (·.len)).getD 1 = 0 ∨ (c.length = 32 ∧ !fin) then some 2
  else if fin ∧ kind = 0 ∧ (len < 60 ∨ 16380 < len) then some 3
  else if fin ∧ kind = 1 ∧ (len ≤ q.hdr ∨ !cutLimits q (len - q.hdr)) then some 4
  else if bit w7 26 ∧ !(kind == 0 && direct && decide (dest < 1024) && bit r 9) then some 5
  else if direct ∧ !(bit r 8 && (decide (dest < 1024) || (decide (1032 ≤ dest) && decide (dest ≤ 1039)))) then some 6
  else if !direct ∧ !bit r 10 then some 7
  else none

/-- The send that a whole chain makes. -/
def mkSend (s : State) (f q : Nat) (w : List Nat) (c : List ChainEnt) (no : Nat) : Send :=
  let w4 := qpWord s f q 4
  { no := no, first := w, ents := c, port := 1024 + bits w4 18 16, cls := bits w4 22 20
    hoop := if bit (w.getD 7 0) 27 then none else some (bits (qpWord s f q 5) 4 0) }

/-- The engine takes an owned entry. -/
def txOwned (s : State) (f q : Nat) (ws : List Nat) : State :=
  let x := txEng s f q
  let e : ChainEnt := ⟨x.next, ws.getD 0 0 + ws.getD 1 0 * 2 ^ 32, bits (ws.getD 2 0) 16 0, ws.getD 7 0⟩
  let first := if x.chain.isEmpty then ws else x.first
  let c := x.chain ++ [e]
  let fin := !bit e.w7 28
  match sendReason s f first c fin with
  | some r => txMalformed s f q r (if r = 2 then e.idx else (c.head?.map (·.idx)).getD e.idx) 0
  | none =>
    let next := (x.next + 1) % ringSize s f q false
    if fin then
      putTxEng s f q { x with next := next, again := false, chain := [], first := []
                              sends := x.sends ++ [mkSend s f q first c x.no], no := x.no + 1 }
    else putTxEng s f q { x with next := next, again := false, chain := c, first := first }

/-- TX_ENTRY_FETCHED (R482, R487): the read of the entry at which the engine stands returns its eight words, or
fails at an IOVA. While HOLD of the account is set, no new send is fetched (R488). -/
def execTxEntryFetched (f q : Nat) (ws : List Nat) (err : Option Nat) (s : State) : Host.Outcome State Fault Refusal :=
  let x := txEng s f q
  if !qpOn s f q || fnHalted s f || ringParked s f q false || !x.reading
      || (x.chain.isEmpty && acctHeld s (txAccount s f q)) then .next s
  else
    match err with
    | some a => .next (txMalformed s f q 8 x.next a)
    | none =>
      if bit (ws.getD 7 0) 31 then .next (txOwned s f q ws)
      else .next (putTxEng s f q { x with reading := x.again, again := false })

/-! ### Sends enter the data plane (R488, R489) -/

/-- A frame of a send enters: in the ingress pipeline of its hoop, or on its port without a lookup. It waits
where cells or queue entries are short. -/
def sendFrame (s : State) (f q : Nat) (x : Send) (b : List Nat) : State × Bool :=
  let dest := bits (x.first.getD 5 0) 10 0
  match x.hoop with
  | some h =>
    if domainOff s (.prk h) then (wakeH2 s h 3, false)
    else
      let y : Frm := { bytes := b, inPort := x.port, hoop := h, arrival := s.now, stitch := s.stitch, stage := .lookup }
      match openFrame s x.port x.cls y with
      | (s, none) => (s, false)
      | (s, some _) => (s, true)
  | none =>
    let y : Frm := { bytes := b, inPort := x.port, src := x.port, arrival := s.now, stitch := s.stitch, stage := .queued
                     res := { epoch := s.epoch % 65536, dest := .port dest, tclass := x.cls }
                     stamp := if bit (x.first.getD 7 0) 26 then some (.host f q x.no) else none, serial := s.rs.serial }
    if !placeRoom s y 0 || lookupBehind s y then (s, false)
    else match openFrame s x.port x.cls y with
      | (s, none) => (s, false)
      | (s, some g) => (handOver (enqPort s dest x.cls g) g, true)

/-- The frames that a send makes. -/
def sendCount (x : Send) (len : Nat) : Nat :=
  if bits (x.first.getD 7 0) 30 29 = 1 then cutCount (cutReq x.first) (len - (cutReq x.first).hdr) else 1

/-- Frame `k` of a send. -/
def sendBytes (x : Send) (b : List Nat) (k : Nat) : List Nat :=
  if bits (x.first.getD 7 0) 30 29 = 1 then cutFrame (cutReq x.first) b k else b

/-- The frames of a send enter one after another until one must wait; `fuel` bounds them. -/
def sendLoop (f q : Nat) (b : List Nat) : Nat → State → Send → State × Send
  | 0, s, x => (s, x)
  | fuel + 1, s, x =>
    if x.frames < sendCount x b.length then
      let fb := sendBytes x b x.frames
      match sendFrame s f q x fb with
      | (s, false) => (s, x)
      | (s, true) =>
        let s := bump (bump s (.ndlf f) 1 1) (.ndlf f) 2 fb.length
        sendLoop f q b fuel s { x with frames := x.frames + 1 }
    else (s, x)

/-- A send with its bytes read goes on as far as it can. -/
def sendRun (s : State) (f q : Nat) (x : Send) (b : List Nat) : State × Send :=
  let n := sendCount x b.length
  let r := sendLoop f q b n s { x with bytes := some b }
  if r.2.frames = n then (bump r.1 (.ndlf f) 0 1, { r.2 with entered := true, bytes := none }) else r

/-- The first send of a ring of which a frame is still to enter. -/
def nextSend (e : TxEng) : Option Send := e.sends.find? (fun x => !x.entered)

/-- The send of transmit ring `k` that is to enter from CPU port `p` now: it is entering, or its bytes can be read. -/
def ringSend (s : State) (p k : Nat) : Option Send :=
  (nextSend (txEng s (k / 64) (k % 64))).filter (fun y => y.port == p && (y.bytes.isSome ||
    (qpOn s (k / 64) (k % 64) && !fnHalted s (k / 64) && !ringParked s (k / 64) (k % 64) false)))

/-- Transmit ring `k` may begin a send on CPU port `p`: no other ring's send is entering there, and in round robin it comes
first after the ring served last (R488). -/
def rrTurn (s : State) (p k : Nat) : Bool :=
  let rank (j : Nat) : Nat := (j + 4096 - tabGet s.ndl.rr 0 p % 4096) % 4096
  (tabKeys s.ndl.tx).all (fun j => j == k ||
    (ringSend s p j).all (fun y => y.bytes.isNone && decide (rank k < rank j)))

/-- Ring `k` has been served on CPU port `p`. -/
def rrServed (s : State) (p k : Nat) : State :=
  { s with ndl := { s.ndl with rr := tabPut s.ndl.rr 0 p ((k + 1) % 4096) } }

/-- The send replaced in its ring. -/
def putSend (s : State) (f q : Nat) (x : Send) : State :=
  let e := txEng s f q
  putTxEng s f q { e with sends := e.sends.map (fun y => if y.no = x.no then x else y) }

/-- SEND_ENTER (R488, R489): the bytes of a pair's next send are read, or fail at an IOVA, and its frames enter the
data plane. A send whose bytes were read goes on through a fence or a function-level reset (R493, R494). -/
def execSendEnter (f q t : Nat) (b : List Nat) (err : Option Nat) (s : State) : Host.Outcome State Fault Refusal :=
  let e := txEng s f q
  let s0 := advance s t
  match e.old with
  | x :: xs =>
    let r := sendRun s0 f q x (x.bytes.getD [])
    .next (putTxEng r.1 f q { txEng r.1 f q with old := if r.2.entered then xs else r.2 :: xs })
  | [] =>
    match nextSend e with
    | none => .next s
    | some x =>
      match x.bytes with
      | some b => let r := sendRun s0 f q x b; .next (putSend r.1 f q r.2)
      | none =>
        let first := (x.ents.head?.map (·.idx)).getD 0
        let drop (s : State) : State := putTxEng s f q { e with sends := e.sends.takeWhile (fun y => y.no != x.no) }
        if fnHalted s f || ringParked s f q false || !rrTurn s x.port (64 * f + q) then .next s
        else
          match err with
          | some a => .next (txMalformed (drop s0) f q 8 first a)
          | none =>
            if b.length != chainLen x.ents then .next s
            else if bits (x.first.getD 7 0) 30 29 == 1 && !cutStackOk (cutReq x.first) b then
              .next (txMalformed (drop s0) f q 4 first 0)
            else if x.hoop.any (hoopFenced s) then
              .next (putSend (rrServed s0 x.port (64 * f + q)) f q { x with fail := true, entered := true })
            else
              let r := sendRun (rrServed s0 x.port (64 * f + q)) f q x b
              .next (putSend r.1 f q r.2)

/-! ### Completions (R490, R491) -/

/-- The outcome of a send: TS32, STATUS, and the state after any stamp has left its FIFO; none while the stamp
is still to come. -/
def sendOutcome (s : State) (f q : Nat) (x : Send) : Option (Nat × Nat × State) :=
  let w : StampFor := .host f q x.no
  let ts := bit (x.first.getD 7 0) 26
  let h := bits (x.first.getD 5 0) 10 0 / 32
  if x.fail then some (0, 3, s)
  else if !ts then some (0, 0, s)
  else
    match (tabGet s.rs.tsf [] h).find? (fun e => e.owner == w) with
    | some e => some (e.time / 4 % 2 ^ 32, 1, freeStamp s h w)
    | none =>
      if s.rs.tsLost.contains w then
        some (0, 2, stick (bump { s with rs := { s.rs with tsLost := s.rs.tsLost.erase w } } (.ndlf f) 5 1) (.ndlf f)
          Fld.NDLF_STICKY_TS_LOST)
      else if s.rs.tsGone.contains w then
        some (0, 3, { s with rs := { s.rs with tsGone := s.rs.tsGone.erase w } })
      else none

/-- The memory writes of a completion (R490): the continuation entries, words 0 and 1 of the first entry, then
its word 7. -/
def completionWrites (s : State) (f q : Nat) (x : Send) (ts32 status : Nat) : List HostWrite :=
  let base := ringBase s f q false
  let own (e : ChainEnt) : HostWrite := ⟨f, base + 32 * e.idx + 28, leBytes 4 (e.w7 % 2 ^ 31)⟩
  match x.ents with
  | [] => []
  | e :: es => es.map own ++ [⟨f, base + 32 * e.idx, leBytes 4 ts32 ++ leBytes 4 (sendCount x (chainLen x.ents) % 2 ^ 16 * 2 ^ 16 + status)⟩, own e]

/-- TX_COMPLETION (R490): the first send of a ring that is not complete completes, once its stamp has its
outcome; a failing write fences the function. -/
def execTxCompletion (f q t : Nat) (err : Option Nat) (s : State) : Host.Outcome State Fault Refusal :=
  match (txEng s f q).sends with
  | [] => .next s
  | x :: xs =>
    if fnHalted s f || !x.entered then .next s
    else
      match sendOutcome (advance s t) f q x with
      | none => .next s
      | some (ts32, status, s) =>
        match err with
        | some a => .next (fnFence s f 8 q false ((x.ents.head?.map (·.idx)).getD 0) a)
        | none =>
          let s := putTxEng s f q { txEng s f q with sends := xs }
          let s := hostOut s (completionWrites s f q x ts32 status)
          .next (txBadDue (irqCount s f q false) f q)

/-- TX_STATE of a ring (R509, space 2). -/
def txState (s : State) (f q : Nat) : Nat :=
  let x := txEng s f q
  if !qpOn s f q then 0
  else if fnHalted s f || x.bad.isSome then 5
  else if ringParked s f q false then 4
  else if x.reading then (if x.chain.isEmpty && acctHeld s (txAccount s f q) then 6 else 2)
  else if x.chain.isEmpty then 1 else 3

/-! ### Floss (R498 to R501) -/

/-- The buffer size of pool `p`. -/
def poolSize : Nat → Nat
  | 0 => 256 | 1 => 512 | 2 => 1024 | 3 => 2048 | 4 => 4096 | 5 => 9216 | 6 => 16384 | _ => 65536

/-- The quota of pool `p` of function `f`. -/
def quota (s : State) (f p : Nat) : Nat :=
  let w := word s .flsc 1 (4 * f + p / 2)
  if p % 2 = 0 then bits w 15 0 else bits w 31 16

/-- COUNT and BASE of a pool. -/
def poolCount (s : State) (f p : Nat) : Nat := bits (word s (.flsf f) 1 (4 * p + 2)) 16 0
def poolBase (s : State) (f p : Nat) : Nat := word s (.flsf f) 1 (4 * p) + word s (.flsf f) 1 (4 * p + 1) * 2 ^ 32

/-- The handles that the store holds for a pool, the newest first. -/
def poolStore (s : State) (f p : Nat) : List Nat := tabGet s.ndl.store [] (8 * f + p)

/-- The store of a pool replaced. -/
def putStore (s : State) (f p : Nat) (x : List Nat) : State :=
  { s with ndl := { s.ndl with store := tabPut s.ndl.store [] (8 * f + p) x } }

/-- FLS_STORE_USED. -/
def storeUsed (s : State) : Nat := s.ndl.store.foldl (fun n e => n + e.2.length) 0

/-- SHARE_BASE and SHARE_QUOTA of a function. -/
def shareBase (s : State) (f : Nat) : Nat := bits (word s .flsc 2 f) 15 0
def shareQuota (s : State) (f : Nat) : Nat := bits (word s .flsc 2 f) 28 16

/-- The count of a share slot. -/
def shareCount (s : State) (n : Nat) : Nat := tabGet s.ndl.share 0 n

/-- The count of a share slot replaced. -/
def putShare (s : State) (n c : Nat) : State := { s with ndl := { s.ndl with share := tabPut s.ndl.share 0 n c } }

/-- A handle enters the store of its pool, unless the pool already holds its quota (R500). -/
def storePut (s : State) (f p i : Nat) : State :=
  if quota s f p ≤ (poolStore s f p).length then
    stick { s with ndl := { s.ndl with ovr := tabPut s.ndl.ovr 0 f (tabGet s.ndl.ovr 0 f + 1) } } (.flsf f)
      Fld.FLSF_STICKY_FREE_OVER
  else putStore s f p (i :: poolStore s f p)

/-- A write of free word `w` to FLS_FREE of function `f` (R500, R501). -/
def flsFree (s : State) (f w : Nat) : State :=
  let p := bits w 31 29
  if !bit w 28 then storePut s f p (bits w 15 0)
  else if shareQuota s f = 0 then s
  else
    let n := shareBase s f + bits w 27 16 % shareQuota s f
    let c := shareCount s n
    if c = 0 then s
    else if c = 1 then storePut (putShare s n 0) f p (bits w 15 0)
    else putShare s n (c - 1)

/-- FLS_FREE (R500, R501). -/
def execFlsFree (f w : Nat) (s : State) : Host.Outcome State Fault Refusal := .next (flsFree s f w)

/-- The smallest enabled pool that is large enough (R499). -/
def poolFor (s : State) (f len : Nat) : Option Nat :=
  (List.range 8).find? (fun p => decide (len ≤ poolSize p) && quota s f p != 0 && poolCount s f p != 0)

/-- The next free SHARE_ID of a function, in turn (R501). -/
def nextShare (s : State) (f : Nat) : Option Nat :=
  let n := shareQuota s f
  ((List.range n).map (fun i => (tabGet s.ndl.turn 0 f + i) % n)).find? (fun i => shareCount s (shareBase s f + i) == 0)

/-! ### Deliveries (R495 to R497) -/

/-- What the Needle knows of the queue of CPU port 1024 + m / 8 and class m mod 8. -/
def rxWait (s : State) (m : Nat) : RxWait := tabGet s.ndl.wait {} m

/-- What the Needle knows of a CPU-port queue, replaced. -/
def putWait (s : State) (m : Nat) (x : RxWait) : State :=
  { s with ndl := { s.ndl with wait := tabPut s.ndl.wait {} m x } }

/-- The frame of a CPU-port queue that the Needle has taken up, while it is still queued. -/
def cpuHead (s : State) (m : Nat) : Option Nat :=
  (rxWait s m).seen.filter (fun f => (queueOf s (8 * 1024 + m)).any (·.f == f))

/-- The frame that the Needle has taken up leaves its queue. -/
def cpuDone (s : State) (m f : Nat) : State := qeCheck (dropRef (unqueue (putWait s m {}) (8 * 1024 + m) f) f)

/-- A delivery that has begun is abandoned: its buffer returns to the store, and its share slot is free. -/
def abandonDelivery (s : State) (e : Nat × RxWait) : State :=
  match e.2.held with
  | none => s
  | some d =>
    let p := bits d.word 31 29
    let s := putStore s d.f p (bits d.word 15 0 :: poolStore s d.f p)
    if bit d.word 28 then putShare s (shareBase s d.f + bits d.word 27 16) 0 else s

/-- The Needle takes up the frame of class `c` that Table 12.1 chooses for CPU port 1024 + `k` (R350, R377), unless it has
one of that queue at hand; classes whose frame waits in the Needle hold up no other (R497). One that was lost
from its queue meanwhile is given up. -/
def cpuTake (s : State) (k c : Nat) : State :=
  let p := 1024 + k
  let m := 8 * k + c
  if (cpuHead s m).isSome || (s.ndl.down && !cfgB s .ndl Fld.NDL_CTRL_SD_FLUSH) then s
  else
    let s := retag (putWait (abandonDelivery s (m, rxWait s m)) m {}) p
    match readyHead s p c with
    | some f =>
      if chooseClass s p = some c then
        putWait (countChosen (takeTag s p c) p c (frmLen (frm s f))) m { seen := some f }
      else s
    | none => s

/-- The queue pairs that take a frame under a map entry. -/
def rxPairs (w : Nat) (x : Frm) : List Nat :=
  (bits w 21 16 + x.res.sk.digest % 2 ^ 32 % 2 ^ bits w 14 12) :: (if bit w 11 then [bits w 5 0] else [])

/-- A delivery waits; each kind of wait of a frame counts once. -/
def rxWaitRing (s : State) (m f : Nat) (qs : List Nat) : State :=
  if (rxWait s m).ring then s
  else putWait (stick (bump s (.ndlf f) 8 1) (.ndlf f) Fld.NDLF_STICKY_RING_WAIT) m
    { rxWait s m with ring := true, f := f, qs := qs }
def rxWaitPool (s : State) (m f : Nat) (qs : List Nat) : State :=
  if (rxWait s m).pool then s
  else putWait (stick (bump s (.ndlf f) 9 1) (.flsf f) Fld.FLSF_STICKY_POOL_EMPTY) m
    { rxWait s m with pool := true, f := f, qs := qs }
def rxWaitShare (s : State) (m f : Nat) (qs : List Nat) : State :=
  if (rxWait s m).share then s
  else putWait (stick s (.flsf f) Fld.FLSF_STICKY_SHARE_WAIT) m { rxWait s m with share := true, f := f, qs := qs }

/-- The buffer, and the share slot of a shared delivery, are taken and the delivery begins; or it waits. `owns`
says of each target ring whether its entry has OWN = 1. -/
def rxTake (s : State) (m f p : Nat) (qs : List Nat) (owns : List Bool) : State :=
  let full := (qs.zip owns).filter (fun e => (rxEng s f e.1).full || !e.2)
  if !full.isEmpty then
    rxWaitRing (full.foldl (fun s e => putRxEng s f e.1 { rxEng s f e.1 with full := true }) s) m f qs
  else
    match poolStore s f p with
    | [] => rxWaitPool s m f qs
    | i :: is =>
      let w := p * 2 ^ 29 + i
      if qs.length < 2 then putWait (putStore s f p is) m { rxWait s m with held := some ⟨f, qs, w⟩ }
      else match nextShare s f with
        | none => rxWaitShare s m f qs
        | some id =>
          let s := putShare (putStore s f p is) (shareBase s f + id) 2
          let s := { s with ndl := { s.ndl with turn := tabPut s.ndl.turn 0 f ((id + 1) % shareQuota s f) } }
          putWait s m { rxWait s m with held := some ⟨f, qs, w + 2 ^ 28 + id * 2 ^ 16⟩ }

/-- The Needle takes up the next frame of a CPU-port queue, or has one, and looks at it under the receive map: it discards
the frame, waits, or begins its delivery. -/
def rxBegin (s : State) (m : Nat) (own own2 : Bool) : State :=
  let s := cpuTake s (m / 8) (m % 8)
  match cpuHead s m, (rxWait s m).held with
  | none, _ => s
  | some _, some _ => s
  | some g, none =>
    let x := frm s g
    let w := word s .ndl 1 m
    let f := bits w 29 24
    let qs := rxPairs w x
    if s.ndl.down then
      if cfgB s .ndl Fld.NDL_CTRL_SD_FLUSH then cpuDone (bump s .ndl 2 1) m g else s
    else if !bit w 31 then cpuDone (stick (bump s .ndl 0 1) .ndl Fld.NDL_STICKY_RX_NOMAP) m g
    else if fenced s (.ndlf f) || qs.any (fun q => !qpOn s f q) || qs.any (fun q => ringParked s f q true) then s
    else match poolFor s f (frmLen x) with
      | none => cpuDone (stick (bump s .ndl 1 1) .ndl Fld.NDL_STICKY_RX_NOFIT) m g
      | some p => rxTake s m f p qs [own, own2]

/-- The receive entry of a frame (Table 15.6), words 0 to 6. -/
def rxEntry (x : Frm) (m word_ : Nat) : List Nat :=
  let r := x.res
  let hit := match r.parsed.hits.head? with | some q => q.1 + q.2 * 2 ^ 14 | none => 0
  [word_, r.tclass * 2 ^ 29 + x.inPort * 2 ^ 16 + frmLen x, r.epoch * 2 ^ 16 + parseFlags r.parsed
   , x.arrival / 4 % 2 ^ 32, r.sk.digest % 2 ^ 32
   , b2n x.oversize * 2 ^ 29 + b2n r.sk.stale * 2 ^ 28 + r.parsed.hits.length * 2 ^ 24 + hit, m / 8]
  |>.map (fun v => trunc 32 v)

/-- The memory writes of a delivery (R496): the frame at the start of its buffer, then each entry. -/
def rxWrites (s : State) (x : Frm) (m : Nat) (d : Deliv) : List HostWrite :=
  let p := bits d.word 31 29
  let buf := poolBase s d.f p + bits d.word 15 0 * poolSize p
  let ent := (rxEntry x m d.word).flatMap (leBytes 4)
  ⟨d.f, buf, withFcs (frameBytes x) false⟩ ::
    d.qs.flatMap (fun q =>
      let a := ringBase s d.f q true + 32 * (rxEng s d.f q).next
      [⟨d.f, a, ent⟩, ⟨d.f, a + 28, leBytes 4 0⟩])

/-- A delivery that has begun ends: its writes are made, each ring advances and counts, and the queue entry gives
up its reference. -/
def rxFinish (s : State) (m g : Nat) (d : Deliv) : State :=
  let x := frm s g
  let s := hostOut s (rxWrites s x m d)
  let s := bump (bump s (.ndlf d.f) 3 1) (.ndlf d.f) 4 (frmLen x)
  let s := d.qs.foldl (fun s q =>
    let e := rxEng s d.f q
    irqCount (putRxEng s d.f q { e with next := (e.next + 1) % ringSize s d.f q true }) d.f q true) s
  cpuDone s m g

/-- RX_DELIVERY (R495 to R497): the head of a CPU-port queue is taken under the receive map. `own` and `own2` are
the OWN bits of the entries at which the target rings stand; a failing write fences the function. -/
def execRxDelivery (k c t : Nat) (own own2 : Bool) (err : Option Nat) (s : State) :
    Host.Outcome State Fault Refusal :=
  let m := 8 * k + c
  let s := rxBegin (advance s t) m own own2
  match cpuHead s m, (rxWait s m).held with
  | some g, some d =>
    if fnHalted s d.f || d.qs.any (fun q => ringParked s d.f q true) then .next s
    else
      match err with
      | some a => .next (fnFence s d.f 8 (d.qs.headD 0) true (rxEng s d.f (d.qs.headD 0)).next a)
      | none => .next (rxFinish s m g d)
  | _, _ => .next s

/-- RX_STATE of a ring (R509, space 2). -/
def rxState (s : State) (f q : Nat) : Nat :=
  let waits (p : RxWait → Bool) : Bool := s.ndl.wait.any (fun e => p e.2 && e.2.f == f && e.2.qs.contains q)
  if !qpOn s f q then 0
  else if fnHalted s f then 6
  else if ringParked s f q true then 5
  else if s.ndl.wait.any (fun e => e.2.held.any (fun d => d.f == f && d.qs.contains q)) then 2
  else if (rxEng s f q).full then 3
  else if waits (fun x => x.pool || x.share) then 4 else 1

/-! ### Translations (R503 to R505) -/

/-- Page requests outstanding for a function. -/
def priOut (s : State) (f : Nat) : Nat := (s.ndl.park.filter (fun p => p.f == f && p.sent)).length

/-- Page requests outstanding in all (R477: 512 at most). -/
def priAll (s : State) : Nat := (s.ndl.park.filter (·.sent)).length

/-- The entry at which a ring stands, as a fault records it. -/
def ringAt (s : State) (f q : Nat) (rx : Bool) : Nat :=
  if rx then (rxEng s f q).next
  else match nextSend (txEng s f q) with
    | some x => (x.ents.head?.map (·.idx)).getD 0
    | none => (txEng s f q).next

/-- A page request goes out. -/
def priSend (s : State) (f : Nat) : State := bump (bump s .ndl 5 1) (.ndlf f) 6 1

/-- A translation that a ring cannot get fences the function with reason 9. -/
def transFail (s : State) (f q : Nat) (rx : Bool) (addr : Nat) : State :=
  if rx then fnFence s f 9 q true (ringAt s f q true) addr else txMalformed s f q 9 (ringAt s f q false) addr

/-- ATS_TRANSLATION_COMPLETE (R503, R504): a translation for a ring returns; `m` names the CPU-port queue of a
receive ring's delivery. Where it grants access the transfer goes on with its own command; where not, the ring
parks with a page request while the function's allocation `alloc` lasts, or, without PRI, the function is
fenced. -/
def execAtsTranslationComplete (f q m addr alloc : Nat) (rx ok pri : Bool) (s : State) :
    Host.Outcome State Fault Refusal :=
  let s1 := if rx then rxBegin s m true true else s
  let busy := if rx then (rxWait s1 m).held.any (fun d => d.f == f && d.qs.contains q)
    else (txEng s f q).reading || (nextSend (txEng s f q)).any (fun x => x.bytes.isNone)
  if !qpOn s f q || fnHalted s f || ringParked s f q rx || ok || !busy then .next s
  else if !pri then .next (transFail s1 f q rx addr)
  else
    let send := decide (priOut s f < alloc) && decide (priAll s < 512)
    let s := { s1 with ndl := { s1.ndl with park := s1.ndl.park ++ [⟨f, q, rx, send, addr⟩] } }
    let s := stick s (.ndlf f) Fld.NDLF_STICKY_PARKED
    .next (if send then priSend s f else s)

/-- A parked ring without a request sends it once a response frees room (R504). -/
def priNext (s : State) (f : Nat) : State :=
  match s.ndl.park.find? (fun p => p.f == f && !p.sent) with
  | some p =>
    priSend { s with ndl := { s.ndl with park := s.ndl.park.map (fun x => if x = p then { x with sent := true } else x) } } f
  | none => s

/-- PAGE_REQUEST_RESPONSE (R503): a response for a parked ring resumes it, or fences the function. A response to
a request that is not outstanding is ignored (R494). -/
def execPageRequestResponse (f q : Nat) (rx ok : Bool) (s : State) : Host.Outcome State Fault Refusal :=
  match s.ndl.park.find? (fun p => p.f == f && p.q == q && p.rx == rx && p.sent) with
  | none => .next s
  | some p =>
    let s := { s with ndl := { s.ndl with park := s.ndl.park.erase p } }
    if ok then .next (if fenced s (.ndlf f) then s else priNext s f)
    else
      let s := transFail (bump s .ndl 6 1) f q rx p.addr
      .next (if fenced s (.ndlf f) then s else priNext s f)

/-- ATS_INVALIDATE (R505): an Invalidate Request is answered and counted; the cached translation is gone. -/
def execAtsInvalidate (s : State) : Host.Outcome State Fault Refusal :=
  if s.ndl.down then .next s else .next (bump s .ndl 4 1)

/-! ### Resets and removal (R494, R507) -/

/-- Stamps of a function leave the FIFOs, and frames on their way to a port keep none for it. -/
def dropStamps (s : State) (f : Nat) : State :=
  let mine (w : StampFor) : Bool := match w with | .host g _ _ => g == f | _ => false
  let qs := s.rs.tsf.map (fun e => (e.1, e.2.filter (fun x => !mine x.owner)))
  let s := (s.rs.tsf.filter (fun e => e.2.any (fun x => mine x.owner))).foldl (fun s e =>
    wr s (.ts e.1) Fld.HOP_TS_STAT_LEVEL (e.2.filter (fun x => !mine x.owner)).length) s
  { s with rs := { s.rs with
      tsf := qs.filter (fun e => !e.2.isEmpty)
      tsLost := s.rs.tsLost.filter (fun w => !mine w), tsGone := s.rs.tsGone.filter (fun w => !mine w)
      frm := tabMap (fun _ => true) {} (fun x => if x.stamp.any mine then { x with stamp := none } else x) s.rs.frm } }

/-- What a ring keeps across a function-level reset: the sends whose bytes were read and that are still
entering, without a stamp. -/
def txAfterFlr (e : TxEng) : TxEng :=
  { old := e.old ++ (e.sends.filter (fun x => x.bytes.isSome)).map (fun x =>
      { x with first := x.first.set 7 (setBit (x.first.getD 7 0) 26 false) }) }

/-- The DMA state of a function returns to reset: rings, interrupt sources, parked rings, store, share slots,
deliveries in progress. -/
def ndlAfterFlr (s : State) (f : Nat) : NdlSt :=
  let n := s.ndl
  { n with tx := tabMap (fun k => k / 64 == f) {} txAfterFlr n.tx
           rx := tabSel (fun k => k / 64 != f) n.rx
           irq := tabSel (fun k => k / 128 != f) n.irq
           park := n.park.filter (fun p => p.f != f)
           store := tabSel (fun k => k / 8 != f) n.store
           ovr := tabErase n.ovr f
           share := tabSel (fun k => k < shareBase s f || shareBase s f + shareQuota s f ≤ k) n.share
           turn := tabErase n.turn f
           wait := tabMap (fun _ => true) {} (fun x =>
             if x.f == f || x.held.any (fun d => d.f == f) then { seen := x.seen } else x) n.wait }

/-- A function-level reset of one function (R494). -/
def flrOne (s : State) (f : Nat) : State :=
  let s := dropStamps (unfence { s with ndl := ndlAfterFlr s f } (.ndlf f)) f
  let s := resetPage (resetPage s (.ndlf f)) (.flsf f)
  let keep (k : Nat) : Bool := k / 128 != f
  irqPage { s with msixPend := tabSel keep s.msixPend, msixMask := tabSel keep s.msixMask
                   msixTab := tabSel (fun k => k / 512 != f) s.msixTab } (.ndlf f)

/-- A function-level reset: one of function 0 resets all 64 functions and the common pages (R494, Table 17.8). -/
def flr (s : State) (f : Nat) : State :=
  if f = 0 then irqPage (resetPage (resetPage ((List.range 64).foldl flrOne s) .ndl) .flsc) .ndl else flrOne s f

/-- SURPRISE_DOWN (R507, R545): it completes a D3 entry that awaits it; otherwise the link goes down without a transition to a low-power state: queues halt, and DMA
requests, page requests and translations are abandoned. -/
def execSurpriseDown (s : State) : Host.Outcome State Fault Refusal :=
  if s.ndl.down then .next s
  else if s.pwr.d3 = .ready then .next (d3Enter s)
  else
    let s := { s with ndl := { s.ndl with down := true, park := []
                                          wait := tabMap (fun _ => true) {} (fun x => { x with held := none }) s.ndl.wait } }
    .next (stick (bump s .ndl 3 1) .ndl Fld.NDL_STICKY_SURPRISE_DOWN)

/-- PCIE_LINK_RETURN (R507): the functions are in the state of a function-level reset of function 0. -/
def execPcieLinkReturn (s : State) : Host.Outcome State Fault Refusal :=
  if s.ndl.down then .next (flr { s with ndl := { s.ndl with down := false } } 0) else .next s

/-! ### The close (R508, R510) -/

/-- The SHARE_QUOTA of a function as latched. -/
def shareQuotaL (s : State) (f : Nat) : Nat := bits (wordL s .flsc 2 f) 28 16

/-- The rules of R508 that the NDL common page's latched values break. -/
def ndlLatchedBad (s : State) : Bool :=
  (List.range 56).any (fun m =>
    let w := wordL s .ndl 1 m
    bit w 31 && (decide (6 < bits w 14 12) || decide (64 < bits w 21 16 + 2 ^ bits w 14 12)
      || (bit w 11 && shareQuotaL s (bits w 29 24) == 0)))

/-- The rules of R510 that the FLS common page's latched values break. -/
def flsLatchedBad (s : State) : Bool :=
  let sum := (List.range 256).foldl (fun n i => n + bits (wordL s .flsc 1 i) 15 0 + bits (wordL s .flsc 1 i) 31 16) 0
  let base (f : Nat) : Nat := bits (wordL s .flsc 2 f) 15 0
  let size (f : Nat) : Nat := shareQuotaL s f
  let clash (f g : Nat) : Bool :=
    f != g && size f != 0 && size g != 0 && decide (base f < base g + size g) && decide (base g < base f + size f)
  decide (262144 < sum)
    || (List.range 64).any (fun f => decide (4096 < size f) || decide (65536 < base f + size f)
      || (List.range 64).any (clash f))

end Sys2Proof.Machine
end

