-- ==== Sys2Proof/Machine/Commit.lean ====
section
/-! DEFINITION. Commits (R50 to R55, R97 to R104): which pages a group has, what they refuse at the close, what they do
when they apply, and requests at the commit sequencer. -/

namespace Sys2Proof.Machine

/-! ### Groups and pages (R97, R99) -/

/-- Every page of the device. -/
def allPages : List Page :=
  [.glb, .mor, .pwr, .err, .tod, .stitch, .pulse, .cap, .ald, .red, .ndl, .flsc, .rsx, .pol]
    ++ (List.range 3).map .ch ++ (List.range 2).map .ptp ++ (List.range 64).map .ndlf ++ (List.range 64).map .flsf
    ++ (List.range 32).map .ddr ++ (List.range 8).map .mir ++ (List.range 1056).map .tmg
    ++ (List.range 8).map .pnl ++ (List.range 8).map .cls ++ (List.range 8).map .fil
    ++ (List.range 32).map .hop ++ (List.range 32).map .ts ++ (List.range 1024).map .lan ++ (List.range 1024).map .mac
    ++ (List.range 32).map .prk ++ (List.range 32).map .skn ++ (List.range 512).map .bob ++ (List.range 32).map .bobh

/-- The pages that commits concern (R94). -/
def shadowPages : List Page := allPages.filter (fun p => (pageCaps p).hasShadow)

/-- The commit group of a page (R99). -/
def pageGroup (s : State) (p : Page) : Nat := rd s p Fld.PAGE_COMMIT_COMMIT_GROUP

/-- What the sequencer holds of a group. -/
def groupSt (s : State) (g : Nat) : GroupSt := tabGet s.groups {} g

/-- A group's entry replaced. -/
def putGroup (s : State) (g : Nat) (x : GroupSt) : State := { s with groups := tabPut s.groups {} g x }

/-- A group's STATE is set (R104). -/
def setGroupState (x : GroupSt) (n : Nat) : GroupSt := { x with state := n, seq := x.seq + 1 }

/-- The STATE that a pending request shows. -/
def reqState : Option CommitReq → Nat
  | none => 0
  | some .untargeted => 1
  | some (.targeted _) => 2

/-- PAGE_COMMIT_STAT.STATE of a page: its group's, unless the page joined the group afterwards (R99). -/
def pageCommitState (s : State) (p : Page) : Nat :=
  let x := groupSt s (pageGroup s p)
  match tabFind s.pageGrp (pageBase p) with
  | some j => if x.seq = j.seq ∧ x.state ≠ 1 ∧ x.state ≠ 2 then 0 else x.state
  | none => x.state

/-- PAGE_COMMIT_STAT.LAST_AT of a page: its group's, unless the group has not applied since the page joined it. -/
def pageLastAt (s : State) (p : Page) : Nat :=
  let x := groupSt s (pageGroup s p)
  match tabFind s.pageGrp (pageBase p) with
  | some j => if x.applySeq = j.applySeq then j.lastAt else x.lastAt
  | none => x.lastAt

/-- Whether a commit of a group is pending: requested, or latched for the coming boundary (R99). -/
def groupPending (s : State) (g : Nat) : Bool := (groupSt s g).req.isSome || (groupSt s g).latched.isSome

/-- A page whose hoop carries out no boundary steps: it sleeps, or it is fenced and the page is off (R59, R514). -/
def pageAsleep (s : State) (p : Page) : Bool :=
  match pageHoop p with
  | some h => hoopAsleep s h || (hoopFenced s h && offWhenFenced p)
  | none => false

/-! ### SHADOW_DIRTY (R597) -/

/-- Whether a stored field of `b` differs from that of `a`. -/
def fieldsDiffer (a b : Tab Nat) (base : Nat) : Bool :=
  tabSel (fun k => keyBase k == base) a != tabSel (fun k => keyBase k == base) b

/-- SHADOW_DIRTY of a page. -/
def shadowDirty (s : State) (p : Page) : Bool :=
  (pageCaps p).hasShadow &&
  (fieldsDiffer s.shd s.act (pageBase p) || tabGet s.indWr false (pageBase p) ||
    match p with
    | .cls k => (clsBlks s k).any (fun b => b.state == 1 || b.retPend)
    | .fil k => (filList s k).any (fun e => e.2.stg != 0)
    | .skn h => sknStaged s h != 0
    | .bobh h => (List.range 64).any (fun k => (segOf s h k).state == 1 || (segOf s h k).retPend)
    | _ => false)

/-! ### The close (R50, R102) -/

/-- Whether a request falls due at the next boundary (R50, R53). -/
def dueReq (s : State) (r : CommitReq) : Bool :=
  match r with
  | .untargeted => true
  | .targeted n => n == s.stitch + 1

/-- The groups whose request falls due at the next boundary. -/
def dueGroups (s : State) : List Nat := (List.range 16).filter (fun g => (groupSt s g).req.any (dueReq s))

/-- The rules of its block that a page's latched values break (R102). -/
def pageLatchedBad (s : State) (isDue : Page → Bool) (p : Page) : Bool :=
  let get (p : Page) (f : Field) : Nat := if isDue p then ltc s p f else cfg s p f
  match p with
  | .lan l => laneLatchedBad s l || !octetOk s isDue (l / 8)
  | .mac n => macLatchedBad s get n
  | .tmg n => tmgLatchedBad s isDue n
  | .pol => polLatchedBad s
  | .rsx => rsxLatchedBad s
  | .mir k => mirLatchedBad s k
  | .tod => todLatchedBad s
  | .ch i => chLatchedBad s i
  | .ptp j => ptpLatchedBad s get j
  | .pulse => pulseLatchedBad s
  | .ald => aldLatchedBad s
  | .red => redLatchedBad s
  | .ndl => ndlLatchedBad s
  | .flsc => flsLatchedBad s
  | .cls k => clsLatchedBad s k
  | .fil k => filLatchedBad s k
  | .skn h => sknLatchedBad s h
  | .prk h => prkLatchedBad s h
  | .bobh h => bobhLatchedBad s h
  | .bob b => bobLatchedBad s isDue b
  | .pwr =>
    let tj := ltc s .pwr Fld.PWR_CFG_TJ_HOT
    decide (tj < 60) || decide (105 < tj) || ltc s .pwr Fld.PWR_CFG_AVS_TIMEOUT_US == 0
  | .hop h => ltc s (.hop h) Fld.HOP_PWR_CTRL_H2_IDLE_MS != 0 && ltc s (.hop h) Fld.HOP_PWR_CTRL_IDLE_US == 0
  | _ => false

/-- The CFG_REFUSED bit of a page that can refuse. -/
def cfgRefused : Page → Field
  | .lan _ => Fld.LAN_STICKY_CFG_REFUSED
  | .bob _ => Fld.BOB_STICKY_CFG_REFUSED
  | _ => Fld.PWR_STICKY_CFG_REFUSED

/-- The pages that set CFG_REFUSED when page `p` refuses: itself, the whole octet of lanes whose map is no permutation
(R141), and the other port of an overlap (R154). -/
def refusedWith (s : State) (isDue : Page → Bool) (p : Page) : List Page :=
  let get (q : Page) (f : Field) : Nat := if isDue q then ltc s q f else cfg s q f
  match p with
  | .lan l => if octetOk s isDue (l / 8) then [p] else (List.range 8).map (fun i => .lan (l / 8 * 8 + i))
  | .mac n => p :: (if ltc s p Fld.MAC_PORT_CFG_ENABLE = 1 then (overlaps get n).map .mac else [])
  | _ => [p]

/-- The page latches the staged changes that its group's commit will bring into force. -/
def pageClose (s : State) (p : Page) : State :=
  match p with
  | .cls k => clsClose s k
  | .fil k => filClose s k
  | .skn h => sknClose s h
  | .bobh h => segClose s h
  | _ => s

/-- A refused commit leaves the staged changes staged. -/
def pageUnclose (s : State) (p : Page) : State :=
  match p with
  | .cls k => clsMapAll s k (fun b => { b with atClose := false })
  | .fil k => filUnhold s k
  | .skn h => sknUnlatch s h
  | .bobh h => segAll s h (fun x => { x with atClose := false })
  | _ => s

/-- Whether the values latched for page base `b` stand: a sleeping page keeps those of its latest due commit (R59). -/
def latchStands (s : State) (due : List Nat) (b : Nat) : Bool :=
  match pageOf b with
  | some p =>
    match pageHoop p with
    | some h => pageAsleep s p && !due.contains (pageGroup s p) && tabGet s.sleepDue 0 (16 * h + pageGroup s p) != 0
    | none => false
  | none => false

/-- Every page latches its shadow values (R50). -/
def latchShadows (s : State) (due : List Nat) : State :=
  { s with lat := tabMerge (fun k => !latchStands s due (keyBase k)) s.lat s.shd
           indL := tabMerge (fun k => !latchStands s due (wordBase k)) s.indL s.indS
           indLate := tabSel (fun b => latchStands s due b) s.indLate
           ecc := (tabSel (fun k => k / 0x1_0000_0000 % 16 == 15 && !latchStands s due (wordBase k)) s.ecc).foldl
             (fun t e => tabPut (tabErase t e.1) false (e.1 - 0x1_0000_0000) e.2) s.ecc }

/-- The close of the commit window (R50, R102): shadows are latched, requests that fall due become the latched ones,
and a refusal of any page stops every group due. -/
def commitClose (s : State) : State :=
  let due := dueGroups s
  let isDue (p : Page) : Bool := (pageCaps p).hasShadow && due.contains (pageGroup s p)
  let s := latchShadows s due
  let ps := shadowPages.filter isDue
  let bad := ps.filter (pageLatchedBad s isDue)
  if bad.isEmpty then
    let s := ps.foldl pageClose s
    due.foldl (fun s g => putGroup s g { groupSt s g with latched := (groupSt s g).req, req := none }) s
  else
    let s := due.foldl (fun s g => putGroup s g (setGroupState { groupSt s g with req := none } 4)) s
    let s := (bad.flatMap (refusedWith s isDue)).foldl (fun s p => stick s p (cfgRefused p)) s
    bad.foldl (fun s p => stick s p Fld.PAGE_HDR_STICKY_COMMIT_REFUSED) s

/-! ### The apply (R52, R56, R104) -/

/-- What a page does when its commit applies at the boundary that begins stitch `n`; `old` is the state before. -/
def pageApplied (old : State) (n : Nat) (s : State) (p : Page) : State :=
  match p with
  | .lan l => laneApplied old s l
  | .mac k => macApplied old s k
  | .tmg k => tmgApplied old s k
  | .pol => polApplied old s
  | .rsx => rsxApplied s
  | .tod => todApplied old s
  | .ptp j => ptpApplied old s j
  | .pulse => pulseApplied old s
  | .ald => aldApplied old s
  | .cls k => clsApplied s k
  | .fil k => filApplied s k
  | .skn h => sknApplied s h
  | .prk h => wr (scanApplied old s h) (.prk h) Fld.PRK_STATUS_SYNC_BUSY 1
  | .bobh h => bobhApplied old s h n
  | _ => s

/-- Shaper credits are settled before their settings change (R389). -/
def settleFor (s : State) (p : Page) : State :=
  match p with
  | .tmg k => if cfg s p Fld.TMG_SHAPE_EN_SHAPE_EN = 0 ∧ ltc s p Fld.TMG_SHAPE_EN_SHAPE_EN = 0 then s else settle s k
  | _ => s

/-- Entries in error that were rewritten before the latch are whole again in the pages that apply: space 14 marks them;
space 15 marks those rewritten since (Ind.lean). -/
def eccRedo (ecc : Tab Bool) (bases : List Nat) : Tab Bool :=
  let redo := tabSel (fun k => bases.contains (wordBase k) && k / 0x1_0000_0000 % 16 == 14) ecc
  redo.foldl (fun t e =>
    let w := e.1 % 0x1_0000_0000
    tabErase (tabErase t e.1) ((wordBase e.1 + w / 2 ^ 24) * 0x1_0000_0000 + w % 2 ^ 24)) ecc

/-- Whether a word number belongs to a shadowed table. -/
def shadowedWord (k : Nat) : Bool :=
  match pageOf (wordBase k) with
  | some p => (pageSpace p (k / 0x1_0000_0000 % 16)).any (fun x => x.shadowed)
  | none => false

/-- The latched values of pages come into force together (R52): registers, shadowed tables and the copies of voted
fields. -/
def takeLatched (s : State) (ps : List Page) : State :=
  let bases := ps.map pageBase
  let mine (k : Nat) : Bool := bases.contains (keyBase k)
  { s with act := tabMerge mine s.act s.lat
           ind := tabMerge (fun k => bases.contains (wordBase k) && shadowedWord k) s.ind s.indL
           indWr := bases.foldl (fun t b => tabPut t false b (tabGet s.indLate false b)) s.indWr
           ecc := eccRedo s.ecc bases
           vote := tabSel (fun k => !(k % 2 == 1 && mine (k / 2))) s.vote }

/-- A commit of pages applies at the boundary that begins stitch `n` (R52). -/
def applyPages (s : State) (ps : List Page) (n : Nat) : State :=
  let old := ps.foldl settleFor s
  ps.foldl (pageApplied old n) (takeLatched old ps)

/-- The groups whose latched commit applies at the boundary. -/
def latchedGroups (s : State) : List Nat := (List.range 16).filter (fun g => (groupSt s g).latched.isSome)

/-- A group's commit has applied (R104). -/
def groupApplied (n : Nat) (x : GroupSt) : GroupSt :=
  setGroupState { x with latched := none, applySeq := x.applySeq + 1, lastAt := n % 65536, after := 0 }
    (if x.req.isSome then reqState x.req else x.after)

/-- A page of a hoop that is asleep notes the commit that fell due (R59). -/
def noteSleepDue (n : Nat) (s : State) (p : Page) : State :=
  match pageHoop p with
  | some h => { s with sleepDue := tabPut s.sleepDue 0 (16 * h + pageGroup s p) (n % 65536 + 1) }
  | none => s

/-- Step 1 of the boundary that begins stitch `n`, for commits: every page of the latched groups applies, or notes the
commit where its hoop sleeps; the epoch rises when any group applies (R63, R103). -/
def commitApply (s : State) (n : Nat) : State :=
  let gs := latchedGroups s
  let ps := shadowPages.filter (fun p => gs.contains (pageGroup s p))
  let s := applyPages s (ps.filter (fun p => !pageAsleep s p)) n
  let s := (ps.filter (pageAsleep s)).foldl (noteSleepDue n) s
  let s := gs.foldl (fun s g => putGroup s g (groupApplied n (groupSt s g))) s
  if gs.isEmpty then s else { s with epoch := s.epoch + 1 }

/-- A hoop that wakes applies the commits of its pages that fell due in its sleep (R59). -/
def wakeCommits (s : State) (h : Nat) : State :=
  let due (p : Page) : Bool := pageHoop p == some h && tabGet s.sleepDue 0 (16 * h + pageGroup s p) != 0
  let s := applyPages s (shadowPages.filter due) s.stitch
  { s with sleepDue := tabSel (fun k => k / 16 != h) s.sleepDue }

/-! ### Requests (R53 to R55, R101) -/

/-- The stitch in which the sequencer receives a request: after the close, the following one (R50). -/
def reqStitch (s : State) : Nat := if s.closed then s.stitch + 1 else s.stitch

/-- The request that a target of 16 bits makes, none where it has passed (R53). -/
def targetReq (s : State) (at16 : Nat) : Option CommitReq :=
  let c := reqStitch s
  let d := (at16 + 65536 - c % 65536) % 65536
  if 1 ≤ d ∧ d ≤ 32768 then some (.targeted (c + d)) else none

/-- What a group shows after a request or a cancellation of STATE `n`: while a latched commit awaits its boundary, that
commit, and `n` from the boundary on (R55). -/
def requestShown (x : GroupSt) (n : Nat) : GroupSt :=
  if x.latched.isSome then { setGroupState x (reqState x.latched) with after := if x.req.isSome then 0 else n }
  else setGroupState x n

/-- A commit request reaches the sequencer (R53 to R55): it replaces the pending one, or is late. -/
def commitRequest (s : State) (g : Nat) (r : Option CommitReq) : State :=
  let n := if r.isNone then 3 else reqState r
  stickIf r.isNone (putGroup s g (requestShown { groupSt s g with req := r } n)) .stitch
    Fld.STITCH_STICKY_COMMIT_LATE

/-- AT_EN and COMMIT_AT of the written value are taken (R101). -/
def takeAt (s : State) (p : Page) (atEn : Bool) (at16 : Nat) : State :=
  wr (wr s p Fld.PAGE_COMMIT_AT_EN (b2n atEn)) p Fld.PAGE_COMMIT_COMMIT_AT at16

/-- COMMIT_GO written to a page (R101); a group that a system commit holds refuses local requests (R460). -/
def commitGo (s : State) (p : Page) (atEn : Bool) (at16 : Nat) : State :=
  let s := takeAt s p atEn at16
  let g := pageGroup s p
  if sysHeld s g then
    let s := if groupPending s g then s else putGroup s g (setGroupState (groupSt s g) 4)
    stick s p Fld.PAGE_HDR_STICKY_COMMIT_REFUSED
  else commitRequest s g (if atEn then targetReq s at16 else some .untargeted)

/-- COMMIT_CANCEL written to a page (R101). -/
def commitCancel (s : State) (p : Page) (atEn : Bool) (at16 : Nat) : State :=
  let s := takeAt s p atEn at16
  let g := pageGroup s p
  let x := groupSt s g
  if x.req.isNone then s else putGroup s g (requestShown { x with req := none } 5)

end Sys2Proof.Machine
end

