-- ==== Sys2Proof/Machine/Contain.lean ====
section
/-! DEFINITION. The rest of error containment (chapter 16): DDR channels and the spare, die-to-die ports, firmware
restarts, the rearming of vector 0. -/

namespace Sys2Proof.Machine

/-! ### DDR channels (R517, R518) -/

/-- CE_RATE_CHECK (R517): `n` correctable errors were found in channel `c` in the second that ends. -/
def execCeRateCheck (c n : Nat) (s : State) : Host.Outcome State Fault Refusal :=
  let g := Page.ddr c
  let s := wr s g Fld.DDR_ERR_STAT_CE_SEC (sat 65535 n)
  let lim := cfg s g Fld.DDR_ERR_CFG_CE_LIMIT
  .next (if lim ≠ 0 ∧ lim < n then ddrFence (stick s g Fld.DDR_STICKY_CE_HIGH) c 3 else s)

/-- DDR_PHY_FAILURE (R517). -/
def execDdrPhyFailure (c : Nat) (s : State) : Host.Outcome State Fault Refusal := .next (ddrFence s c 1)

/-- Line `k` of channel `c` reaches the spare as poisoned (R518). -/
def poisonLine (c : Nat) (s : State) (k : Nat) : State :=
  let line := 32 * k + c
  let s := ddrUncorr s (256 * line)
  { s with poison := (List.range 8).foldl (fun m i => tabPut m (poisonStart s (8 * line + i)) (8 * line + i) true) s.poison }

/-- The copier passes the lines below `upto` (R518): those of `bad` that it had not passed are poisoned. -/
def copyLines (s : State) (c upto : Nat) (bad : List Nat) : State :=
  let s := (bad.filter (fun k => decide (linesCopied s ≤ k) && decide (k < upto))).foldl (poisonLine c) s
  wr s .err Fld.ERR_DDR_COPY_LINES upto

/-- SPARE_COPY_DONE (R518): the copier has moved the lines below `lines`, `bad` among them with an uncorrectable error;
at the last line the copy ends. -/
def execSpareCopyDone (lines : Nat) (bad : List Nat) (s : State) : Host.Outcome State Fault Refusal :=
  if rd s .err Fld.ERR_DDR_SPARE_STATE ≠ 1 then .next s
  else
    let c := rd s .err Fld.ERR_DDR_SPARE_CHANNEL
    let upto := max (linesCopied s) (min lines 4_194_304)
    let s := copyLines s c upto bad
    .next (if upto < 4_194_304 then s
      else wr (wr s .err Fld.ERR_DDR_SPARE_STATE 2) (.ddr c) Fld.DDR_STATUS_COPYING 0)

/-! ### Die-to-die ports (R529, R530) -/

/-- Consecutive failed replays of the transfer in hand. -/
def replayRun (s : State) (p : Nat) : Nat := tabGet s.pwr.run 0 p

/-- The same is set; MAX_RUN keeps the longest. -/
def putRun (s : State) (p n : Nat) : State :=
  let s := { s with pwr := { s.pwr with run := tabPut s.pwr.run 0 p n } }
  if rd s (.pnl p) Fld.PNL_D2D_STAT_MAX_RUN < n then wr s (.pnl p) Fld.PNL_D2D_STAT_MAX_RUN n else s

/-- The port retrains, and the four hoops of the panel are fenced (R529). -/
def retrain (s : State) (p : Nat) : State :=
  let s := wr (wr s (.pnl p) Fld.PNL_D2D_STAT_TRAINED 0) (.pnl p) Fld.PNL_D2D_STAT_TRAINING 1
  (List.range 4).foldl (fun s i => hoopFence s (4 * p + i) 5) s

/-- D2D_CRC_FAIL (R529): a transfer fails its CRC; `again` says that it is a replay of the transfer that failed
last. -/
def execD2dCrcFail (p : Nat) (again : Bool) (s : State) : Host.Outcome State Fault Refusal :=
  let g := Page.pnl p
  if rdB s g Fld.PNL_D2D_STAT_TRAINING then .next s
  else
    let s := putRun (bump s g 2 1) p (if again then replayRun s p + 1 else 0)
    .next (if 16 ≤ replayRun s p then putRun (retrain s p) p 0
      else stick (bump (bump s g 3 1) .err 8 1) g Fld.PNL_STICKY_REPLAY)

/-- D2D_RETRAIN_DONE (R530): a training ends, the first after reset or one after a failure. -/
def execD2dRetrainDone (p : Nat) (s : State) : Host.Outcome State Fault Refusal :=
  let g := Page.pnl p
  if rdB s g Fld.PNL_D2D_STAT_TRAINED then .next s
  else
    let again := rdB s g Fld.PNL_D2D_STAT_TRAINING
    let s := wr (wr s g Fld.PNL_D2D_STAT_TRAINED 1) g Fld.PNL_D2D_STAT_TRAINING 0
    let s := countSat s g Fld.PNL_D2D_TRAINS_TRAINS
    .next (if again then stick (bump s g 4 1) g Fld.PNL_STICKY_RETRAINED else s)

/-! ### Firmware restart (R523) -/

/-- FW_RESTART (R523): the Sampler is held in HOLDOVER and control cells that firmware answers wait. -/
def execFwRestart (s : State) : Host.Outcome State Fault Refusal :=
  let s := stick s .glb Fld.GLB_STICKY_FW_RESTART
  let s := { s with smp := { s.smp with fwHold := true } }
  .next (if servo s = 2 then holdover s else s)

/-- FW_RESTART_DONE (R523). -/
def execFwRestartDone (s : State) : Host.Outcome State Fault Refusal :=
  .next { s with smp := { s.smp with fwHold := false } }

/-! ### Vector 0 (R522) -/

/-- A write of IRQ0_REARM to the Needle page of function `f`. -/
def rearm (s : State) (f : Nat) : State := if irq0Cond s f then sendMsix s f 0 else s

/-- IRQ0_REARM (R522). -/
def execIrq0Rearm (f : Nat) (s : State) : Host.Outcome State Fault Refusal := .next (rearm s f)

end Sys2Proof.Machine
end

