-- ==== Sys2Proof/Machine/Level.lean ====
section
/-! DEFINITION. Performance levels, their sequences over AVSBus, and the throttles (R532 to R537, R530, R580). -/

namespace Sys2Proof.Machine

/-! ### Levels and voltages (R532, Table 17.1) -/

/-- CUR of panel `p`. -/
def levelCur (s : State) (p : Nat) : Nat := rd s .pwr (Fld.PWR_LEVEL_STAT_CUR p)

/-- The throttle of panel `p`. -/
def thrOfPanel (s : State) (p : Nat) : Throttle := tabGet s.pwr.thr {} p

/-- The throttle replaced; PWR_LEVEL_STAT shows whether it holds the panel. -/
def putThrottle (s : State) (p : Nat) (x : Throttle) : State :=
  let s := { s with pwr := { s.pwr with thr := tabPut s.pwr.thr {} p x } }
  wr s .pwr Fld.PWR_LEVEL_STAT_THROTTLE (setBit (rd s .pwr Fld.PWR_LEVEL_STAT_THROTTLE) p (x.pair != 0 || x.tj != 0))

/-- The effective level of panel `p` (R532). -/
def levelEff (s : State) (p : Nat) : Nat :=
  max (cfg s .pwr (Fld.PWR_LEVEL_REQ p)) (max (thrOfPanel s p).pair (thrOfPanel s p).tj)

/-- The voltage of panel `p` at a level, in mV (R532). -/
def levelMv (p l : Nat) : Nat := min 850 (max 650 (800 - 50 * l + 5 * (Config.vtrim p % 11)))

/-- V_SET of a tile right after reset, in mV (R580, Table 19.6): panels 0 to 7, then the Reseau; the spec gives none
for the Pillow. -/
def resetMv (tile : Nat) : Nat :=
  if tile < 8 then levelMv tile 0 else if tile = 8 then 800 else trunc 16 (Config.free 14 0)

/-- V_SET of a tile. -/
def vSet (s : State) (tile : Nat) : Nat := tabGet s.pwr.vset (resetMv tile) tile

/-- The controller requests a voltage for panel `p`. -/
def requestMv (s : State) (p mv : Nat) : State :=
  { s with pwr := { s.pwr with vset := tabPut s.pwr.vset (resetMv p) p mv } }

/-- The sequence that runs on panel `p`. -/
def levelSeq (s : State) (p : Nat) : Option LevelSeq := tabGet s.pwr.seq none p

/-- The sequence of a panel is set; BUSY shows it. -/
def putSeq (s : State) (p : Nat) (x : Option LevelSeq) : State :=
  let s := { s with pwr := { s.pwr with seq := tabPut s.pwr.seq none p x } }
  wr s .pwr Fld.PWR_LEVEL_STAT_BUSY (setBit (rd s .pwr Fld.PWR_LEVEL_STAT_BUSY) p x.isSome)

/-- The panel clock switches at one edge. -/
def switchClock (s : State) (p l : Nat) : State :=
  if levelCur s p = l then s else bump (wr s .pwr (Fld.PWR_LEVEL_STAT_CUR p) l) .pwr 0 1

/-- A sequence starts (Table 17.2): a raise asks for its voltage first, a lowering switches the clock first. -/
def seqStart (s : State) (p l : Nat) : State :=
  let s := if l < levelCur s p then s else switchClock s p l
  putSeq (requestMv s p (levelMv p l)) p (some { target := l, since := s.now })

/-- A change of the effective level starts a sequence, unless one runs (R533); `old` is the state before. -/
def relevel (old s : State) (p : Nat) : State :=
  if levelEff old p ≠ levelEff s p ∧ levelSeq s p = none then seqStart s p (levelEff s p) else s

/-- Step 1 of a boundary, for levels (R533). -/
def levelsApplied (old s : State) : State := (List.range 8).foldl (fun s p => relevel old s p) s

/-- A sequence ends; where another level applied meanwhile, its sequence starts at once (R533). -/
def seqEnd (s : State) (p l : Nat) : State :=
  let s := putSeq s p none
  if levelEff s p = l then s else seqStart s p (levelEff s p)

/-- AVS_ACK (R533). -/
def execAvsAck (p : Nat) (s : State) : Host.Outcome State Fault Refusal :=
  match levelSeq s p with
  | none => .next s
  | some q => .next (seqEnd (switchClock s p q.target) p q.target)

/-- Whether the voltage request of a sequence has waited for AVS_TIMEOUT_US (R534). -/
def avsOverdue (s : State) (q : LevelSeq) : Bool :=
  decide (q.since + 4000 * cfg s .pwr Fld.PWR_CFG_AVS_TIMEOUT_US ≤ s.now)

/-- AVS_TIMEOUT (R534): the request is sent once more, or the sequence ends. -/
def execAvsTimeout (p t : Nat) (s : State) : Host.Outcome State Fault Refusal :=
  let s := advance s t
  match levelSeq s p with
  | none => .next s
  | some q =>
    .next (if !avsOverdue s q then s
      else if q.resent then seqEnd (stick (bump s .pwr 1 1) .pwr Fld.PWR_STICKY_AVS_FAIL) p q.target
      else putSeq s p (some { q with since := s.now, resent := true }))

/-! ### What the sensors show (R536, R537) -/

/-- The temperature of a tile in 1/8 degree, and V_MEAS less V_SET in mV. -/
def tileTemp (s : State) (tile : Nat) : Int := tabGet s.pwr.temp 0 tile

/-- V_MEAS less V_SET of a tile, in mV. -/
def tileDev (s : State) (tile : Nat) : Int := (tabGet s.pwr.vmeas 0 tile : Nat) - (vSet s tile : Nat)

/-- The tiles of neighbour pair `k`: panels k and k + 1, then panels and the Reseau. -/
def pairTiles (k : Nat) : Nat × Nat := if k < 8 then (k, (k + 1) % 8) else (k - 8, 8)

/-- The temperature difference of a pair. -/
def pairTemp (s : State) (k : Nat) : Nat := (tileTemp s (pairTiles k).1 - tileTemp s (pairTiles k).2).natAbs

/-- The residual voltage difference of a pair. -/
def pairMv (s : State) (k : Nat) : Nat := (tileDev s (pairTiles k).1 - tileDev s (pairTiles k).2).natAbs

/-- The conditions that hold: (pair, 0) for a temperature limit, (pair, 1) for a voltage limit, (panel, 2) for TJ_HOT. -/
def conditions (s : State) : List (Nat × Nat) :=
  ((List.range 16).filter (fun k => decide (120 < pairTemp s k))).map (fun k => (k, 0))
    ++ ((List.range 16).filter (fun k => decide (30 < pairMv s k))).map (fun k => (k, 1))
    ++ ((List.range 8).filter (fun p =>
      decide ((8 * cfg s .pwr Fld.PWR_CFG_TJ_HOT : Nat) < tileTemp s p))).map (fun p => (p, 2))

/-- Whether a condition lowers panel `p` (R536, R537). -/
def conditionLowers (s : State) (p : Nat) (c : Nat × Nat) : Bool :=
  let a := (pairTiles c.1).1
  let b := (pairTiles c.1).2
  if c.2 = 2 then c.1 == p
  else if c.2 = 0 then
    if tileTemp s b < tileTemp s a then p == a else if b = 8 then true else p == b
  else if b = 8 then p == a
  else if (tileDev s a).natAbs < (tileDev s b).natAbs then p == b else p == a

/-! ### Throttling -/

/-- The sticky bit of a kind of condition. -/
def limitBit : Nat → Field
  | 0 => Fld.PWR_STICKY_TDIFF_LIMIT
  | 1 => Fld.PWR_STICKY_VDIFF_LIMIT
  | _ => Fld.PWR_STICKY_TJ_HOT

/-- Panel `p` is lowered by one level, unless it runs at P3 (R536); `kinds` are the limits concerned, none for the
end of the deskew range (R530). -/
def lowerPanel (s : State) (p : Nat) (kinds : List Nat) : State :=
  let e := levelEff s p
  let x := thrOfPanel s p
  if 3 ≤ e then s
  else
    let hot := kinds.contains 2
    let rest := kinds.isEmpty || kinds.any (fun k => k != 2)
    let t := putThrottle s p { x with pair := if rest then e + 1 else x.pair
                                      tj := if hot then e + 1 else x.tj, loweredAt := s.now }
    let t := if hot then bump t .pwr 3 1 else t
    relevel s (bump (kinds.foldl (fun t k => stick t .pwr (limitBit k)) t) .pwr 2 1) p

/-- The kinds among conditions that lower panel `p`. -/
def kindsFor (s : State) (cs : List (Nat × Nat)) (p : Nat) : List Nat :=
  dedup ((cs.filter (conditionLowers s p)).map (·.2))

/-- The times from which panel `p` has been well within its limits (R536, R537). -/
def calmTimes (s : State) (p : Nat) : State :=
  let x := thrOfPanel s p
  let calm := [p, (p + 7) % 8, 8 + p].all (fun k => decide (pairTemp s k ≤ 80) && decide (pairMv s k ≤ 20))
  let cool := decide (tileTemp s p + 40 ≤ (8 * cfg s .pwr Fld.PWR_CFG_TJ_HOT : Nat))
  let since (c : Bool) (t : Nat) : Nat := if !c then 0 else if t = 0 then s.now + 1 else t
  putThrottle s p { x with calmAt := since calm x.calmAt, coolAt := since cool x.coolAt }

/-- What conditions of the `kinds` that begin do to panel `p`: a TJ_HOT that meets a panel at P3 is reported all the
same (R537). -/
def scanPanel (s : State) (p : Nat) (kinds : List Nat) : State :=
  if 3 ≤ levelEff s p ∧ kinds.contains 2 then bump (stick s .pwr Fld.PWR_STICKY_TJ_HOT) .pwr 3 1
  else if kinds.isEmpty then s else lowerPanel s p kinds

/-- SENSOR_SCAN (R536, R537): the temperatures in 1/8 degree and the voltages in mV of the ten tiles are read; a
condition that begins lowers its panels. -/
def execSensorScan (t : Nat) (temps : List Int) (volts : List Nat) (s : State) : Host.Outcome State Fault Refusal :=
  let s := advance s t
  let s := { s with pwr := { s.pwr with
    temp := (List.range 10).foldl (fun m i => tabPut m 0 i (temps.getD i 0)) s.pwr.temp
    vmeas := (List.range 10).foldl (fun m i => tabPut m 0 i (trunc 16 (volts.getD i 0))) s.pwr.vmeas } }
  if s.pwr.supply ≠ .on then .next s else
  let cs := conditions s
  let begun := cs.filter (fun c => !s.pwr.hot.contains c)
  let s := (List.range 8).foldl calmTimes { s with pwr := { s.pwr with hot := cs } }
  let todo := (List.range 8).map (fun p => (p, kindsFor s begun p))
  .next (todo.foldl (fun s e => scanPanel s e.1 e.2) s)

/-- THROTTLE_STEP (R536): 10 ms after a lowering, a condition that still holds lowers panel `p` further. -/
def execThrottleStep (p t : Nat) (s : State) : Host.Outcome State Fault Refusal :=
  let s := advance s t
  let kinds := kindsFor s (conditions s) p
  let more := !kinds.isEmpty || tabGet s.pwr.skewEnd false p
  .next (if more ∧ (thrOfPanel s p).loweredAt + 40_000_000 ≤ s.now then lowerPanel s p kinds else s)

/-- THROTTLE_RECOVER (R536, R537): after 100 ms well within its limits panel `p` rises by one step, and after 100 ms
5 degrees below TJ_HOT it returns to its requested level. -/
def execThrottleRecover (p t : Nat) (s : State) : Host.Outcome State Fault Refusal :=
  let s := advance s t
  let x := thrOfPanel s p
  let long (since : Nat) : Bool := since != 0 && decide (since + 400_000_000 ≤ s.now + 1)
  let step := long x.calmAt && !tabGet s.pwr.skewEnd false p && decide (x.stepAt + 400_000_000 ≤ s.now)
    && decide (x.loweredAt + 400_000_000 ≤ s.now) && x.pair != 0
  let pair := if step then x.pair - 1 else x.pair
  let y := { x with pair := if step ∧ pair ≤ cfg s .pwr (Fld.PWR_LEVEL_REQ p) then 0 else pair
                    tj := if long x.coolAt then 0 else x.tj, stepAt := if step then s.now else x.stepAt }
  .next (relevel s (putThrottle s p y) p)

/-- D2D_DESKEW (R530): the port corrects its skew; at the end of the range the panel is lowered. -/
def execD2dDeskew (p skew : Nat) (limit : Bool) (t : Nat) (s : State) : Host.Outcome State Fault Refusal :=
  let s := advance s t
  let g := Page.pnl p
  let s := if rd s g Fld.PNL_D2D_STAT_SKEW = skew then s else bump (wr s g Fld.PNL_D2D_STAT_SKEW skew) g 5 1
  let was := tabGet s.pwr.skewEnd false p
  let s := { s with pwr := { s.pwr with skewEnd := tabPut s.pwr.skewEnd false p limit } }
  .next (if limit && !was then lowerPanel (stick s g Fld.PNL_STICKY_DESKEW_LIMIT) p [] else s)

end Sys2Proof.Machine
end

