-- ==== Sys2Proof/Machine/Soft.lean ====
section
/-! DEFINITION. The stitch-domain soft reset (R552, R554, Table 17.8). -/

namespace Sys2Proof.Machine

/-- SOFT_STATE: 0 idle, 1 pending, 2 running. -/
def softState (s : State) : Nat := rd s .glb Fld.GLB_RESET_CAUSE_SOFT_STATE

/-- A write of GO to GLB_SOFT_RST (R552): discarded while SOFT_STATE is not 0; a target that has passed performs
nothing. -/
def softRequest (s : State) (atEn : Bool) (at16 : Nat) : State :=
  let s := wr (wr s .glb Fld.GLB_SOFT_RST_AT_EN (b2n atEn)) .glb Fld.GLB_SOFT_RST_AT at16
  if softState s ≠ 0 then s
  else match (if atEn then targetReq s at16 else some .untargeted) with
    | none => stick s .glb Fld.GLB_STICKY_SOFT_LATE
    | some r => wr { s with pwr := { s.pwr with soft := some r } } .glb Fld.GLB_RESET_CAUSE_SOFT_STATE 1

/-- SOFT_RESET_REQUEST (R552). -/
def execSoftResetRequest (atEn : Bool) (at16 : Nat) (s : State) : Host.Outcome State Fault Refusal :=
  .next (softRequest s atEn at16)

/-- The close latches a soft reset that falls due at the coming boundary. -/
def softClose (s : State) : State :=
  match s.pwr.soft with
  | some r => if dueReq s r then { s with pwr := { s.pwr with soft := none, softNow := true } } else s
  | none => s

/-- Host sends whose frame with a stamp is discarded (R491). -/
def stampsGone (s : State) : List StampFor := s.rs.frm.filterMap (fun e => e.2.stamp)

/-- Every frame is discarded and every cell freed; retired cells stay retired, and a frame in reception takes no cell
any more. -/
def dropFrames (s : State) : State :=
  let s := s.ndl.wait.foldl abandonDelivery s
  let s := { s with ndl := { s.ndl with wait := [] } }
  let r := s.rs
  qeCheck { s with rs := { r with
    cell := tabMap (fun _ => true) {} (fun c => if c.state = 2 then c else { c with state := 0, account := 0, crossed := false }) r.cell
    acct := tabMap (fun _ => true) {} (fun a => { a with usedMin := 0, usedSh := 0, usedHr := 0, hold := false }) r.acct
    frm := [], queue := [], tx := [], repl := [], fq := [], fwait := [], bud := [], exempt := []
    rx := tabMap (fun _ => true) none (fun x => x.map (fun x => { x with f := none, lost := true })) r.rx
    tsGone := r.tsGone ++ stampsGone s } }

/-- Transmit state of the ports in `mine` returns to 0: fair-queueing tags, shaper credits, pause timers (Table 17.8). -/
def transmitClear (mine : Nat → Bool) (s : State) : State :=
  { s with tm := { s.tm with
    port := tabMap mine {} (fun x => { x with f := [], tag := [], cred := [], credAt := s.now }) s.tm.port
    pause := tabMap mine {} (fun x => { x with timer := [], since := [] }) s.tm.pause } }

/-- Transmit state of every port returns to 0. -/
def clearTransmit (s : State) : State := transmitClear (fun _ => true) s

/-- The part of a soft reset that hoop `h` carries out: contexts, event queues, bobbins, the timestamp FIFO. -/
def softHoop (s : State) (h : Nat) : State :=
  let s := (List.range 16).foldl (fun s i => bobSoft s (16 * h + i)) (sknLost s h)
  loseStamps s h

/-- Whether hoop `h` applies a soft reset only at its wake (R554). -/
def softLater (s : State) (h : Nat) : Bool := hoopAsleep s h

/-- The soft reset begins, after step 1 of its boundary (R552). -/
def softStart (s : State) : State :=
  let s := { s with pwr := { s.pwr with softNow := false } }
  let s := wr s .glb Fld.GLB_RESET_CAUSE_SOFT_STATE 2
  let s := (List.range 32).foldl (fun s h =>
    if softLater s h then { s with pwr := { s.pwr with softDue := tabPut s.pwr.softDue false h true } }
    else softHoop s h) s
  let busy := tabKeys s.rs.tx
  let s := busy.foldl cellsOut (dropFrames s)
  let s := { s with fil := tabSel (fun k => (tabGet s.fil {} k).user) s.fil }
  clearTransmit (polFill s)

/-- SOFT_RESET_DONE (R552). -/
def execSoftResetDone (s : State) : Host.Outcome State Fault Refusal :=
  .next (if softState s = 2 then wr s .glb Fld.GLB_RESET_CAUSE_SOFT_STATE 0 else s)

/-- A hoop that wakes applies a soft reset that fell due in its sleep, before it carries a frame (R554). -/
def wakeSoft (s : State) (h : Nat) : State :=
  if tabGet s.pwr.softDue false h then
    softHoop { s with pwr := { s.pwr with softDue := tabPut s.pwr.softDue false h false } } h
  else s

end Sys2Proof.Machine
end

