-- ==== Sys2Proof/Machine/Cross.lean ====
section
/-! DEFINITION. What reaches the block of a page (R117 to R122): RW values, the events of hoop pages, software's hand on
fences (R513 to R515), and what a hoop takes when its domain wakes. -/

namespace Sys2Proof.Machine

/-- The bobbins of a hoop, and its ports. -/
def hoopBobs (h : Nat) : List Nat := (List.range 16).map (16 * h + ·)
def hoopPorts (h : Nat) : List Nat := (List.range 32).map (32 * h + ·)

/-- The pages of hoop `h`. -/
def hoopPages (h : Nat) : List Page :=
  [.hop h, .ts h, .prk h, .skn h, .bobh h] ++ (hoopPorts h).map .lan ++ (hoopPorts h).map .mac ++ (hoopBobs h).map .bob

/-! ### Events that act in the management domain -/

/-- The shell of a page holds what is written to its block (R122). The hoop main page's power controller and fence stay
awake while the hoop sleeps. -/
def shellHolds (s : State) (p : Page) : Bool :=
  match p with
  | .hop _ => !rdB s .glb Fld.GLB_RESET_CAUSE_READY
  | _ => domainOff s p

/-- Pages without a crossing: their values and events act at once. -/
def noCrossing (p : Page) : Bool := (pageCaps p).domain == 0

/-- An event that a command names acts now, or the shell holds it. -/
def eventAwake (s : State) (p : Page) (f : Field) (act : State → State) : State :=
  if shellHolds s p && !noCrossing p then queueEvent s p f else act s

/-! ### Counters -/

/-- The live counters of a page return to 0, with what its chapter clears beside them (R176, R373, R531). -/
def cntClear (s : State) (p : Page) : State :=
  let s := { s with cnt := tabSel (fun k => cntBase k != pageBase p) s.cnt }
  match p with
  | .rsx => rsxCntClr s
  | .pnl k => wr s (.pnl k) Fld.PNL_D2D_STAT_MAX_RUN 0
  | _ => s

/-- CNT_CLR (R176, R122). -/
def execCntClr (a : Nat) (s : State) : Host.Outcome State Fault Refusal :=
  .next (match pageOf a with
    | some p => if hasCntClr p then eventAwake s p Fld.PAGE_CTRL_CNT_CLR (cntClear · p) else s
    | none => s)

/-! ### Fences by software (R512 to R515) -/

/-- Whether a page lies in a hoop whose fence turns it off. -/
def inFencedHoop (s : State) (p : Page) : Bool :=
  offWhenFenced p && (pageHoop p).any (hoopFenced s)

/-- A write of FENCE_REQ to a page (R513); pages of no fenceable unit discard it. -/
def fenceReq (s : State) (p : Page) : State :=
  match p with
  | .hop h => hoopFence s h 6
  | .bob b => if inFencedHoop s p then s else bobFenceReq s b
  | .ndlf f => fnFenceReq s f
  | .ch i => chFence s i 3
  | .ddr c => ddrFence s c 4
  | .mac n => if inFencedHoop s p || !isAld s n then s else aldFence s n 3
  | _ => s

/-- FENCE_REQ (R513, R122). -/
def execFenceReq (a : Nat) (s : State) : Host.Outcome State Fault Refusal :=
  .next (match pageOf a with | some p => eventAwake s p Fld.PAGE_FENCE_FENCE_REQ (fenceReq · p) | none => s)

/-- A RELEASE of hoop `h` starts its reset; after DETAIL 5 only once the die-to-die port has trained again (R515). -/
def hoopRelease (s : State) (h : Nat) : State :=
  let waits := rd s (.hop h) Fld.PAGE_FENCE_CAUSE_DETAIL == 5 && !rdB s (.pnl (h / 4)) Fld.PNL_D2D_STAT_TRAINED
  if hoopFenced s h && !waits then { s with pwr := { s.pwr with reset := tabPut s.pwr.reset false h true } } else s

/-- A write of RELEASE to a page (R513, R514, Table 16.1): a function and a DDR channel discard it. -/
def fenceRelease (s : State) (p : Page) : State :=
  if inFencedHoop s p then s
  else match p with
    | .hop h => hoopRelease s h
    | .bob b => if fenced s p then { s with bob := { s.bob with rel := tabPut s.bob.rel false b true } } else s
    | .ch i => chRelease s i
    | .mac n => aldRelease s n
    | _ => s

/-- FENCE_RELEASE (R513, R122). -/
def execFenceRelease (a : Nat) (s : State) : Host.Outcome State Fault Refusal :=
  .next (match pageOf a with | some p => eventAwake s p Fld.PAGE_FENCE_RELEASE (fenceRelease · p) | none => s)

/-! ### What crosses -/

/-- The field of a page with a number. -/
def fieldAt (p : Page) (key : Nat) : Option Field := (pageFields p).find? (fun f => fieldKey p f == key)

/-- An RW value reaches its block (R119), with what its change does there: a checker drops its synchronisation (R149), a
performance counter keeps what it has counted (R336). -/
def reachValue (s : State) (p : Page) (f : Field) (v : Nat) : State :=
  match p with
  | .lan l => chkReach s l f v
  | .bob b => wrBlk (perfNote s b) p f v
  | _ => wrBlk s p f v

/-- An event reaches the block of a page of a hoop, the hoop main page apart. -/
def hoopEvent (s : State) (p : Page) (f : Field) : State :=
  if f = Fld.PAGE_FENCE_FENCE_REQ then fenceReq s p
  else if f = Fld.PAGE_FENCE_RELEASE then fenceRelease s p
  else if f = Fld.PAGE_CTRL_CNT_CLR then cntClear s p
  else match p with
    | .ts h => highClear s h
    | .lan l =>
      if f = Fld.LAN_PAT_CTRL_EVT_CLR then evtClear s l
      else if f = Fld.LAN_PAT_CTRL_CHK_CLR then chkClear s l
      else inject s l
    | .skn h => sknGo s h
    | .bob b => perfClear s b
    | _ => s

/-- An item that crossed reaches the block; `event` is what an event does there. -/
def reachItem (event : State → Field → State) (s : State) (p : Page) (x : Xing) : State :=
  let value (s : State) (key v : Nat) : State :=
    match fieldAt p key with | some f => reachValue s p f v | none => s
  match x with
  | .value key v => value s key v
  | .split lo v hi w => value (value s lo v) hi w
  | .event key => match fieldAt p key with | some f => event s f | none => s

/-- Everything that the shell of a page holds reaches the block, in order (R122). -/
def pageDeliver (s : State) (p : Page) : State :=
  (xingOf s p).foldl (fun s x => reachItem (fun s f => hoopEvent s p f) s p x) (putXing s p [])

/-- A hoop's domain wakes: the shells of its pages deliver what they hold. -/
def hoopDeliver (s : State) (h : Nat) : State := ((hoopPages h).drop 1).foldl pageDeliver s

end Sys2Proof.Machine
end

