-- ==== Sys2Proof/Machine/Sleep.lean ====
section
/-! DEFINITION. Hoop sleep, device sleep and their entry handshakes (R539 to R549, R174, R431, R78). -/

namespace Sys2Proof.Machine

/-! ### What the blocks of a hoop say (Table 17.3) -/

/-- A thread of the hoop holds work. -/
def hoopWork (s : State) (h : Nat) : Bool :=
  s.bob.thr.any (fun e => e.1 / 64 == h && e.2.work != .idle)

/-- A frame waits for the ingress pipeline of a hoop, or its lookup result is on the way. -/
def hoopFrames (s : State) (h : Nat) : Bool :=
  s.rs.frm.any (fun e => e.2.used && e.2.hoop == h && (e.2.stage == .lookup || e.2.stage == .result))

/-- Something is queued for a port of the hoop, or for recirculation into it. -/
def hoopQueued (s : State) (h : Nat) : Bool :=
  s.rs.queue.any (fun e => !e.2.isEmpty && (e.1 / 256 == h || e.1 / 8 * 4 == 4 * 1032 + h))

/-- A port of the hoop receives or sends. -/
def hoopMoves (s : State) (h : Nat) : Bool :=
  s.rs.rx.any (fun e => e.1 / 32 == h && e.2.isSome) || s.rs.tx.any (fun e => e.1 / 32 == h && e.2.isSome)

/-- Whether block `k` (0 to 5) of Table 17.3 refuses. -/
def hoopRefuses (s : State) (h : Nat) : Nat → Bool
  | 0 => !(tabGet s.rs.tsf [] h).isEmpty
  | 1 => hoopWork s h || s.bob.acc.any (fun e => e.1 / 16 == h && e.2.any (fun a => a.tok.isSome))
      || (hoopBobs h).any (fun b => !(fqOf s b).isEmpty || !(tabGet s.evq [] b).isEmpty
        || cfgB s (.bob b) Fld.BOB_CTRL_STITCH_EN)
  | 2 => s.ctx.any (fun e => e.1 / 32768 == h && e.2.state == 1) || (hoopBobs h).any (fun b => !(tabGet s.evq [] b).isEmpty)
      || rdB s (.skn h) Fld.SKN_STATUS_OVL_BUSY || tabGet s.skOp 0 h != 0
  | 3 => hoopFrames s h || rdB s (.prk h) Fld.PRK_STATUS_SYNC_BUSY
  | _ => false

/-! ### Hoop entries (R539, R541, R543, R544) -/

/-- A time in quarter ns for `us` microseconds. -/
def us4 (us : Nat) : Nat := us * 4000

/-- An attempt of hoop `h` begins. -/
def startEntry (s : State) (h : Nat) (h2 : Bool) : State :=
  wr (putEntry s h (some { h2 := h2 })) (.hop h) Fld.HOP_PWR_STAT_STATE 3

/-- Whether an attempt of hoop `h` may start: after step 6 of a boundary and before the next close, with the device
awake and the hoop unfenced (R543). -/
def entryMayStart (s : State) (h : Nat) : Bool :=
  !s.closed && !hoopFenced s h && decide (s.pwr.d3 = .awake) && decide (s.pwr.supply = .on)

/-- H1_ENTRY_ATTEMPT (R539, R544). The command says that the idle time has passed. -/
def execH1EntryAttempt (h t : Nat) (s : State) : Host.Outcome State Fault Refusal :=
  let s := advance s t
  let idle := cfg s (.hop h) Fld.HOP_PWR_CTRL_IDLE_US
  let free := !hoopWork s h && !hoopFrames s h && !hoopQueued s h && !hoopMoves s h
  .next (if entryMayStart s h && hoopState s h == 0 && idle != 0 && free
      && decide (tabGet s.pwr.idleFrom 0 h + us4 idle ≤ s.now) then startEntry s h false else s)

/-- The ports of a hoop are taken down (R541). -/
def portsDown (s : State) (h : Nat) : State := (hoopPorts h).foldl linkFall s

/-- An H2 entry of hoop `h` begins: its ports go down first. -/
def startH2 (s : State) (h : Nat) : State := startEntry (portsDown s h) h true

/-- H2_IDLE_ENTRY (R541). -/
def execH2IdleEntry (h t : Nat) (s : State) : Host.Outcome State Fault Refusal :=
  let s := advance s t
  let ms := cfg s (.hop h) Fld.HOP_PWR_CTRL_H2_IDLE_MS
  .next (if entryMayStart s h && hoopState s h == 1 && cfgB s (.hop h) Fld.HOP_PWR_CTRL_H2_EN && ms != 0
      && decide (tabGet s.pwr.h1At 0 h + us4 (1000 * ms) ≤ s.now) then startH2 s h else s)

/-- A write of H2_REQ (R541): it starts at once, or after step 6 of the coming boundary (R543). -/
def h2Request (s : State) (h : Nat) : State :=
  if !cfgB s (.hop h) Fld.HOP_PWR_CTRL_H2_EN || hoopFenced s h || 2 ≤ hoopState s h then s
  else if s.closed then { s with pwr := { s.pwr with want := tabPut s.pwr.want false h true } }
  else if entryMayStart s h then startH2 s h
  else s

/-- H2_REQ (R541). -/
def execH2Req (h : Nat) (s : State) : Host.Outcome State Fault Refusal := .next (h2Request s h)

/-- The H2 requests that came between the close and the boundary start. -/
def startWanted (s : State) : State :=
  let hs := tabKeys s.pwr.want
  hs.foldl h2Request { s with pwr := { s.pwr with want := [] } }

/-- A hoop that runs again takes what its shells hold and applies what fell due in its sleep before it carries a frame
(R59, R122, R554). -/
def hoopRuns (s : State) (h : Nat) : State :=
  let s := scanResume (wakeSoft (wakeCommits (hoopDeliver s h) h) h) h
  { s with pwr := { s.pwr with idleFrom := tabPut s.pwr.idleFrom 0 h s.now } }

/-- The attempt of hoop `h` ends and the hoop runs (R544). -/
def abortEntry (s : State) (h code : Nat) : State :=
  if (hoopEntry s h).isSome then hoopRuns (endEntry s h code) h else s

/-- The wake-pattern detector of port `n` (R172). -/
def detOf (s : State) (n : Nat) : Detector := tabGet s.pwr.det {} n

/-- It is replaced. -/
def putDet (s : State) (n : Nat) (x : Detector) : State :=
  { s with pwr := { s.pwr with det := tabPut s.pwr.det {} n x } }

/-- WAKE_EN of an enabled port; it has no effect on a disabled slot (R154). -/
def wakeEn (s : State) (n : Nat) : Bool := portEnabled s n && cfgB s (.mac n) Fld.MAC_WAKE_CFG_WAKE_EN

/-- The detector of a port is armed: it takes PHYS_RX and EFF_RX_INV of lane `n` as they stand (R172). -/
def armDetector (s : State) (n : Nat) : State :=
  putDet s n { detOf s n with phys := rd s (.lan n) Fld.LAN_STATUS_PHYS_RX, inv := rdB s (.lan n) Fld.LAN_STATUS_EFF_RX_INV }

/-- Hoop `h` is in H2 (R541): its detectors are armed, logic and lanes are off, its pads are held, and the transmit state of
its ports is 0 (Table 17.8, notes). -/
def enterH2 (s : State) (h : Nat) : State :=
  let s := transmitClear (· / 32 == h) ((hoopPorts h).foldl armDetector s)
  let s := wr (scanSettle s h) (.hop h) Fld.HOP_PWR_STAT_STATE 2
  let s := (hoopPorts h).foldl laneDown s
  bump (wr s (.hop h) Fld.HOP_PWR_STAT_PAD_HELD 1) (.hop h) 1 1

/-- The last block has agreed. -/
def completeEntry (s : State) (h : Nat) (h2 : Bool) : State :=
  let s := putEntry s h none
  if h2 then enterH2 s h
  else
    let s := bump (wr (scanSettle s h) (.hop h) Fld.HOP_PWR_STAT_STATE 1) (.hop h) 0 1
    { s with pwr := { s.pwr with h1At := tabPut s.pwr.h1At 0 h s.now } }

/-- The next block of Table 17.3 answers for hoop `h`. -/
def hoopAnswer (s : State) (h : Nat) : State :=
  match hoopEntry s h with
  | none => s
  | some e =>
    if hoopRefuses s h e.agreed then abortEntry s h (e.agreed + 1)
    else if e.agreed + 1 = (if e.h2 then 6 else 4) then completeEntry s h e.h2
    else putEntry s h (some { e with agreed := e.agreed + 1 })

/-! ### Hoop wakes (R540, R542) -/

/-- A hoop leaves H1. -/
def wakeH1 (s : State) (h code : Nat) : State :=
  if hoopFenced s h then s
  else hoopRuns (wr (wr s (.hop h) Fld.HOP_PWR_STAT_LAST_WAKE code) (.hop h) Fld.HOP_PWR_STAT_STATE 0) h

/-- A wake source with `code` reaches hoop `h`: it leaves its sleep, or its attempt ends (R540, R542, R543). -/
def wakeHoop (s : State) (h code : Nat) : State :=
  match hoopState s h with
  | 1 => wakeH1 s h code
  | 2 => wakeH2 s h code
  | 3 => abortEntry s h 12
  | _ => s

/-- WAKE_REQ (R540, R542). -/
def execWakeReq (h : Nat) (s : State) : Host.Outcome State Fault Refusal := .next (wakeHoop s h 1)

/-- HOOP_H1_WAKE (R540): the first byte of a frame arrives at a port of the hoop (code 2), or a frame is queued for
one or waits for its pipeline (code 3). -/
def execHoopH1Wake (h : Nat) (queued : Bool) (t : Nat) (s : State) : Host.Outcome State Fault Refusal :=
  let s := advance s t
  .next (if hoopState s h = 2 then s else wakeHoop s h (if queued then 3 else 2))

/-- H2_POWER_UP_DONE (R542): the hoop reloads its replica and applies its due commits; its lanes wait for
PAD_RELEASE. -/
def execH2PowerUpDone (h t : Nat) (s : State) : Host.Outcome State Fault Refusal :=
  let s := advance s t
  if hoopState s h ≠ 4 ∨ hoopFenced s h then .next s
  else
    let s := hoopRuns (wr s (.hop h) Fld.HOP_PWR_STAT_STATE 0) h
    .next (if rdB s (.hop h) Fld.HOP_PWR_STAT_PAD_HELD then (hoopPorts h).foldl laneOff s else restartLanes s h)

/-- H2_POWER_UP_TIMEOUT (R542, R554): the hoop is fenced and stays down. -/
def execH2PowerUpTimeout (h : Nat) (s : State) : Host.Outcome State Fault Refusal :=
  .next (if hoopState s h = 4 then hoopFence (wr s (.hop h) Fld.HOP_PWR_STAT_STATE 2) h 4 else s)

/-- A write of PAD_RELEASE to a hoop (R542): its lanes start acquisition, once it is up. -/
def padRelease (s : State) (h : Nat) : State :=
  if !rdB s (.hop h) Fld.HOP_PWR_STAT_PAD_HELD then s
  else
    let s := wr s (.hop h) Fld.HOP_PWR_STAT_PAD_HELD 0
    if hoopState s h = 0 ∧ !hoopFenced s h then restartLanes s h else s

/-- HOOP_PAD_RELEASE (R542). -/
def execHoopPadRelease (h : Nat) (s : State) : Host.Outcome State Fault Refusal := .next (padRelease s h)

/-! ### D3 entry (R543 to R545, Table 17.4) -/

/-- The stage of D3 is set. -/
def putD3 (s : State) (x : D3Stage) : State := { s with pwr := { s.pwr with d3 := x } }

/-- A D3 attempt ends without completing (R544, Table 17.5 step 4a). -/
def d3Abort (s : State) (code hoop : Nat) : State :=
  match s.pwr.d3 with
  | .entering _ _ =>
    let s := (tabKeys s.pwr.d3Hoops).foldl (fun s h => wr s (.hop h) Fld.HOP_PWR_STAT_STATE 4) s
    let s := { s with pwr := { s.pwr with d3 := .awake, d3Hoops := [], slept := none
                                          pmes := s.pwr.pmes + b2n s.pwr.pmeEn } }
    let s := wr (wr s .pwr Fld.PWR_D3_STAT_REFUSER code) .pwr Fld.PWR_D3_STAT_HOOP hoop
    stick (bump (countSat s .pwr Fld.PWR_D3_STAT_ABORTS) .pwr 5 1) .pwr Fld.PWR_STICKY_D3_ABORT
  | _ => s

/-- D3HOT_ENTRY (R545): the host places function 0 in D3hot; `pme` is its PME_En. -/
def execD3hotEntry (pme : Bool) (t : Nat) (s : State) : Host.Outcome State Fault Refusal :=
  let s := advance s t
  .next (if rdB s .pwr Fld.PWR_D3_CTRL_D3_ARM ∧ s.pwr.d3 = .awake ∧ s.pwr.supply = .on then
      putD3 { s with pwr := { s.pwr with pmeEn := pme, d3Hoops := [] } } (.entering 0 0)
    else s)

/-- A DMA request, a page request or a delivery is outstanding. -/
def needleBusy (s : State) : Bool :=
  s.ndl.tx.any (fun e => e.2.reading || !e.2.sends.isEmpty || !e.2.old.isEmpty) || s.ndl.park.any (·.sent)
    || s.ndl.wait.any (fun e => e.2.held.isSome)

/-- The whole H2 entry of hoop `h`, as the D3 handshake runs it: the state after it and whether it completed. -/
def wholeH2 (s : State) (h : Nat) : State × Bool :=
  if hoopState s h = 2 then (s, true)
  else if hoopFenced s h then (s, false)
  else
    let s := portsDown (putEntry s h none) h
    match (List.range 4).find? (hoopRefuses s h) with
    | some k =>
      let s := recordRefusal (wr s (.hop h) Fld.HOP_PWR_STAT_STATE 0) h k (k + 1)
      (restartLanes (hoopRuns s h) h, false)
    | none => (enterH2 { s with pwr := { s.pwr with d3Hoops := tabPut s.pwr.d3Hoops false h true } } h, true)

/-- Whether block `k` of Table 17.4, counted from 0, refuses; hoops and the Sampler answer by themselves. -/
def d3Refuses (s : State) : Nat → Bool
  | 0 => rd s .ald Fld.ALD_STAT_MSTATE != 0
  | 1 => needleBusy s
  | 3 => s.rs.cell.any (fun e => e.2.state == 1) || s.rs.audit.isSome
  | 4 => rd s .err Fld.ERR_DDR_SPARE_STATE == 1
  | 6 => s.mor.req.isSome || s.smp.fwHold
  | _ => false

/-- What the Sampler records (R430). -/
def sleepRecord (s : State) : State :=
  { s with pwr := { s.pwr with slept := some (s.now, rd s .tod Fld.SMP_LEDGER_LEDGER, s.stitch) } }

/-- The next block of Table 17.4 answers. -/
def d3Answer (s : State) : State :=
  match s.pwr.d3 with
  | .entering k j =>
    if k = 2 then
      match wholeH2 s j with
      | (s, true) => putD3 s (if j = 31 then .entering 3 0 else .entering 2 (j + 1))
      | (s, false) => d3Abort s 3 j
    else if d3Refuses s k then d3Abort s (k + 1) 0
    else if k = 6 then putD3 s .ready
    else putD3 (if k = 5 then sleepRecord s else s) (.entering (k + 1) 0)
  | _ => s

/-- HANDSHAKE_ANSWER (R543): the next block of hoop `u`, or with `u` = 32 of the device, answers. -/
def execHandshakeAnswer (u t : Nat) (s : State) : Host.Outcome State Fault Refusal :=
  let s := advance s t
  .next (if u = 32 then d3Answer s else hoopAnswer s u)

/-- HANDSHAKE_TIMEOUT (R543). -/
def execHandshakeTimeout (u : Nat) (s : State) : Host.Outcome State Fault Refusal :=
  .next (if u = 32 then d3Abort s 15 0 else abortEntry s u 15)

/-- PME_TURN_OFF (R545): it is answered after a successful handshake, and the device enters D3. -/
def execPmeTurnOff (s : State) : Host.Outcome State Fault Refusal := .next (d3Enter s)

/-! ### D3 wake (R547 to R549, R431, R78) -/

/-- The restored time in quarter ns (R431): `ticks` of 40 ns, corrected by AON_PPB in 1/1,024 ppb, rounded down. -/
def restoredTime (te ticks : Nat) (ppb : Int) : Nat :=
  te + (((ticks * 160 : Nat) * (1_024_000_000_000 + ppb) : Int) / 1_024_000_000_000).toNat

/-- Time and the stitch count after the sleep (R431, R78): no boundary of the sleep is executed, and targeted commits
that fell in it are late. -/
def restoreTime (s : State) (ledger : Nat) : State :=
  match s.pwr.slept with
  | none => s
  | some (te, le, st) =>
    let ticks := ledger - le
    let p4 := 4 * periodNs s
    let t := restoredTime te ticks (signed 32 (rd s .tod Fld.SMP_AON_PPB_PPB))
    let n := st + (t / p4 - te / p4)
    let back (g : GroupSt) : GroupSt := { g with latched := none, req := if g.req.isNone then g.latched else g.req }
    let s := { s with now := t, stitch := n, bndAt := t / p4 * p4, nextBnd := t / p4 * p4 + p4, closed := false
                      groups := s.groups.map (fun e => (e.1, back e.2)) }
    let s := [0, 1, 2].foldl (loadChannel t) s
    let s := wr (wr s .tod Fld.SMP_LEDGER_LEDGER ledger) .tod Fld.SMP_FROZEN_TICKS ticks
    let s := stick (cancelTargeted s (fun m => decide (m ≤ n))) .stitch Fld.STITCH_STICKY_STITCH_SKIPPED
    let s := stick (setServo s 4 0) .tod Fld.TOD_STICKY_RESTORED_TIME
    pulsesFromNow (showTrace { s with smp := { s.smp with holdAt := none } })

/-- A pending soft reset whose target fell in the sleep is late (R552, R53). -/
def softLate (s : State) : State :=
  match s.pwr.soft with
  | some (.targeted n) =>
    if n ≤ s.stitch then
      stick (wr { s with pwr := { s.pwr with soft := none } } .glb Fld.GLB_RESET_CAUSE_SOFT_STATE 0) .glb
        Fld.GLB_STICKY_SOFT_LATE
    else s
  | _ => s

/-- SEEN collects a source. -/
def seen (s : State) (src : Nat) : State :=
  wr s .pwr Fld.PWR_WAKE_SRC_SEEN (setBit (rd s .pwr Fld.PWR_WAKE_SRC_SEEN) (src - 1) true)

/-- The device wakes from D3 (R547, R549). A rail that fell in the sleep leaves it to the next cold reset (R546). -/
def d3Wake (s : State) (src detail ledger : Nat) : State :=
  if s.pwr.railLost then { s with pwr := { s.pwr with d3 := .awake, supply := .off } }
  else
    let s := seen s src
    let s := wr (wr s .pwr Fld.PWR_WAKE_SRC_SOURCE src) .pwr Fld.PWR_WAKE_SRC_DETAIL detail
    let s := softLate (restoreTime s ledger)
    let s := clearTransmit (polFill s)
    let s := { (flr s 0) with ndl := {} }
    let s := { s with pwr := { s.pwr with d3 := .awake, slept := none, d3Hoops := [], wakeLow := src != 1
                                          vset := (List.range 8).foldl (fun m p =>
                                            tabPut m (resetMv p) p (levelMv p (levelCur s p))) s.pwr.vset } }
    stick s .pwr Fld.PWR_STICKY_D3_WAKE

/-- A wake source of the device arrives (R543, R547): asleep or about to sleep, the device wakes; a handshake ends;
while held pads show that the device has just woken, only SEEN takes it. -/
def wakeSource (s : State) (src detail ledger : Nat) : State :=
  match s.pwr.d3 with
  | .asleep => d3Wake s src detail ledger
  | .ready => d3Wake s src detail ledger
  | .entering _ _ => d3Abort s 12 0
  | .awake => if rdB s .pwr Fld.PWR_PAD_STAT_PAD_HELD then seen s src else s

/-- EN bit of source 2 + k (Table 17.9). -/
def wakeOn (s : State) (k : Nat) : Bool := bit (rd s .pwr Fld.PWR_WAKE_EN_EN) k

/-- PERST_DEASSERT (R547): it always wakes, and ends PCIE_WAKE_N. -/
def execPerstDeassert (ledger : Nat) (s : State) : Host.Outcome State Fault Refusal :=
  let s := wakeSource s 1 0 ledger
  .next { s with pwr := { s.pwr with perst := false, wakeLow := false } }

/-- SMBUS_WAKE_MATCH (R548): an address byte on SMBus port `k` matches in D3. -/
def execSmbusWakeMatch (k addr ledger : Nat) (s : State) : Host.Outcome State Fault Refusal :=
  let want := rd s .pwr (if k = 0 then Fld.PWR_SMB_WAKE_ADDR0 else Fld.PWR_SMB_WAKE_ADDR1)
  let sleeping := s.pwr.d3 = .asleep ∨ s.pwr.d3 = .ready
  .next (if wakeOn s k ∧ addr = want ∧ sleeping then wakeSource s (2 + k) addr ledger else s)

/-- GPIO_WAKE (R547): GPIO `pin` changes level. -/
def execGpioWake (pin ledger : Nat) (s : State) : Host.Outcome State Fault Refusal :=
  .next (if wakeOn s 3 ∧ bit (rd s .pwr Fld.PWR_GPIO_WAKE_MASK) pin then wakeSource s 5 pin ledger else s)

/-- WAKE_TIMER (R547): the sleep ledger stands at `ledger`. -/
def execWakeTimer (ledger : Nat) (s : State) : Host.Outcome State Fault Refusal :=
  let at64 := bk s .pwr Fld.PWR_WAKE_AT_LO_AT + 2 ^ 32 * bk s .pwr Fld.PWR_WAKE_AT_HI_AT
  .next (if rdB s .pwr Fld.PWR_WAKE_EN_TIMER_EN ∧ rdB s .pwr Fld.PWR_D3_CTRL_WAKE_AT_EN ∧ at64 ≤ ledger then
    wakeSource s 6 0 ledger else s)

/-- A write of PAD_RELEASE to the device (R549): its pads are released, and the hoops leave H2. -/
def devicePads (s : State) : State :=
  if rdB s .pwr Fld.PWR_PAD_STAT_PAD_HELD ∧ s.pwr.d3 = .awake then
    (List.range 32).foldl (fun s h =>
      if hoopState s h = 2 ∧ !hoopFenced s h then wr s (.hop h) Fld.HOP_PWR_STAT_STATE 4 else s)
      (wr s .pwr Fld.PWR_PAD_STAT_PAD_HELD 0)
  else s

/-- DEVICE_PAD_RELEASE (R549). -/
def execDevicePadRelease (s : State) : Host.Outcome State Fault Refusal := .next (devicePads s)

/-! ### Wake patterns (R172, R174) -/

/-- WAKE_DA of a port. -/
def wakeDa (s : State) (n : Nat) : Nat :=
  cfg s (.mac n) Fld.MAC_WAKE_DA_HI_DA * 2 ^ 32 + cfg s (.mac n) Fld.MAC_WAKE_DA_LO_DA

/-- The magic pattern stands somewhere after the source address. -/
def magicIn (da : Nat) (b : List Nat) : Bool :=
  let pat := List.replicate 6 255 ++ (List.replicate 16 (beBytes 6 da)).flatten
  (List.range (b.length + 1 - (12 + pat.length))).any (fun i => slice b (12 + i) pat.length == pat)

/-- The position of the first EtherType after up to two VLAN tags. -/
def etherTypeAt (b : List Nat) : Nat :=
  let tag (i : Nat) : Bool := be16 b i == 0x8100 || be16 b i == 0x88A8
  if tag 12 then (if tag 16 then 20 else 16) else 12

/-- The kind of the enabled wake pattern that a frame matches: 1 magic, 2 destination, 3 any; 0 none. DESIGN CHOICE: of
several that match, the first in this order (R174). -/
def wakeKind (s : State) (n : Nat) (b : List Nat) : Nat :=
  let p := Page.mac n
  if cfgB s p Fld.MAC_WAKE_CFG_MAGIC_EN && magicIn (wakeDa s n) b then 1
  else if cfgB s p Fld.MAC_WAKE_CFG_DA_EN && beNat (slice b 0 6) == wakeDa s n
      && be16 b (etherTypeAt b) == cfg s p Fld.MAC_WAKE_CFG_WAKE_ETYPE then 2
  else if cfgB s p Fld.MAC_WAKE_CFG_ANY_EN then 3 else 0

/-- WAKE_PATTERN_MATCH (R174): the detector of port `n` receives a frame with a good FCS; `b` are its bytes before the
FCS. The first match acts; every later frame, until the port's link is up again, is discarded uncounted. -/
def execWakePatternMatch (n : Nat) (b : List Nat) (ledger : Nat) (s : State) : Host.Outcome State Fault Refusal :=
  let p := Page.mac n
  let kind := wakeKind s n b
  let device := decide (s.pwr.d3 = .asleep ∨ s.pwr.d3 = .ready) || rdB s .pwr Fld.PWR_PAD_STAT_PAD_HELD
  if hoopState s (n / 32) ≠ 2 || kind = 0 || !wakeEn s n || (detOf s n).matched
      || rdB s (.hop (n / 32)) Fld.PAGE_FENCE_FENCED then .next s
  else
    let s := putDet s n { detOf s n with matched := true }
    let s := stick (wr s p Fld.MAC_WAKE_STAT_LAST_KIND kind) p Fld.MAC_STICKY_WAKE
    .next (if device then (if wakeOn s 2 then wakeSource s 4 n ledger else s) else wakeH2 s (n / 32) 4)

end Sys2Proof.Machine
end

