-- ==== Sys2Proof/Machine/Reset.lean ====
section
/-! DEFINITION. Resets (R48, R494, R515, R538, R550, R551, R582) and the boot (R566, R568). -/

namespace Sys2Proof.Machine

/-! ### The boot (R438, R566, R568) -/

/-- An entry of the fuse log (Table 18.6). -/
def morEntry (s : State) (recovered : Bool) (op old new hash : Nat) : List Nat :=
  let ok := !recovered && traceable s
  [2 ^ 31 + b2n recovered * 2 ^ 30 + b2n ok * 2 ^ 29 + op * 2 ^ 16 + old % 256 * 2 ^ 8 + new % 256,
   s.stitch % 2 ^ 32, if ok then s.now / 4_000_000_000 % 2 ^ 32 else 0, hash % 2 ^ 32]

/-- The entry goes into the log, which has room for 256 (R567). -/
def morLog (s : State) (e : List Nat) : State :=
  if s.mor.log.length < 256 then { s with mor := { s.mor with log := s.mor.log ++ [e] } } else s

/-- At a boot every change without an entry gets one (R566); what it says of the request is open. -/
def morRecover (s : State) : State :=
  let s := s.mor.lost.foldl (fun s x =>
    let d := draw s 15 32
    morLog d.2 (morEntry d.2 true x.1 x.2.1 x.2.2 d.1)) s
  { s with mor := { s.mor with lost := [] } }

/-- Why a firmware copy does not boot: 1 format, 2 vendor signature, 3 SVN, 4 endorsement; 0 it boots (R568). -/
def copyReason (s : State) (c : FlashCopy) : Nat :=
  let m := morState s
  let need := m == 2 || m == 3 || (m == 1 && keyHeld s 0)
  let endorsed := (ownerKey s).any (fun k => c.endorsed.contains k)
  if !c.format then 1 else if !c.vendor then 2 else if c.svn < s.mor.arb then 3
  else if need && !endorsed then 4 else 0

/-- The boot ROM tries copy A, then copy B. -/
def bootCopies (s : State) (b : BootPins) : State :=
  let ra := copyReason s b.copyA
  let rb := copyReason s b.copyB
  let boot := if ra = 0 then 1 else if rb = 0 then 2 else 3
  let svn := if ra = 0 then b.copyA.svn else if rb = 0 then b.copyB.svn else 0
  let s := wr (wr (wr s .mor Fld.MOR_BOOT_BOOT boot) .mor Fld.MOR_BOOT_REASON_A ra) .mor Fld.MOR_BOOT_SVN svn
  stickIf (boot == 2) s .glb Fld.GLB_STICKY_BOOT_FALLBACK

/-- The role is fixed (R438). -/
def bootRole (s : State) (sel : Bool) : State :=
  let ok := sel && roleFuse s && Config.variant != 1
  stickIf (sel && !ok) { s with ald := { s.ald with capable := ok } } .glb Fld.GLB_STICKY_ROLE_DENIED

/-- The newest lane generation comes into force (R140, Table 18.5). -/
def bootLanes (s : State) : State :=
  (List.range 1024).foldl (fun s l =>
    showMap { s with laneFuse := tabPut s.laneFuse 0 l (fusedLane s l ^^^ (9 * (l % 8))) } l) s

/-- The boot after a cold or warm reset. -/
def boot (s : State) (b : BootPins) : State := bootCopies (bootRole (bootLanes (morRecover s)) b.mgrSel) b

/-! ### Cold and warm resets (R48, R550, R551, Table 17.8) -/

/-- What outlives every reset: the fuses with their log, the flash, the nonce's draws, the model's own counter, the
commands that wait, and the PERST# pin. The debug grant and a request end. -/
def survivors (s : State) : State :=
  let s0 := State.reset
  { s0 with mor := { s.mor with grant := false, req := none, resetDue := none, served := s.mor.served + 1 }
            fresh := s.fresh, pending := s.pending, pwr := { s0.pwr with perst := s.pwr.perst } }

/-- The device after a cold reset. -/
def coldReset (s : State) (b : BootPins) : State := boot (wr (survivors s) .glb Fld.GLB_RESET_CAUSE_CAUSE 1) b

/-- Fields of the always-on domain: the wake registers and the sleep ledger (Table 17.8, R555). -/
def alwaysOn (k : Nat) : Bool :=
  let pwr := pageBase .pwr * 32
  (decide (pwr + 0x090 * 32 ≤ k) && decide (k < pwr + 0x0A8 * 32)) || k == fieldKey .tod Fld.SMP_LEDGER_LEDGER

/-- What a warm reset leaves: the always-on domain stands; temperatures and voltages are as the sensors read them. -/
def warmState (s : State) (cause : Nat) : State :=
  let w := survivors s
  let w := { w with reg := tabSel alwaysOn s.reg, blk := tabSel alwaysOn s.blk
                    pwr := { w.pwr with temp := s.pwr.temp, vmeas := s.pwr.vmeas } }
  wr w .glb Fld.GLB_RESET_CAUSE_CAUSE cause

/-- The device after a warm reset. -/
def warmReset (s : State) (b : BootPins) (cause : Nat) : State := boot (warmState s cause) b

/-- COLD_RESET (R550). -/
def execColdReset (b : BootPins) (s : State) : Host.Outcome State Fault Refusal := .next (coldReset s b)

/-- THERM_TRIP of the Global page, kept across the warm reset of a trip (R557). -/
def tripSticky (s : State) (trip : Bool) : State := stickIf trip s .glb Fld.GLB_STICKY_THERM_TRIP

/-- The release of RESET_N after a thermal trip: every tile reads below 105 degrees (R538). -/
def tripOver (s : State) : Bool := (List.range 10).all (fun i => decide (tileTemp s i < 840))

/-- WARM_RESET (R550, R551, R538, R566): RESET_N has been low for 1 µs and rises. -/
def execWarmReset (b : BootPins) (s : State) : Host.Outcome State Fault Refusal :=
  match s.pwr.supply with
  | .off => .next s
  | .tripped => .next (if tripOver s then tripSticky (warmReset s b 3) (rdB s .glb Fld.GLB_STICKY_THERM_TRIP) else s)
  | .on =>
    if s.pwr.railLost then .next { s with pwr := { s.pwr with supply := .off } }
    else if s.mor.req.isSome then .next { s with mor := { s.mor with resetDue := some b } }
    else .next (warmReset s b 2)

/-- THERMAL_TRIP (R538): a tile has read 115 degrees or more for 1 ms; the device holds itself in warm reset. -/
def execThermalTrip (s : State) : Host.Outcome State Fault Refusal :=
  if s.pwr.supply = .on ∧ (List.range 10).any (fun i => decide (920 ≤ tileTemp s i)) then
    let w := tripSticky (warmState s 3) true
    .next { w with pwr := { w.pwr with supply := .tripped, tripLow := true } }
  else .next s

/-! ### Function-level resets (R494, R550, R554) -/

/-- A function-level reset of function `f`; for function 0 it ends a D3 handshake (R554). -/
def functionReset (s : State) (f : Nat) : State := flr (if f = 0 then d3Abort s 12 0 else s) f

/-- FUNCTION_LEVEL_RESET (R494). -/
def execFunctionLevelReset (f : Nat) (s : State) : Host.Outcome State Fault Refusal :=
  .next (if s.pwr.d3 = .asleep then s else functionReset s f)

/-- PERST_ASSERT (R550). -/
def execPerstAssert (s : State) : Host.Outcome State Fault Refusal :=
  let s := { s with pwr := { s.pwr with perst := true } }
  .next (if s.pwr.d3 = .asleep then s else functionReset s 0)

/-! ### The hoop reset (R515, Table 17.8) -/

/-- Transmit state of the hoop's ports returns to 0 (Table 17.8, notes). -/
def hoopTransmit (s : State) (h : Nat) : State :=
  let mine (k : Nat) : Bool := k / 32 == h
  { s with tm := { s.tm with
    port := tabMap mine {} (fun x => { x with f := [], tag := [], cred := [], credAt := s.now }) s.tm.port
    pause := tabSel (fun k => !mine k) s.tm.pause } }

/-- Everything in hoop `h` beside its pages returns to its reset state. -/
def hoopClear (s : State) (h : Nat) : State :=
  let s := sknLost (bobReset s h) h
  let s := loseStamps (hoopTransmit s h) h
  { s with
    skStaged := tabErase s.skStaged h, skOp := tabErase s.skOp h, skLat := tabErase s.skLat h, skOvl := tabErase s.skOvl h
    lane := tabSel (fun l => l / 32 != h) s.lane, scan := tabErase s.scan h, learnFilt := tabErase s.learnFilt h
    ald := { s.ald with link := tabSel (fun n => n / 32 != h) s.ald.link }
    smp := { s.smp with miss := tabErase s.smp.miss h }
    pwr := { s.pwr with entry := tabErase s.pwr.entry h, want := tabErase s.pwr.want h, h1At := tabErase s.pwr.h1At h
                        softDue := tabErase s.pwr.softDue h, reset := tabErase s.pwr.reset h
                        idleFrom := tabPut s.pwr.idleFrom 0 h s.now } }

/-- The hoop reset: fences end and are logged, pages and state return to reset; held lane pads stay held. -/
def hoopReset (s : State) (h : Nat) : State :=
  let held := rd s (.hop h) Fld.HOP_PWR_STAT_PAD_HELD
  let s := (hoopBobs h).foldl (fun s b => unfence s (.bob b)) s
  let s := (hoopPorts h).foldl (fun s n => unfence s (.mac n)) s
  let s := hoopClear (unfence s (.hop h)) h
  let s := (hoopPages h).foldl resetPage s
  let s := wakeCommits (irqUpdate (wr s (.hop h) Fld.HOP_PWR_STAT_PAD_HELD held) 0) h
  if held = 1 then (hoopPorts h).foldl (fun s l => laneOff (showMap s l) l) s else restartLanes s h

/-- HOOP_RESET_DONE (R515). -/
def execHoopResetDone (h : Nat) (s : State) : Host.Outcome State Fault Refusal :=
  .next (if tabGet s.pwr.reset false h ∧ hoopFenced s h then hoopReset s h else s)

end Sys2Proof.Machine
end

