-- ==== Sys2Proof/Machine/Mordant.lean ====
section
/-! DEFINITION. The Mordant (R558 to R571): requests through the Global page, their checks, burns, the fuse log. -/

namespace Sys2Proof.Machine

/-! ### The request buffer (Table 18.3) -/

/-- OP and N of the buffer. -/
def reqOp (s : State) : Nat := bits (word s .glb 1 0) 3 0
def reqLen (s : State) : Nat := bits (word s .glb 1 0) 24 16

/-- Argument `i` of the request, and all of them. -/
def reqArg (s : State) (i : Nat) : Nat := word s .glb 1 (4 + i)
def reqArgs (s : State) : List Nat := words s .glb 1 4 (reqLen s)

/-- Whether the request carries a signature by the key with a hash (R563). -/
def reqSigned (s : State) (key : Option (List Nat)) : Bool :=
  key.any (fun k => Config.signatureOk k (words s .glb 1 0 (4 + reqLen s)) (words s .glb 1 (4 + reqLen s) 24))

/-- The number of argument words of each OP (Table 18.4); none for an undefined OP. -/
def opArgs : Nat → Option Nat
  | 1 => some 1
  | 2 => some 1
  | 3 => some 12
  | 4 => some 12
  | 5 => some 1
  | 6 => some 256
  | 7 => some 0
  | 8 => some 257
  | 9 => some 0
  | 10 => some 12
  | _ => none

/-! ### The checks (R564) -/

/-- Arguments that no setting of the OP can have: RESULT 6 (R565). -/
def argBad (s : State) (op : Nat) : Bool :=
  let a := reqArg s 0
  match op with
  | 1 => decide (5 < a)
  | 2 => decide (1 < a) || (Config.variant != 1 && (a == 1) == roleFuse s)
  | 5 => decide (128 < a) || decide (a ≤ s.mor.arb)
  | 8 => a % 1024 != 0
  | _ => false

/-- Check 1: OP is defined, equals the one of GLB_MOR_REQ, and the buffer is well formed. -/
def check1 (s : State) (op : Nat) : Bool :=
  opArgs op == some (reqLen s) && reqOp s == op && !argBad s op

/-- Check 2: the nonce and the identity of the device. -/
def check2 (s : State) : Bool :=
  word s .glb 1 1 == morNonce s && word s .glb 1 2 == Config.devUid % 2 ^ 32
    && word s .glb 1 3 == Config.devUid / 2 ^ 32 % 2 ^ 32

/-- The transitions of Table 18.1. -/
def transitionOk (m target : Nat) : Bool :=
  match m with
  | 0 => target == 1
  | 1 => target == 2 || target == 4
  | 2 => target == 3 || target == 4
  | 3 => target == 4
  | 4 => target == 5
  | _ => false

/-- Check 3: the OP is allowed in the present state (Table 18.4); where no copy booted, the ROM serves OP 8 and 9
alone (R568). -/
def check3 (s : State) (op : Nat) : Bool :=
  let m := morState s
  (rd s .mor Fld.MOR_BOOT_BOOT != 3 || op == 8 || op == 9) &&
  match op with
  | 1 => transitionOk m (reqArg s 0)
  | 2 => m == 1 || m == 2
  | 3 => m == 1 && !keyHeld s 0
  | 4 => m == 1 || m == 2 || m == 3
  | 5 => m == 1 || m == 2 || m == 3
  | 6 => m == 1 || m == 2
  | 7 => m == 2 || m == 4
  | 10 => m == 1 && s.mor.debugKey == []
  | _ => true

/-- The owner's debug key, where it can match one. -/
def ownerDebugKey (s : State) : Option (List Nat) := if keyValid s.mor.debugKey then some s.mor.debugKey else none

/-- Check 4: the signature that Tables 18.1 and 18.4 ask for. -/
def check4 (s : State) (op : Nat) : Bool :=
  let m := morState s
  match op with
  | 1 => reqSigned s (if m = 0 ∨ m = 4 then some Config.vendorKey else ownerKey s)
  | 2 => m == 1 || reqSigned s (ownerKey s)
  | 4 => reqSigned s (ownerKey s)
  | 5 => !keyHeld s 0 || reqSigned s (ownerKey s)
  | 6 => m == 1 || reqSigned s (ownerKey s)
  | 7 => reqSigned s (if m = 2 then ownerDebugKey s else some Config.vendorKey)
  | _ => true

/-- Check 5: the setting has a change remaining (Table 18.5). -/
def check5 (s : State) (op : Nat) : Bool :=
  match op with
  | 2 => roleLeft s != 0
  | 4 => keysLeft s != 0
  | 5 => decide (s.mor.arb < 128)
  | 6 => laneLeft s != 0
  | _ => true

/-- The byte of lane `l` in the arguments of LANE_FUSE. -/
def laneArg (s : State) (l : Nat) : Nat := bits (reqArg s (l / 4)) (8 * (l % 4) + 7) (8 * (l % 4))

/-- Whether every octet of the lane map in the arguments is a permutation, in both directions (R141). -/
def laneArgsOk (s : State) : Bool :=
  (List.range 128).all (fun o =>
    let bs := (List.range 8).map (fun i => laneArg s (8 * o + i))
    (dedup (bs.map (fun b => bits b 2 0))).length == 8 && (dedup (bs.map (fun b => bits b 5 3))).length == 8)

/-- Whether flash offset `a` lies inside the copy that booted (R570). -/
def inRunningCopy (s : State) (a : Nat) : Bool :=
  let b := rd s .mor Fld.MOR_BOOT_BOOT
  (b == 1 && decide (a < 0x0100_0000)) || (b == 2 && decide (0x0100_0000 ≤ a))

/-- Check 6: the OP's preconditions; `copies` are the firmware copies in the flash (R565, R569, R570). -/
def check6 (s : State) (op : Nat) (copies : List FlashCopy) : Bool :=
  match op with
  | 1 => !(morState s == 1 && reqArg s 0 == 2) || keyHeld s 0
  | 4 => copies.all (fun c => c.endorsed.contains (reqArgs s))
  | 5 => copies.all (fun c => decide (reqArg s 0 ≤ c.svn))
  | 6 => laneArgsOk s
  | 8 => !inRunningCopy s (reqArg s 0)
  | _ => true

/-- The RESULT of the checks, 0 where all pass: the first that fails gives it (R564). -/
def morCheck (s : State) (op : Nat) (copies : List FlashCopy) : Nat :=
  if !check1 s op then 6 else if !check2 s then 3 else if !check3 s op then 4 else if !check4 s op then 2
  else if !check5 s op then 5 else if !check6 s op copies then 8 else 0

/-! ### Burns (R560, R565, R566) -/

/-- A hash of 384 bits of which those with `burned` are burned, over what the slot holds; unprogrammed while no bit is. -/
def burnHash (old new : List Nat) (burned : Nat → Bool) : List Nat :=
  let have_ := wordsNat old
  let want := wordsNat new
  let n := (List.range 384).foldl (fun n b => if bit want b && burned b then n ||| 2 ^ b else n) have_
  if n = 0 then [] else leWords 12 n

/-- Entering RETURN burns every unburned bit of the owner key slots, the revoke bit of each among them (Table 18.5), and of
the debug key (R560). -/
def eraseKeys (m : MorSt) (burned : Nat → Bool) : MorSt :=
  let keys := (List.range 9).foldl (fun (t : Tab (List Nat)) k =>
    tabPut t [] k (burnHash (tabGet t [] k) allOnes (fun b => burned (1 + 384 * k + b)))) m.keys
  let rev := (List.range 9).foldl (fun (t : Tab Bool) k =>
    if burned (1 + 384 * 10 + k) then tabPut t false k true else t) m.revoked
  { m with keys := keys, revoked := rev, debugKey := burnHash m.debugKey allOnes (fun b => burned (1 + 384 * 9 + b)) }

/-- The key slot that KEY_ROTATE programs: the next after those programmed. -/
def nextSlot (s : State) : Nat := (((List.range 8).find? (fun k => !keyHeld s (k + 1))).map (· + 1)).getD 8

/-- The fuses after the burn of a request of which the bits with `burned` burn. The bits are numbered per OP: 0 for the
transition or role bit and, for a transition to RETURN, 1 + 384 * slot + bit for the keys, slot 9 being the debug
key, and 1 + 3,840 + slot for the revoke bits; the bit of a hash; the steps of the counter; 8 * lane + bit of a lane generation. -/
def morBurn (s : State) (op : Nat) (burned : Nat → Bool) : MorSt :=
  let m := s.mor
  let args := reqArgs s
  match op with
  | 1 =>
    let a := reqArg s 0
    let m' := if a = 4 then eraseKeys m burned else m
    if burned 0 then { m' with t := setBit m.t (a - 1) true } else m'
  | 2 => if burned 0 then { m with role := m.role + 1 } else m
  | 3 => { m with keys := tabPut m.keys [] 0 (burnHash (keySlot s 0) args burned) }
  | 4 => { m with keys := tabPut m.keys [] (nextSlot s) (burnHash (keySlot s (nextSlot s)) args burned) }
  | 5 => { m with arb := m.arb + ((List.range (reqArg s 0 - m.arb)).filter burned).length }
  | 6 =>
    let g := (List.range 1024).map (fun l =>
      (List.range 8).foldl (fun n b => if bit (laneArg s l) b && burned (8 * l + b) then n + 2 ^ b else n) 0)
    if g.all (· == 0) then m else { m with lanes := m.lanes ++ [g] }
  | 10 => { m with debugKey := burnHash m.debugKey args burned }
  | _ => m

/-- OLD and NEW of Table 18.6: the state code for a transition, else a count. -/
def morCount (s : State) (op : Nat) : Nat :=
  match op with
  | 1 => morState s
  | 2 => roleBits s
  | 3 => keysUsed s
  | 4 => keysUsed s
  | 5 => s.mor.arb
  | 6 => s.mor.lanes.length
  | 10 => b2n (s.mor.debugKey != [])
  | _ => 0

/-- The bits that burn in the end (R566). -/
def burnedBits : Burn → Nat → Bool
  | .ok, _ => true
  | .failed bs, b => bs.contains b

/-- The request ends: a new nonce is drawn, RESULT is shown, and a refusal is reported (R563, R564). -/
def morEnd (s : State) (result : Nat) : State :=
  let s := { s with mor := { s.mor with req := none, served := s.mor.served + 1 } }
  let s := wr (wr s .glb Fld.GLB_MOR_STAT_BUSY 0) .glb Fld.GLB_MOR_STAT_RESULT result
  stickIf (result != 0 && result != 7) s .glb Fld.GLB_STICKY_MOR_REFUSED

/-- The fuses change, and the change is logged (R567). -/
def morChange (s : State) (op : Nat) (m : MorSt) : State :=
  if m = s.mor then s
  else
    let hash := Config.requestHash (words s .glb 1 0 512)
    let t := { s with mor := m }
    morLog t (morEntry t false op (morCount s op) (morCount t op) hash)

/-- A warm reset that waited for the request takes place (R566). -/
def morWaited (s : State) : State :=
  match s.mor.resetDue with
  | some b => warmReset s b 2
  | none => s

/-- A request of the operation `op` that changes fuses runs to its end; `after` follows a change that was verified. -/
def morRun (s : State) (op : Nat) (copies : List FlashCopy) (b : Burn) (after : State → State) : State :=
  if s.mor.req ≠ some op then s
  else
    match morCheck s op copies with
    | 0 =>
      let t := morChange s op (morBurn s op (burnedBits b))
      if b = .ok then after (morEnd t 0) else morWaited (morEnd t 7)
    | r => morWaited (morEnd s r)

/-- A write of GO to GLB_MOR_REQ (R563): discarded while a request runs; an undefined OP ends at once. -/
def morGo (s : State) : State :=
  let op := rd s .glb Fld.GLB_MOR_REQ_OP
  if s.mor.req.isSome then stick s .glb Fld.GLB_STICKY_MOR_REFUSED
  else if opArgs op = none then morEnd s 6
  else wr { s with mor := { s.mor with req := some op } } .glb Fld.GLB_MOR_STAT_BUSY 1

/-! ### The operations (Table 18.4) -/

/-- TRANSITION (R559, R560): it takes effect through a warm reset. -/
def execTransition (b : Burn) (pins : BootPins) (s : State) : Host.Outcome State Fault Refusal :=
  .next (morRun s 1 [] b (fun t => warmReset t pins 2))

/-- ROLE (R565): the Mordant performs a warm reset. -/
def execRole (b : Burn) (pins : BootPins) (s : State) : Host.Outcome State Fault Refusal :=
  .next (morRun s 2 [] b (fun t => warmReset t pins 2))

/-- KEY_INIT (R564). -/
def execKeyInit (b : Burn) (s : State) : Host.Outcome State Fault Refusal := .next (morRun s 3 [] b morWaited)

/-- KEY_ROTATE (R569); `copyA` and `copyB` are the firmware copies in the flash. -/
def execKeyRotate (b : Burn) (copyA copyB : FlashCopy) (s : State) : Host.Outcome State Fault Refusal :=
  .next (morRun s 4 [copyA, copyB] b morWaited)

/-- ARB_ADVANCE (R565, R569). -/
def execArbAdvance (b : Burn) (copyA copyB : FlashCopy) (s : State) : Host.Outcome State Fault Refusal :=
  .next (morRun s 5 [copyA, copyB] b morWaited)

/-- LANE_FUSE (R565): the generation comes into force at the next cold or warm reset. -/
def execLaneFuse (b : Burn) (s : State) : Host.Outcome State Fault Refusal := .next (morRun s 6 [] b morWaited)

/-- Debug access opens (R562). -/
def openDebug (s : State) : State :=
  showTrace (stick { s with mor := { s.mor with grant := true } } .glb Fld.GLB_STICKY_DEBUG_OPEN)

/-- DEBUG_GRANT (R562). -/
def execDebugGrant (s : State) : Host.Outcome State Fault Refusal :=
  .next (morRun s 7 [] .ok (fun t => morWaited (openDebug t)))

/-- 1,024 bytes reach the flash (R570). -/
def flashWrite (s : State) : State :=
  { s with mor := { s.mor with flash := tabPut s.mor.flash [] (reqArg s 0 / 1024) ((reqArgs s).drop 1) } }

/-- FLASH_WRITE (R570). -/
def execFlashWrite (s : State) : Host.Outcome State Fault Refusal :=
  .next (morRun s 8 [] .ok (fun t => morWaited (flashWrite t)))

/-- REBOOT (R564): a warm reset. -/
def execReboot (pins : BootPins) (s : State) : Host.Outcome State Fault Refusal :=
  .next (morRun s 9 [] .ok (fun t => warmReset t pins 2))

/-- DEBUG_KEY (R564). -/
def execDebugKey (b : Burn) (s : State) : Host.Outcome State Fault Refusal := .next (morRun s 10 [] b morWaited)

/-! ### Power loss (R566, R582) -/

/-- A power loss during a burn leaves each bit burned or not: those in `bs` are (R566). The change has no entry yet. -/
def cutBurn (s : State) (bs : List Nat) : State :=
  match s.mor.req with
  | none => s
  | some op =>
    let m := morBurn s op bs.contains
    if morCheck s op [] ≠ 0 ∨ m = s.mor then s
    else
      let t := { s with mor := m }
      { t with mor := { m with lost := m.lost ++ [(op, morCount s op, morCount t op)] } }

/-- The device without power: what it held is lost, and the next start is a cold reset (R582). -/
def powerOff (s : State) (bs : List Nat) : State :=
  let t := survivors (cutBurn s bs)
  { t with pwr := { t.pwr with supply := .off, perst := false } }

/-- POWER_LOSS (R582); `bs` are the bits of the change in hand that had burned. -/
def execPowerLoss (bs : List Nat) (s : State) : Host.Outcome State Fault Refusal := .next (powerOff s bs)

/-- SUPPLY_RAIL_FALL (R582): in D3 the loss shows at the wake. -/
def execSupplyRailFall (bs : List Nat) (s : State) : Host.Outcome State Fault Refusal :=
  .next (if s.pwr.d3 = .asleep then { s with pwr := { s.pwr with railLost := true } } else powerOff s bs)

end Sys2Proof.Machine
end

