-- ==== Sys2Proof/Machine/Ind.lean ====
section
/-! DEFINITION. The indirect pair (R110 to R115, R598) and what stands behind the indirect spaces. -/

namespace Sys2Proof.Machine

/-! ### The pair -/

/-- The pair of a page. -/
def pairOf (s : State) (p : Page) : IndSt := tabGet s.pair {} (pageBase p)

/-- The pair replaced. -/
def putPair (s : State) (p : Page) (x : IndSt) : State := { s with pair := tabPut s.pair {} (pageBase p) x }

/-- SPACE, ADDR, DIR and ERR of the pair. -/
def indSpace (s : State) (p : Page) : Nat := rd s p Fld.PAGE_IND_CTRL_SPACE
def indAddr (s : State) (p : Page) : Nat := rd s p Fld.PAGE_IND_ADDR_ADDR
def indDir (s : State) (p : Page) : Bool := rdB s p Fld.PAGE_IND_CTRL_DIR
def indErr (s : State) (p : Page) : Nat := rd s p Fld.PAGE_IND_CTRL_ERR

/-- The words by which ADDR advances (Table 3.8); none for a refused code. -/
def indStep (s : State) (p : Page) : Option Nat :=
  match rd s p Fld.PAGE_IND_CTRL_STEP with
  | 0 => some 0
  | 1 => some 1
  | 2 => some 2
  | 3 => some 4
  | 4 => some 8
  | _ => none

/-- ADDR advances by STEP. -/
def indAdvance (s : State) (p : Page) : State :=
  wr s p Fld.PAGE_IND_ADDR_ADDR (indAddr s p + (indStep s p).getD 0)

/-- A transfer fails with ERR (R115). -/
def indFail (s : State) (p : Page) (err : Nat) : State :=
  stick (wr s p Fld.PAGE_IND_CTRL_ERR err) p Fld.PAGE_HDR_STICKY_IND_ERROR

/-- A space that a command in progress owns: ERR 6 (R200, R386). -/
def spaceOwned (s : State) (p : Page) (n : Nat) : Bool :=
  match p with
  | .prk h => (n == 1 || n == 2) && rdB s (.prk h) Fld.PRK_STATUS_SYNC_BUSY
  | .tmg k => n == 1 && rdB s (.tmg k) Fld.TMG_STATUS_GL_SYNC
  | _ => false

/-- Whether an entry in uncorrectable error has been rewritten, so that its shadow is whole (R202). -/
def eccRewritten (s : State) (p : Page) (n e : Nat) : Bool :=
  let w := n * 2 ^ 24 + e
  tabGet s.ecc false (wordKey p 15 w) || tabGet s.ecc false (wordKey p 14 w)

/-- Whether the read of word `a` of a space, of `w` words an entry, meets an uncorrectable error: ERR 4 (R202, R220, R258,
R294, R340, R397). The ECC of rule memory is on each word. -/
def wordBad (s : State) (p : Page) (n a w : Nat) : Bool :=
  let entry := eccBad s p n (a / w) && !eccRewritten s p n (a / w)
  match p with
  | .cls _ => n ≤ 3 && eccBad s p 1 a
  | .bobh _ => if n = 1 then eccBad s p 1 a else n == 4 && entry
  | .prk _ => n ≤ 2 && entry
  | .fil _ => n == 1 && entry
  | .skn _ => n ≤ 2 && entry
  | .pol => n == 1 && entry
  | _ => false

/-- The ERR with which a transfer of word `a` of space `n` would end, 0 where it succeeds (Table 3.8, R122). A page of
the management plane is read-only to host software (R96). -/
def transferErr (s : State) (p : Page) (n a : Nat) (write : Bool) : Nat :=
  if domainOff s p then 3
  else match pageSpace p n with
    | none => 2
    | some sp =>
      if write && (!sp.writable || (pageCaps p).mgmt) then 2
      else if !write && !sp.readable then 2
      else if !sp.fifo && decide (sp.entries * sp.width ≤ a) then 1
      else if spaceOwned s p n then 6
      else if !write && wordBad s p n a sp.width then 4
      else 0

/-! ### Reading entries -/

/-- The words of a 64-bit count, low word first. -/
def lowHigh (c : Nat) : List Nat := [c % 2 ^ 32, c / 2 ^ 32 % 2 ^ 32]

/-- The counters of entry `e` of a counter space. -/
def entryCounters (p : Page) (n e : Nat) : List Nat :=
  match p with
  | .cls _ => if n ≤ 6 then [1024 + 2 * e, 1024 + 2 * e + 1] else [e]
  | .pol => if n ≤ 4 then (List.range 4).map (polCnt e) else [e]
  | _ => [e]

/-- The words of an entry of the fence log (R521). -/
def fenceWords (x : FenceEntry) : List Nat :=
  [b2n x.fin * 2 ^ 31 + x.cause * 2 ^ 16 + x.slot, x.detail, x.stitch % 2 ^ 32, x.stitch / 2 ^ 32 % 2 ^ 32]

/-- The words of an entry of the audit log (R371). -/
def auditWords (x : AuditEnt) : List Nat := [x.kind * 2 ^ 29 + x.index % 2 ^ 21, x.stitch % 2 ^ 32]

/-- An account's status (Table 11.11, space 2). -/
def acctWords (s : State) (a : Nat) : List Nat :=
  let x := acctOf s a
  [b2n x.hold * 2 ^ 31 + acctUsed x, x.usedSh, x.usedHr * 2 ^ 16 + x.hdrmFrames, x.maxUsed]

/-- A tile's sensors (R555, space 1). -/
def sensorWords (s : State) (tile : Nat) : List Nat :=
  [unsigned 16 (tileTemp s tile), vSet s tile * 2 ^ 16 + tabGet s.pwr.vmeas 0 tile]

/-- A queue pair's status (space 2 of a Needle page). -/
def qpWords (s : State) (f q : Nat) : List Nat :=
  [txState s f q * 2 ^ 16 + (txEng s f q).next % 65536, rxState s f q * 2 ^ 16 + (rxEng s f q).next % 65536]

/-- The HELD of a function's pools, two a word (space 3 of the Floss page). -/
def holdWords (s : State) (f : Nat) : List Nat :=
  (List.range 4).map (fun i => (poolStore s f (2 * i)).length + (poolStore s f (2 * i + 1)).length * 2 ^ 16)

/-- The words of entry `e` of a space that its block answers for. -/
def ownWords (s : State) (p : Page) (n e : Nat) : List Nat :=
  match p with
  | .mor => s.mor.log.getD e [0, 0, 0, 0]
  | .pwr => sensorWords s e
  | .err => [errBitmap s e]
  | .ald => memberWords s e
  | .ndlf f => if n = 1 then words s p 1 (8 * e) 8 else qpWords s f e
  | .flsc => holdWords s e
  | .flsf _ => words s p 1 (4 * e) 4
  | .rsx => if n = 2 then acctWords s e else [queueCells s e, (queueOf s e).length]
  | .pol => [(polOf s e).tokens, (polOf s e).last]
  | .cls k => if n = 4 then [clsMapRead s k e] else clsWords s k e
  | .fil k => filWords (filEnt s k e)
  | .skn h => ctxWords (ctxOf s h e)
  | .bobh h => if n = 2 then [segMapRead s h e] else [word s p 1 e]
  | _ => []

/-- The words of an entry. DESIGN CHOICE: a shadowed table reads as its shadow whatever VIEW_ACTIVE holds, for R105 gives
VIEW_ACTIVE an effect on RWS and RWV fields alone. -/
def spaceWords (s : State) (p : Page) (n e : Nat) (sp : Space) : List Nat :=
  let w := sp.width
  match sp.kind with
  | .table => (List.range w).map (fun i => if sp.shadowed then wordS s p n (w * e + i) else word s p n (w * e + i))
  | .live => (entryCounters p n e).flatMap (fun c => lowHigh (counter s p c))
  | .snap => (entryCounters p n e).flatMap (fun c => lowHigh (tabGet s.snp 0 (cntKey p c)))
  | .own => ownWords s p n e

/-- Whether a counter counts what the spec does not let be counted: TRANSFERS_TX and TRANSFERS_RX of a die-to-die port
(R531), for no rule says which transfers of 64 bytes the panel's work makes; each fetch reads a free value. -/
def countFree (p : Page) (e : Nat) : Bool :=
  match p with
  | .pnl _ => decide (e < 2)
  | _ => false

/-- A whole entry is copied (R114). -/
def fetchEntry (s : State) (p : Page) (n e : Nat) (sp : Space) : List Nat × State :=
  match p with
  | .lan l => eqWords s l
  | _ => if countFree p e then (lowHigh (draw s 21 64).1, (draw s 21 64).2) else (spaceWords s p n e sp, s)

/-- The oldest entry of a FIFO space. -/
def fifoHead (s : State) (p : Page) : Option (List Nat) :=
  match p with
  | .err => s.fenceLog.head?.map fenceWords
  | .cap => s.smp.cap.head?.map capWords
  | .rsx => s.rs.log.head?.map auditWords
  | _ => none

/-- The oldest entry of a FIFO space leaves it. -/
def fifoPop (s : State) (p : Page) : State :=
  match p with
  | .err => wr { s with fenceLog := s.fenceLog.drop 1 } .err Fld.ERR_LOG_LEVEL_LEVEL (s.fenceLog.length - 1)
  | .cap => capPop s
  | .rsx => { s with rs := { s.rs with log := s.rs.log.drop 1 } }
  | _ => s

/-! ### The read direction (R112, R114) -/

/-- Whether a memory error is one of the entry `e` of a space that a fetch copies. -/
def errInEntry (p : Page) (n e : Nat) (x : MemErr) : Bool :=
  match p, x with
  | .prk _, .pattern i _ => n == 1 && i == e
  | .prk _, .selection i _ => n == 2 && i == e
  | .cls _, .rule w _ => n ≤ 3 && w / 16 == e
  | .cls _, .ruleCounter c => n == 5 && c == e
  | .fil _, .filet i _ => n == 1 && i == e
  | .skn _, .context i _ => n == 3 && i == e
  | .skn _, .skeinEntry m i => n == m && i == e
  | .pol, .policer i _ => n == 1 && i == e
  | .pol, .policerCounter i _ => n == 3 && i == e
  | .rsx, .group g _ => n == 3 && g == e
  | _, _ => false

/-- A hoop by which the memory of a page reports its errors. -/
def errHoop : Page → Nat
  | .prk h => h
  | .skn h => h
  | .cls k => 4 * k
  | .fil k => 4 * k
  | _ => 0

/-- The memory errors that a fetch meets in the entry of ADDR (R202, R220, R258, R294, R397). -/
def fetchErrs (s : State) (p : Page) (errs : List MemErr) : State :=
  let n := indSpace s p
  let w := ((pageSpace p n).map (·.width)).getD 1
  if (pairOf s p).fetching && !domainOff s p then
    (errs.filter (errInEntry p n (indAddr s p / w))).foldl (lookupErr (errHoop p)) s
  else s

/-- A fetch ends: the entry of ADDR is in the snapshot, or the fetch has failed. -/
def fetchDone (s : State) (p : Page) : State :=
  let x := pairOf s p
  let n := indSpace s p
  let a := indAddr s p
  if !x.fetching then s
  else
    let err := transferErr s p n a false
    match pageSpace p n with
    | some sp =>
      if err = 0 then
        let r := fetchEntry s p n (a / sp.width) sp
        putPair r.2 p { x with fetching := false, snap := some (n, a / sp.width, r.1) }
      else if x.ahead then putPair s p { x with fetching := false, aheadErr := err }
      else indFail (putPair s p { x with fetching := false }) p err
    | none =>
      if x.ahead then putPair s p { x with fetching := false, aheadErr := err }
      else indFail (putPair s p { x with fetching := false }) p err

/-- A read of a FIFO space removes one word; of an empty FIFO it returns 0 and sets ERR 2. -/
def fifoRead (s : State) (p : Page) (n : Nat) : Nat × State :=
  let x := pairOf s p
  let err := transferErr s p n 0 false
  if err ≠ 0 then (0, indFail s p err)
  else match fifoHead s p with
    | none => (0, indFail s p 2)
    | some ws =>
      let last := decide (ws.length ≤ x.taken + 1)
      let s := putPair (if last then fifoPop s p else s) p { x with taken := if last then 0 else x.taken + 1 }
      (ws.getD x.taken 0, indAdvance s p)

/-- A word of the entry at ADDR, out of the snapshot, or fetched now. -/
def tableRead (s : State) (p : Page) (n : Nat) (sp : Space) : Nat × State :=
  let a := indAddr s p
  let e := a / sp.width
  let step := (indStep s p).getD 0
  let s := match (pairOf s p).snap with
    | some (m, k, _) => if m = n ∧ k = e ∧ step ≠ 0 then s
      else fetchDone (putPair s p { pairOf s p with snap := none, fetching := true, ahead := false }) p
    | none => fetchDone (putPair s p { pairOf s p with fetching := true, ahead := false }) p
  match (pairOf s p).snap with
  | some (_, _, ws) =>
    if wordBad s p n a sp.width then (0, indFail s p 4)
    else
    let v := ws.getD (a % sp.width) 0
    let s := indAdvance s p
    if step = 0 ∨ indAddr s p / sp.width = e then (v, s)
    else (v, putPair s p { pairOf s p with snap := none, fetching := true, ahead := true })
  | none => (0, s)

/-- A read of PAGE_IND_DATA (R112, R115, R598). -/
def indRead (s : State) (p : Page) : Nat × State :=
  if !(pageCaps p).hasInd || indErr s p != 0 || indDir s p then (0, s)
  else
    let s := fetchDone s p
    let n := indSpace s p
    let x := pairOf s p
    if indErr s p ≠ 0 then (0, s)
    else match pageSpace p n with
      | some sp =>
        if sp.fifo then fifoRead s p n
        else if x.aheadErr ≠ 0 then (0, indFail (putPair s p { x with aheadErr := 0 }) p x.aheadErr)
        else tableRead s p n sp
      | none => (0, indFail s p 2)

/-! ### The write direction (R113) -/

/-- An entry in uncorrectable error is rewritten: it is whole again once the page's group applies. Numbers of space 15
hold the mark until the close latches the entry, numbers of space 14 from then on. -/
def entryRewrite (s : State) (p : Page) (n e : Nat) : State :=
  if eccBad s p n e then { s with ecc := tabPut s.ecc false (wordKey p 15 (n * 2 ^ 24 + e)) true } else s

/-- The words of an entry are written to a table. -/
def putEntryWords (s : State) (p : Page) (n e : Nat) (sp : Space) (ws : List Nat) : State :=
  let at_ (i : Nat) : Nat := sp.width * e + i
  if sp.shadowed then
    entryRewrite ((List.range sp.width).foldl (fun s i => putWordS s p n (at_ i) (ws.getD i 0)) s) p n e
  else (List.range sp.width).foldl (fun s i => putWord s p n (at_ i) (ws.getD i 0)) s

/-- Whether a pool may not be rewritten: the store holds handles, or a delivery writes its buffers. -/
def poolBusy (s : State) (f k : Nat) : Bool :=
  !(poolStore s f k).isEmpty || s.ndl.wait.any (fun e => e.2.held.any (fun d => d.f == f && bits d.word 31 29 == k))

/-- A rule counter entry is replaced (R222). -/
def putRuleCounter (s : State) (p : Page) (e : Nat) (ws : List Nat) : State :=
  let put (t : Tab Nat) (c i : Nat) : Tab Nat :=
    tabPut t 0 (cntKey p c) (ws.getD i 0 % 2 ^ 32 + 2 ^ 32 * (ws.getD (i + 1) 0 % 2 ^ 32))
  { s with cnt := put (put s.cnt (1024 + 2 * e) 0) (1024 + 2 * e + 1) 2 }

/-- A whole entry reaches its space: the new state and the ERR of the transfer. -/
def writeEntry (s : State) (p : Page) (n e : Nat) (sp : Space) (ws : List Nat) : State × Nat :=
  match p with
  | .cls k =>
    if n ≤ 3 then clsBlockWrite s k n e ws
    else if n = 4 then clsMapWrite s k e (ws.getD 0 0)
    else (putRuleCounter s p e ws, 0)
  | .bobh h =>
    if n = 1 then segWrite s h e (ws.getD 0 0)
    else if n = 2 then segMapWrite s h e (ws.getD 0 0)
    else (putEntryWords s p n e sp ws, 0)
  | .ald => (syncRecord s ws, 0)
  | .ndlf f => if qpOn s f e then (s, 2) else (putEntryWords s p n e sp ws, 0)
  | .flsf f =>
    if poolBusy s f e || ws.getD 0 0 % 256 != 0 then (s, 2)
    else (putEntryWords s p n e sp ws, 0)
  | .tmg k => (if 1048 ≤ k then s else putEntryWords s p n e sp ws, 0)
  | .fil k =>
    let s := putEntryWords s p n e sp ws
    (if n = 3 then { s with vlanWr := tabPut s.vlanWr [] k (dedup (tabGet s.vlanWr [] k ++ [e])) } else s, 0)
  | _ => (putEntryWords s p n e sp ws, 0)

/-- A buffered write fails: ADDR stands at the last word of its entry, and what followed it is discarded (R115). -/
def writeFail (s : State) (p : Page) (e w err : Nat) : State :=
  indFail (putPair (wr s p Fld.PAGE_IND_ADDR_ADDR (w * e + w - 1)) p { pairOf s p with buf := [], staged := [] }) p err

/-- The oldest buffered write lands (R113). -/
def landWrite (s : State) (p : Page) : State :=
  let x := pairOf s p
  match x.buf with
  | [] => s
  | b :: bs =>
    let s := putPair s p { x with buf := bs }
    match pageSpace p b.space with
    | none => s
    | some sp =>
      let err := transferErr s p b.space (sp.width * b.entry) true
      if err ≠ 0 then writeFail s p b.entry sp.width err
      else
        let r := writeEntry s p b.space b.entry sp b.words
        if r.2 = 0 then r.1 else writeFail r.1 p b.entry sp.width r.2

/-- Every buffered write lands. -/
def landAll (s : State) (p : Page) : State := (pairOf s p).buf.foldl (fun s _ => landWrite s p) s

/-- Words that the page buffers; 16 at most (R113). -/
def bufWords (x : IndSt) : Nat := x.buf.foldl (fun n b => n + b.words.length) 0

/-- A word of an entry of several words is staged; the last one completes the entry, and an ADDR that leaves the entry
before breaks it: ERR 5. DESIGN CHOICE: a write that begins in the middle of an entry, or repeats a word (STEP 0), can never
complete it and ends at once with ERR 5, where R113 names only the ADDR that leaves the entry. -/
def stageWord (s : State) (p : Page) (n : Nat) (sp : Space) (v : Nat) : State :=
  let x := pairOf s p
  let a := indAddr s p
  let e := if sp.fifo then 0 else a / sp.width
  let o := if sp.fifo then x.staged.length else a % sp.width
  let ws := x.staged ++ [v]
  if o ≠ x.staged.length then indFail (putPair s p { x with staged := [] }) p 5
  else if ws.length = sp.width then
    indAdvance (putPair s p { x with staged := [], buf := x.buf ++ [⟨n, e, ws⟩] }) p
  else if !sp.fifo && (a + (indStep s p).getD 0) / sp.width != e then
    indFail (putPair s p { x with staged := [] }) p 5
  else indAdvance (putPair s p { x with staged := ws }) p

/-- A write of PAGE_IND_DATA (R113, R115, R598). -/
def indWrite (s : State) (p : Page) (v : Nat) : State :=
  if !(pageCaps p).hasInd || indErr s p != 0 then s
  else if !indDir s p then indFail s p 2
  else
    let s := if 16 ≤ bufWords (pairOf s p) then landAll s p else s
    let n := indSpace s p
    let err := transferErr s p n (indAddr s p) true
    if indErr s p ≠ 0 then s
    else if err ≠ 0 then indFail (putPair s p { pairOf s p with staged := [] }) p err
    else match pageSpace p n with
      | some sp => stageWord s p n sp v
      | none => s

/-! ### PAGE_IND_CTRL and PAGE_IND_ADDR (R111) -/

/-- The transfer in progress ends, and what the pair holds for it is discarded; ERR is cleared. -/
def indClear (s : State) (p : Page) : State :=
  let s := landAll (fetchDone s p) p
  let x := pairOf s p
  wr (putPair s p { x with staged := [], snap := none, fetching := false, ahead := false, aheadErr := 0, buf := [] }) p
    Fld.PAGE_IND_CTRL_ERR 0

/-- A STEP that the page refuses shows ERR 2 (Table 3.8). -/
def stepCheck (s : State) (p : Page) : State := if indStep s p = none then indFail s p 2 else s

/-- A write of PAGE_IND_CTRL. -/
def indCtrl (s : State) (p : Page) (space step : Nat) (dir : Bool) : State :=
  if !(pageCaps p).hasInd then s
  else
    let s := indClear s p
    let s := wr (wr s p Fld.PAGE_IND_CTRL_SPACE space) p Fld.PAGE_IND_CTRL_STEP step
    stepCheck (wr s p Fld.PAGE_IND_CTRL_DIR (b2n dir)) p

/-- A write of PAGE_IND_ADDR: in the read direction it starts a fetch, which ends at once where the domain is off. -/
def indAddrWrite (s : State) (p : Page) (a : Nat) : State :=
  if !(pageCaps p).hasInd then s
  else
    let s := wr (indClear s p) p Fld.PAGE_IND_ADDR_ADDR a
    let fifo := (pageSpace p (indSpace s p)).any (fun sp => sp.fifo)
    if indStep s p = none then indFail s p 2
    else if indDir s p || fifo then s
    else
      let s := putPair s p { pairOf s p with fetching := true, ahead := false }
      if domainOff s p then fetchDone s p else s

/-! ### The commands -/

/-- Whether a page can be reached: the debug pages are unmapped while debug access is closed (R561). -/
def pageOpen (s : State) (p : Page) : Bool :=
  match p with
  | .pil i => decide (i < 8) || debugOpen s
  | _ => true

/-- The page that an address reaches in this state. -/
def pageAt (s : State) (a : Nat) : Option Page := (pageOf a).filter (pageOpen s)

/-- A command to the page at an address; it changes nothing where no page is. -/
def onPage (s : State) (a : Nat) (f : Page → State) : State :=
  match pageAt s a with
  | some p => f p
  | none => s

/-- IND_CTRL_WRITE (R111). -/
def execIndCtrlWrite (a space step : Nat) (dir : Bool) (s : State) : Host.Outcome State Fault Refusal :=
  .next (onPage s a (fun p => indCtrl s p space step dir))

/-- IND_ADDR_WRITE (R111, R112). -/
def execIndAddrWrite (a w : Nat) (s : State) : Host.Outcome State Fault Refusal :=
  .next (onPage s a (fun p => indAddrWrite s p w))

/-- A value is returned to the host. -/
def answer (r : Nat × State) : State := { r.2 with ioData := r.1 }

/-- IND_DATA_READ (R112). -/
def execIndDataRead (a : Nat) (s : State) : Host.Outcome State Fault Refusal :=
  .next (onPage s a (fun p => answer (indRead s p)))

/-- IND_DATA_WRITE (R113). -/
def execIndDataWrite (a w : Nat) (s : State) : Host.Outcome State Fault Refusal :=
  .next (onPage s a (fun p => indWrite s p w))

/-- IND_FETCH_DONE (R114); the errors are those that the fetch meets in the memory. -/
def execIndFetchDone (a : Nat) (errs : List MemErr) (s : State) : Host.Outcome State Fault Refusal :=
  .next (onPage s a (fun p => fetchDone (fetchErrs s p errs) p))

/-- IND_WRITE_DONE (R113). -/
def execIndWriteDone (a : Nat) (s : State) : Host.Outcome State Fault Refusal :=
  .next (onPage s a (fun p => landWrite s p))

/-! ### The commands of the maps (R210, R211, R330) -/

/-- A write of CMD `cmd` to an entry of a map, the whole transfer: a refused one ends with its ERR. -/
def mapCommand (s : State) (p : Page) (n e cmd : Nat) : State :=
  let err := transferErr s p n e true
  if err ≠ 0 then indFail s p err
  else match pageSpace p n with
    | none => s
    | some sp =>
      let r := writeEntry s p n e sp [cmd * 2 ^ 8]
      if r.2 = 0 then r.1 else indFail r.1 p r.2

/-- CLS_RETIRE (R210). -/
def execClsRetire (p k : Nat) (s : State) : Host.Outcome State Fault Refusal := .next (mapCommand s (.cls p) 4 k 1)

/-- CLS_UNSTAGE (R210, R211). -/
def execClsUnstage (p k : Nat) (s : State) : Host.Outcome State Fault Refusal := .next (mapCommand s (.cls p) 4 k 2)

/-- CLS_KEEP (R210, R211). -/
def execClsKeep (p k : Nat) (s : State) : Host.Outcome State Fault Refusal := .next (mapCommand s (.cls p) 4 k 3)

/-- SEG_RETIRE (R330). -/
def execSegRetire (h k : Nat) (s : State) : Host.Outcome State Fault Refusal := .next (mapCommand s (.bobh h) 2 k 1)

/-- SEG_UNSTAGE (R330). -/
def execSegUnstage (h k : Nat) (s : State) : Host.Outcome State Fault Refusal := .next (mapCommand s (.bobh h) 2 k 2)

/-- SEG_KEEP (R330). -/
def execSegKeep (h k : Nat) (s : State) : Host.Outcome State Fault Refusal := .next (mapCommand s (.bobh h) 2 k 3)

end Sys2Proof.Machine
end

