-- ==== Sys2Proof/Machine/Regs.lean ====
section
/-! DEFINITION. Reads and writes of registers (R83, R85, R88 to R96, R101, R105 to R109, R116 to R122), the events that
a write starts, and what crosses to the blocks. -/

namespace Sys2Proof.Machine

/-- What a step of the machine leaves, where it answers a next state. -/
def after (o : Host.Outcome State Fault Refusal) (s : State) : State :=
  match o with
  | .next t => t
  | _ => s

/-! ### Voted fields (R106 to R108) -/

/-- Bitwise majority of three. -/
def majority (a b c : Nat) : Nat := (a &&& b) ||| (a &&& c) ||| (b &&& c)

/-- The number of the upsets of a field: its shadow copies, or the copies of its value in force. -/
def voteKey (p : Page) (f : Field) (active : Bool) : Nat := 2 * fieldKey p f + b2n active

/-- The three copies of a field that was written as `v`: what each holds, and whether its parity is good. -/
def copies (v : Nat) (x : Vote) : List (Nat × Bool) :=
  [(v ^^^ x.a.flip, !x.a.bad), (v ^^^ x.b.flip, !x.b.bad), (v ^^^ x.c.flip, !x.c.bad)]

/-- The value that the scrubber resolves from three copies, and the COPY that it records: 3 for more than one;
none where the field cannot be resolved (R107, R108). -/
def resolve (v : Nat) (x : Vote) : Option (Nat × Nat) :=
  match copies v x with
  | [(a, true), (b, true), (c, true)] =>
    let m := majority a b c
    let off := (if a = m then [] else [0]) ++ (if b = m then [] else [1]) ++ (if c = m then [] else [2])
    some (m, match off with | [i] => i | _ => 3)
  | [(_, false), (b, true), (c, true)] => if b = c then some (b, 0) else none
  | [(a, true), (_, false), (c, true)] => if a = c then some (a, 1) else none
  | [(a, true), (b, true), (_, false)] => if a = b then some (a, 2) else none
  | _ => none

/-- What a read of a voted field returns (R106): where the good copies leave a bit open, a free value. -/
def voteRead (s : State) (p : Page) (f : Field) (active : Bool) (v : Nat) : Nat :=
  let x := tabGet s.vote {} (voteKey p f active)
  match resolve v x with
  | some r => r.1
  | none =>
    match (copies v x).filter (·.2) with
    | [c] => c.1
    | [b, c] => (b.1 &&& c.1) ||| ((b.1 ^^^ c.1) &&& trunc f.width (Config.free 16 (voteKey p f active)))
    | _ => trunc f.width (Config.free 16 (voteKey p f active))

/-! ### Reading registers (R89, R105) -/

/-- STATE_t of BOB_THREAD_STAT. Whether a thread that can issue is ready, running or fetching differs by clocks alone: one
of 1, 5 and 6, left open. -/
def threadState (s : State) (b t : Nat) : Nat :=
  let x := thrOf s b t
  if fenced s (.bob b) || hoopFenced s (b / 16) then 8
  else if x.work = .idle then 0
  else if t ≠ 0 ∧ stitchRuns s b then 4
  else match x.wait with
    | .run => [1, 5, 6].getD (Config.free 7 s.now % 3) 1
    | .token _ => 2
    | .table _ _ => 3
    | .room => 6
    | .fin => 7

/-- The fields of a page whose value other state gives. -/
def derivedField (s : State) (p : Page) (f : Field) : Option Nat :=
  match p with
  | .err =>
    if f = Fld.ERR_TOP_TOP then some (errTop s) else none
  | .red => if f = Fld.ALD_RED_USED_USED then some (dupUsed s) else none
  | .pulse =>
    if f = Fld.PULSE_STATUS_LEVEL then
      some ((List.range 17).foldl (fun n i => n + b2n (pulseLevel s i) * 2 ^ i) 0)
    else none
  | .ndl => if f = Fld.NDL_PRI_STAT_OUTSTANDING then some (priAll s) else none
  | .ndlf k =>
    if f = Fld.NDL_FN_PRI_OUTSTANDING then some (priOut s k)
    else if f = Fld.NDL_FN_PRI_PARKED then some (s.ndl.park.filter (fun x => x.f == k)).length
    else none
  | .flsc => if f = Fld.FLS_STORE_USED_USED then some (storeUsed s) else none
  | .flsf k => if f.off < 0x0A0 then none else some (poolStore s k ((f.off - 0x0A0) / 4)).length
  | .rsx =>
    if f = Fld.RSX_SHARED_SIZE_SIZE then some (sharedSize s)
    else if f = Fld.RSX_SHARED_USED_USED then some (sharedUsed s)
    else if f = Fld.RSX_FREE_CELLS_FREE then some (freeCells s)
    else if f = Fld.RSX_FREE_QE_FREE then some (freeQe s)
    else none
  | .mir k => if f = Fld.RSX_MIR_QLEN_QLEN then some (portEntries s (1040 + k)) else none
  | .pol => if f = Fld.TMG_POL_VALID_COUNT then some (polListed s).length else none
  | .tmg n =>
    if f = Fld.TMG_GL_START_START then some (glStart s n)
    else if f = Fld.TMG_GL_STAT_ENTRY then some (glEntry s n)
    else if f = Fld.TMG_GL_STAT_STATE then some (glState s n)
    else if f = Fld.TMG_STATUS_CREDIT_NEG then some (creditNeg s n)
    else if f = Fld.TMG_STATUS_GATES then some (gatesAt s n s.now)
    else none
  | .cls k =>
    if f = Fld.CLS_BLK_LIVE_LIVE then some (clsCount s k 2)
    else if f = Fld.CLS_BLK_RETIRE_RETIRE then some (clsCount s k 3)
    else if f = Fld.CLS_BLK_STAGED_STAGED then some (clsCount s k 1)
    else if f = Fld.CLS_STATUS_TREES_ON then
      some ((List.range 4).foldl (fun n c => n + cfg s (.cls k) (Fld.CLS_TREE_EN c) * 2 ^ c) 0)
    else none
  | .fil k =>
    if f = Fld.FIL_COUNT_DATA_DATA then some (filInForce s k false)
    else if f = Fld.FIL_COUNT_USER_USER then some (filInForce s k true)
    else if f = Fld.FIL_STAGED_STAGED then some ((filList s k).filter (fun e => e.2.stg != 0)).length
    else if f = Fld.FIL_STATUS_OVF_USED then some (filOvfUsed s k)
    else none
  | .prk h =>
    if f = Fld.PRK_CREDIT_CREDIT then some (scanCredit8 s h / 8)
    else if f = Fld.PRK_STATUS_PAT_COUNT then some (patCount s h)
    else none
  | .skn h =>
    if f = Fld.SKN_CTX_USED_ACTIVE then some (ctxCount s h 2)
    else if f = Fld.SKN_CTX_USED_PENDING then some (ctxCount s h 1)
    else if f = Fld.SKN_OVERLAY_STAGED then some (sknStaged s h)
    else if f = Fld.SKN_CMD_STAT_BUSY then some (b2n (tabGet s.skOp 0 h != 0))
    else none
  | .bob b =>
    if f = Fld.BOB_QUEUE_STAT_FRMQ then some (fqOf s b).length
    else if f = Fld.BOB_QUEUE_STAT_HELD then some (sat 255 (fwaitOf s b).length)
    else if f = Fld.BOB_QUEUE_STAT_SKNQ then some (tabGet s.evq [] b).length
    else if f = Fld.BOB_THREAD_STAT_TOK_OUT then some (tokOut s b)
    else if f.off = 0x088 then some (threadState s b (f.lo / 4))
    else if 0x0C0 ≤ f.off ∧ f.width = 48 then some (perfRead s b ((f.off - 0x0C0) / 8)).1
    else none
  | .bobh h =>
    if f = Fld.BOB_SEG_COUNT_LIVE then some (segCount s h 2)
    else if f = Fld.BOB_SEG_COUNT_RETIRE then some (segCount s h 3)
    else if f = Fld.BOB_SEG_COUNT_STAGED then some (segCount s h 1)
    else none
  | .mac n => if 0x0C0 ≤ f.off ∧ f.off < 0x0D0 ∧ !isAld s n then some 0 else none
  | _ => none

/-- What a read of a field returns: for RWS and RWV the shadow, or with VIEW_ACTIVE the value in force (R105). -/
def readField (s : State) (p : Page) (f : Field) : Nat :=
  let view := rdB s p Fld.PAGE_COMMIT_VIEW_ACTIVE
  let v := if view then cfg s p f else shw s p f
  match derivedField s p f with
  | some x => x
  | none =>
    match f.access with
    | .wo => 0
    | .rws => v
    | .rwv => voteRead s p f view v
    | _ => rd s p f

/-- PAGE_STICKY as stored. -/
def stickyWord (s : State) (p : Page) : Nat :=
  (regFields p 0x018).foldl (fun n f => n + rd s p f * 2 ^ f.lo) 0

/-- The registers of a header whose value other state gives (R91 to R95, R104, R119). -/
def headerWord (s : State) (p : Page) (off : Nat) : Nat :=
  let c := pageCaps p
  match off with
  | 0x000 => c.block * 2 ^ 24 + c.inst * 2 ^ 8 + c.page
  | 0x004 => Config.pageVersion (pageBase p) % 2 ^ 16
  | 0x008 => c.spaces * 2 ^ 12 + c.domain * 2 ^ 8 + b2n c.mgmt * 2 ^ 4 + b2n c.hasFence * 2 ^ 3 + b2n c.hasInd * 2 ^ 2
      + b2n c.hasVote * 2 + b2n c.hasShadow
  | 0x014 =>
    let busy := (pairOf s p).fetching || !(pairOf s p).buf.isEmpty
    b2n (fenced s p) * 2 ^ 31 + b2n (shadowDirty s p) * 2 ^ 30 + b2n (!(tabGet s.xing [] (pageBase p)).isEmpty) * 2 ^ 29
      + b2n busy * 2 ^ 28 + b2n (domainOff s p) * 2 ^ 27
  | 0x024 => stickyWord s p &&& rd s p Fld.PAGE_IRQ_EN_IRQ_EN
  | 0x02C => if c.hasShadow then pageLastAt s p * 2 ^ 16 + pageCommitState s p else 0
  | 0x038 => if c.hasInd then b2n ((pairOf s p).fetching || !(pairOf s p).buf.isEmpty) * 2 ^ 31 else 0
  | _ => 0

/-- Byte offsets of a Needle function page that hold its MSI-X table or its pending bits (R478). -/
def msixOffset (off : Nat) : Bool :=
  (decide (0x800 ≤ off) && decide (off < 0xC10)) || (decide (0xC80 ≤ off) && decide (off < 0xC90))

/-- A word of the MSI-X table of function `f`, four words a vector of which the last holds the mask bit, or of its pending
bits (R478). -/
def msixWord (s : State) (f off : Nat) : Nat :=
  if 0xC80 ≤ off ∧ off < 0xC90 then
    let base := (off - 0xC80) / 4 * 32
    (List.range 32).foldl (fun n i => n + b2n (decide (base + i < 65) && tabGet s.msixPend false (128 * f + base + i)) * 2 ^ i) 0
  else if 0x800 ≤ off ∧ off < 0xC10 then
    let v := (off - 0x800) / 16
    let w := (off - 0x800) % 16 / 4
    if w = 3 then b2n (!tabGet s.msixMask false (128 * f + v)) else tabGet s.msixTab 0 ((128 * f + v) * 4 + w)
  else 0

/-- A word of the MSI-X table is written; a vector that is unmasked sends the message it holds pending (R478). -/
def msixWrite (s : State) (f off x : Nat) : State :=
  if 0x800 ≤ off ∧ off < 0xC10 then
    let v := 128 * f + (off - 0x800) / 16
    let w := (off - 0x800) % 16 / 4
    if w ≠ 3 then { s with msixTab := tabPut s.msixTab 0 (v * 4 + w) (trunc 32 x) }
    else
      let s := { s with msixMask := tabPut s.msixMask false v (!bit x 0) }
      if !bit x 0 && tabGet s.msixPend false v then
        sendMsix { s with msixPend := tabErase s.msixPend v } f (v % 128)
      else s
  else s

/-- The registers of a block whose value other state gives. -/
def blockWord (s : State) (p : Page) (off : Nat) : Nat :=
  match p with
  | .glb =>
    if off = 0x080 then Config.step % 2 ^ 8 * 2 ^ 20 + Config.variant % 2 ^ 4 * 2 ^ 16 + 0x2048
    else if off = 0x098 then morNonce s else 0
  | .mor => if off = 0x080 then morStateWord s else if off = 0x084 then morCounts s else 0
  | .stitch =>
    if off = 0x090 then s.stitch % 2 ^ 32 else if off = 0x094 then s.stitch / 2 ^ 32 % 2 ^ 32
    else if off = 0x098 then s.epoch % 2 ^ 32 else if off = 0x09C then s.epoch / 2 ^ 32 % 2 ^ 32
    else if off = 0x0B0 then (s.now - s.bndAt) / 4 % 2 ^ 20 else 0
  | .ald =>
    if off = 0x090 then Config.proto % 2 ^ 4 * 2 ^ 28 + b2n s.ald.capable
    else if off = 0x0B4 then Config.devUid % 2 ^ 32 else if off = 0x0B8 then Config.devUid / 2 ^ 32 % 2 ^ 32 else 0
  | .ndlf f => msixWord s f off
  | _ => 0

/-- The bits that a field gives to the register at `off`: a field wider than its register goes on in the next. -/
def fieldBits (f : Field) (v off : Nat) : Nat :=
  if f.off = off then v * 2 ^ f.lo % 2 ^ 32
  else if f.off + 4 = off ∧ 32 < f.lo + f.width then v * 2 ^ f.lo / 2 ^ 32
  else 0

/-- What the register at byte offset `off` of a page reads, without side effects. -/
def readWord (s : State) (p : Page) (off : Nat) : Nat :=
  (pageFields p).foldl (fun n f => n + fieldBits f (readField s p f) off) (headerWord s p off + blockWord s p off)

/-- The function whose doorbell window an address lies in; BAR2 of function f is numbered from
0x1800_0000 + 0x1_0000 * f (R82, R88). -/
def windowAt (a : Nat) : Option Nat :=
  if 0x1800_0000 ≤ a ∧ a < 0x1840_0000 then some ((a - 0x1800_0000) / 0x1_0000) else none

/-- Addresses of BAR0 that no page serves (R85). -/
def unmapped (s : State) (a : Nat) : Bool := decide (a < 0x1000_0000) && (pageAt s a).isNone

/-- An access to an unmapped address sets UNMAPPED (R85). -/
def noteUnmapped (s : State) (a : Nat) : State := stickIf (unmapped s a) s .glb Fld.GLB_STICKY_UNMAPPED

/-- The host reads a register: the value and the side effects. -/
def readReg (s : State) (a : Nat) : Nat × State :=
  match pageAt s a with
  | some p => if a % 0x1000 / 4 * 4 = 0x034 then indRead s p else (readWord s p (a % 0x1000 / 4 * 4), s)
  | none => (0, noteUnmapped s a)

/-! ### Events (R120) -/

/-- A period request is refused (R45). -/
def periodRefuse (s : State) (reason : Nat) : State :=
  let s := wr s .stitch Fld.SMP_PERIOD_STAT_REASON reason
  let s := if s.perReq.isNone then wr s .stitch Fld.SMP_PERIOD_STAT_STATE 3 else s
  stick s .stitch Fld.STITCH_STICKY_PERIOD_REFUSED

/-- The stitch that begins at nanosecond 0 of Sampler second `sec`. -/
def secondStitch (s : State) (sec : Nat) : Nat := s.stitch + (sec * 4_000_000_000 - s.bndAt) / (4 * periodNs s)

/-- The target of the manager's system commit that brings a period: the first boundary at nanosecond 0 of a second that
keeps the lead and the distance that R459 asks for. -/
def periodTarget (s : State) (t : Nat) : Nat :=
  let first := (t + 3_999_999_999) / 4_000_000_000
  let ml := maxLagNow s
  let ok (n : Nat) : Bool := decide (s.stitch + sysLead s ≤ n) && decide (s.stitch + 1 + ml < n)
    && !s.ald.pend.any (fun c => decide (((c.target : Int) - n).natAbs ≤ ml + 1))
  let ns := (List.range 16).map (fun i => secondStitch s (first + i))
  (ns.find? ok).getD (secondStitch s (first + 16))

/-- The manager issues the system commit of a pending period. -/
def periodIssue (s : State) (ns t : Nat) : State :=
  issueCommit s { cid := s.ald.nextCid, target := periodTarget s t, groups := 0, maxLag := maxLagNow s
                  period := some ns } 1

/-- A write of REQ_GO (R45): checked in order; an accepted period waits for its boundary. -/
def periodRequest (s : State) (ns : Nat) : State :=
  if ns < 1000 ∨ 1_000_000 < ns ∨ 1_000_000_000 % ns ≠ 0 then periodRefuse s 1
  else if aldWorker s then periodRefuse s 2
  else if s.perReq.isSome then periodRefuse s 3
  else
    let t := s.now + 4_000_000
    let s := wr (wr s .stitch Fld.SMP_PERIOD_STAT_REASON 0) .stitch Fld.SMP_PERIOD_STAT_STATE 1
    let s := { s with perReq := some (ns, t) }
    if isManager s then periodIssue s ns t else s

/-- What a WO field starts in its block when `v` is written to it. -/
def trigger (s : State) (p : Page) (f : Field) (v : Nat) : State :=
  if f = Fld.PAGE_FENCE_FENCE_REQ then fenceReq s p
  else if f = Fld.PAGE_FENCE_RELEASE then fenceRelease s p
  else if f = Fld.PAGE_CTRL_CNT_CLR then cntClear s p
  else match p with
    | .glb =>
      if f = Fld.GLB_SOFT_RST_GO then softRequest s (rdB s .glb Fld.GLB_SOFT_RST_AT_EN) (rd s .glb Fld.GLB_SOFT_RST_AT)
      else morGo s
    | .pwr => devicePads s
    | .tod =>
      if f = Fld.SMP_TOD_CTRL_LATCH then after (execLatch s.now s) s
      else if f = Fld.SMP_TOD_CTRL_REACQ then after (execReacq s.now s) s
      else after (execSwitchReq s.now s) s
    | .stitch => periodRequest s (rd s .stitch Fld.SMP_PERIOD_REQ_REQ_NS)
    | .ald =>
      if f = Fld.ALD_CTRL_LEAVE_REQ then after (execLeaveReq s) s
      else if f = Fld.ALD_SC_REQ_GO then after (execScRequest s) s
      else after (execScAckWrite s) s
    | .ndlf k => qpEnableWrite s k (f = Fld.NDL_QP_ENABLE_HI_EN) v
    | .flsf k => flsFree s k v
    | .fil k => filStart s k (bk s (.fil k) Fld.FIL_CMD_OP)
    | .hop h =>
      if f = Fld.HOP_PWR_CTRL_WAKE_REQ then wakeHoop s h 1
      else if f = Fld.HOP_PWR_CTRL_H2_REQ then h2Request s h
      else padRelease s h
    | p => hoopEvent s p f

/-- A WO field was written: its event acts at once, or starts to cross (R120). -/
def raiseXing (s : State) (p : Page) (f : Field) (v : Nat) : State :=
  if noCrossing p then trigger s p f v else queueEvent s p f

/-- The oldest item that waits reaches the block, unless the shell holds it (R119, R120, R122). -/
def deliver (s : State) (p : Page) : State :=
  match xingOf s p with
  | [] => s
  | x :: xs =>
    if shellHolds s p then s else reachItem (fun s f => trigger s p f 1) (putXing s p xs) p x

/-- FIRMWARE_READY (R551): the shells deliver what they hold, but for those whose hoop is off (R122). -/
def execFirmwareReady (s : State) : Host.Outcome State Fault Refusal :=
  .next (if s.pwr.supply = .on ∧ rd s .mor Fld.MOR_BOOT_BOOT ≠ 3 then
      let s := wr s .glb Fld.GLB_RESET_CAUSE_READY 1
      s.xing.foldl (fun s e => match pageOf e.1 with
        | some p => e.2.foldl (fun s _ => deliver s p) s
        | none => s) s
    else s)

/-! ### Writing registers (R13, R95, R96, R117) -/

/-- The halves of the split RW values (R117). -/
def splitOf (p : Page) (f : Field) : Option (Field × Field) :=
  let pick (lo hi : Field) : Option (Field × Field) := if f = lo ∨ f = hi then some (lo, hi) else none
  match p with
  | .pwr => pick Fld.PWR_WAKE_AT_LO_AT Fld.PWR_WAKE_AT_HI_AT
  | .ald => pick Fld.ALD_SC_TARGET_LO_TARGET Fld.ALD_SC_TARGET_HI_TARGET
  | .fil _ => pick Fld.FIL_CMD_KEY_LO_KEY Fld.FIL_CMD_KEY_HI_KEY
  | .skn _ => pick Fld.SKN_CMD_DIG_LO_DIG Fld.SKN_CMD_DIG_HI_DIG
  | _ => none

/-- The last written value of an RW field goes to its block: at once, or across (R119). -/
def sendValue (s : State) (p : Page) (f : Field) : State :=
  if noCrossing p then wrBlk s p f (rd s p f)
  else putXing s p (xingOf s p ++ [.value (fieldKey p f) (rd s p f)])

/-- Both halves of a split RW value go to the block as one (R117, R118). -/
def sendSplit (s : State) (p : Page) (lo hi : Field) : State :=
  if noCrossing p then wrBlk (wrBlk s p lo (rd s p lo)) p hi (rd s p hi)
  else putXing s p (xingOf s p ++ [.split (fieldKey p lo) (rd s p lo) (fieldKey p hi) (rd s p hi)])

/-- An RW field is written: the shell holds the low half of a split value until the high half comes (R117). -/
def storeValue (s : State) (p : Page) (f : Field) (v : Nat) : State :=
  let s := wr s p f v
  match splitOf p f with
  | some (lo, hi) => if f = hi then sendSplit s p lo hi else s
  | none => if f.off < 0x080 then irqPage s p else sendValue s p f

/-- The host-access header fields (R96). -/
def hostHeader (f : Field) : Bool :=
  f.off == 0x018 || f.off == 0x01C || f.off == 0x020 || f.off == 0x030 || f.off == 0x038 || f.off == 0x04C
    || f == Fld.PAGE_COMMIT_VIEW_ACTIVE

/-- A field that the management plane owns (R96). -/
def mgmtOwned (p : Page) (f : Field) : Bool := f.owned || ((pageCaps p).mgmt && !hostHeader f)

/-- The present value of a field, as R96 compares it. -/
def presentValue (s : State) (p : Page) (f : Field) : Nat :=
  match f.access with
  | .rws => shw s p f
  | .rwv => shw s p f
  | .wo => 0
  | _ => rd s p f

/-- Host software writes a field of the management plane: its bits are discarded, and a difference is reported. -/
def ownerRefuse (s : State) (p : Page) (f : Field) (v : Nat) : State :=
  if presentValue s p f = v then s
  else stickIf (f == Fld.SMP_STITCH_PERIOD_PERIOD_NS) (stick s p Fld.PAGE_HDR_STICKY_OWNER_REFUSED) .stitch
    Fld.STITCH_STICKY_PERIOD_REFUSED

/-- The read-only bits of a page of the management plane that no field of the page's list holds (R96). -/
def mgmtFixed (p : Page) (off : Nat) : Nat :=
  match off with
  | 0x000 => 0xFFFF_FFFF
  | 0x004 => 0xFFFF
  | 0x008 => 0xFF1F
  | 0x014 => 0xF800_0000
  | 0x024 => 0xFFFF_FFFF
  | 0x080 => if p = .mor then 0x107 else 0
  | 0x084 => if p = .mor then 0xFFFF_CFFF else 0
  | _ => 0

/-- Host software writes a register of the management plane: a difference from its read-only bits is reported too. -/
def ownerFixed (s : State) (p : Page) (off v : Nat) : State :=
  let m := mgmtFixed p off
  stickIf ((pageCaps p).mgmt && (v &&& m) != (readWord s p off &&& m)) s p Fld.PAGE_HDR_STICKY_OWNER_REFUSED

/-- Bits of a W1C field are cleared; clearing FATAL clears VALID (R521). -/
def clearBits (s : State) (p : Page) (f : Field) (v : Nat) : State :=
  let s := wr s p f (rd s p f &&& (2 ^ f.width - 1 - v))
  let s := if f = Fld.ERR_STICKY_FATAL ∧ p = .err ∧ v = 1 then wr s .err Fld.ERR_FATAL_VALID 0 else s
  irqPage s p

/-- A field takes its bits `v` of a written word; WO fields act afterwards. -/
def writeField (s : State) (p : Page) (f : Field) (v : Nat) (pl : Plane) : State :=
  if pl = .host ∧ mgmtOwned p f then ownerRefuse s p f v
  else match f.access with
    | .ro => if f = Fld.SMP_CH_STAT_OSC_MHZ ∧ (pageCaps p).hasFence then wr s p f v else s
    | .wo => s
    | .w1c => if pl = .mgmt ∧ hostHeader f ∧ !(pageCaps p).mgmt then s else clearBits s p f v
    | .rw => storeValue s p f v
    | .rws => wrShd s p f v
    | .rwv => wrShd { s with vote := tabErase s.vote (voteKey p f false) } p f v

/-- A WO field that acts for the word written: FLS_FREE takes any word, the others act on a 1. -/
def woActs (f : Field) (v : Nat) : Bool := f.access == .wo && (v != 0 || f == Fld.FLS_FREE_WORD)

/-- A change of COMMIT_GROUP (R99). -/
def setPageGroup (s : State) (p : Page) (g : Nat) : State :=
  let old := pageGroup s p
  if g = old then s
  else if shadowDirty s p || groupPending s old then stick s p Fld.PAGE_HDR_STICKY_COMMIT_REFUSED
  else
    let x := groupSt s g
    let j : PageGrp := { seq := x.seq, applySeq := x.applySeq, lastAt := pageLastAt s p }
    wr { s with pageGrp := tabPut s.pageGrp {} (pageBase p) j } p Fld.PAGE_COMMIT_COMMIT_GROUP g

/-- A write to PAGE_COMMIT (R101). -/
def writeCommit (s : State) (p : Page) (v : Nat) : State :=
  let atEn := bit v 20
  let at16 := bits v 15 0
  if !(pageCaps p).hasShadow then s
  else if bit v 30 then commitCancel s p atEn at16
  else if bit v 31 then commitGo s p atEn at16
  else setPageGroup (wr (takeAt s p atEn at16) p Fld.PAGE_COMMIT_VIEW_ACTIVE (bits v 24 24)) p (bits v 19 16)

/-- A word is written to the register at byte offset `off` of a page. The pages of ports 1048 to 1055 ignore it; the
indirect pair serves host software alone (R110). -/
def writeWord (s : State) (p : Page) (off v : Nat) (pl : Plane) : State :=
  let host := pl == .host
  let dead := match p with | .tmg n => decide (1048 ≤ n) | _ => false
  if dead then s
  else if off = 0x028 then writeCommit s p v
  else if off = 0x030 then (if host then indAddrWrite s p (v % 2 ^ 32) else s)
  else if off = 0x034 then (if host then indWrite s p (v % 2 ^ 32) else s)
  else if off = 0x038 then (if host then indCtrl s p (bits v 15 12) (bits v 6 4) (bit v 0) else s)
  else
    let fs := regFields p off
    let part (f : Field) : Nat := bits v (f.lo + f.width - 1) f.lo
    let s := if host then ownerFixed s p off v else s
    let s := fs.foldl (fun s f => writeField s p f (part f) pl) s
    let s := (fs.filter (fun f => woActs f (part f))).foldl (fun s f => raiseXing s p f (part f)) s
    match p with
    | .ndlf k => msixWrite (if off = 0x010 ∧ bit v 1 then rearm s k else s) k off v
    | _ => s

/-- A write to a doorbell window (R88). -/
def writeDoorbell (s : State) (f off v : Nat) : State :=
  let q := off / 0x400
  if off % 0x400 / 4 = 0 then txDoorbell s f q v else if off % 0x400 / 4 = 1 then rxDoorbell s f q v else s

/-- A word is written to an address. -/
def writeReg (s : State) (a v : Nat) (pl : Plane) : State :=
  match pageAt s a with
  | some p => writeWord s p (a % 0x1000 / 4 * 4) v pl
  | none =>
    match windowAt a with
    | some f => writeDoorbell s f (a % 0x1_0000) v
    | none => noteUnmapped s a

/-! ### The commands -/

/-- REGISTER_WRITE (R13, R96). A write that meets a parity error in the page shell a second time is discarded and sets
PARITY (Table 16.5). -/
def execRegisterWrite (a v : Nat) (pl : Plane) (parity : Bool) (s : State) : Host.Outcome State Fault Refusal :=
  .next (if parity then onPage s a (fun p => stick s p Fld.PAGE_HDR_STICKY_PARITY) else writeReg s a v pl)

/-- SPLIT_HI_WRITE (R117): the address is that of the high half of a split RW value. -/
def execSplitHiWrite (a v : Nat) (pl : Plane) (s : State) : Host.Outcome State Fault Refusal :=
  .next (onPage s a (fun p =>
    let off := a % 0x1000 / 4 * 4
    if (regFields p off).any (fun f => (splitOf p f).any (fun x => x.2 == f)) then writeWord s p off v pl else s))

/-- BAD_ACCESS in the page addressed, or in the Needle page of the function that owns a doorbell window (R83). -/
def badAccess (s : State) (a : Nat) : State :=
  match pageAt s a with
  | some p => stick s p Fld.PAGE_HDR_STICKY_BAD_ACCESS
  | none =>
    match windowAt a with
    | some f => stick s (.ndlf f) Fld.PAGE_HDR_STICKY_BAD_ACCESS
    | none => noteUnmapped s a

/-- The function whose MSI-X table or pending bits an aligned access of two DW reaches (R83). -/
def msixAt (s : State) (a : Nat) : Option Nat :=
  match pageAt s a with
  | some (.ndlf f) => if a % 8 = 0 ∧ msixOffset (a % 0x1000) then some f else none
  | _ => none

/-- MALFORMED_ACCESS (R83): an access of another length or byte-enable pattern than one whole DW. Two aligned DW of an
MSI-X table or its pending bits are accepted. -/
def execMalformedAccess (a : Nat) (k : BadAccess) (s : State) : Host.Outcome State Fault Refusal :=
  let o := a % 0x1000
  .next (match k with
    | .longRead => badAccess s a
    | .zeroRead => { s with ioData := 0 }
    | .partRead => badAccess (answer (readReg s a)) a
    | .write => badAccess s a
    | .twoRead =>
      match msixAt s a with
      | some f => { s with ioData := msixWord s f o + 2 ^ 32 * msixWord s f (o + 4) }
      | none => badAccess s a
    | .twoWrite lo hi =>
      match msixAt s a with
      | some f => msixWrite (msixWrite s f o lo) f (o + 4) hi
      | none => badAccess s a)

/-- UNMAPPED_ACCESS (R85). -/
def execUnmappedAccess (a : Nat) (write : Bool) (s : State) : Host.Outcome State Fault Refusal :=
  .next (if unmapped s a then noteUnmapped (if write then s else { s with ioData := 0 }) a else s)

/-- COMMIT_GO (R101). -/
def execCommitGo (a : Nat) (atEn : Bool) (at16 : Nat) (s : State) : Host.Outcome State Fault Refusal :=
  .next (onPage s a (fun p => if (pageCaps p).hasShadow then commitGo s p atEn at16 else s))

/-- COMMIT_CANCEL (R101). -/
def execCommitCancel (a : Nat) (atEn : Bool) (at16 : Nat) (s : State) : Host.Outcome State Fault Refusal :=
  .next (onPage s a (fun p => if (pageCaps p).hasShadow then commitCancel s p atEn at16 else s))

/-- CROSSING_DELIVER (R119, R120); on the capture page the oldest captured value crosses too (R421). -/
def execCrossingDeliver (a : Nat) (s : State) : Host.Outcome State Fault Refusal :=
  .next (onPage s a (fun p => deliver (if p = .cap then capCross s else s) p))

/-- PERIOD_REQ (R45). -/
def execPeriodReq (ns : Nat) (s : State) : Host.Outcome State Fault Refusal :=
  .next (periodRequest (wr s .stitch Fld.SMP_PERIOD_REQ_REQ_NS ns) ns)

/-! ### The scrubber (R107 to R109) -/

/-- Upsets add to those that a copy already has. -/
def addUpset (x y : VoteCopy) : VoteCopy := { flip := x.flip ^^^ y.flip, bad := x.bad || y.bad }

/-- A field that cannot be resolved (R108). -/
def voteLost (s : State) (p : Page) : State :=
  let s := stick (wr s p Fld.PAGE_VOTE_STAT_COPY 3) p Fld.PAGE_HDR_STICKY_VOTE_LOST
  match p with
  | .ch i => chFence s i 4
  | _ => fatalReport s p

/-- The scrubber visits the copies of a voted field; `u` are the upsets since its last visit. -/
def scrub (s : State) (p : Page) (f : Field) (active : Bool) (u : Vote) : State :=
  let k := voteKey p f active
  let old := tabGet s.vote {} k
  let x : Vote := { a := addUpset old.a u.a, b := addUpset old.b u.b, c := addUpset old.c u.c }
  let v := if active then cfg s p f else shw s p f
  if x = {} ∨ (resolve v old).isNone then s
  else match resolve v x with
    | none => voteLost { s with vote := tabPut s.vote {} k x } p
    | some (m, copy) =>
      let s := { s with vote := tabErase s.vote k }
      let s := if active then wrAct s p f m else wrShd s p f m
      let s := countSat (wr s p Fld.PAGE_VOTE_STAT_COPY copy) p Fld.PAGE_VOTE_STAT_COUNT
      stick (wr s p Fld.PAGE_VOTE_STAT_OFFSET (f.off / 4)) p Fld.PAGE_HDR_STICKY_VOTE_MISMATCH

/-- SCRUB_VISIT (R107, R108): the register at address `a`, the field at bit `lo`. -/
def execScrubVisit (a lo : Nat) (active : Bool) (u : Vote) (s : State) : Host.Outcome State Fault Refusal :=
  .next (onPage s a (fun p =>
    match (regFields p (a % 0x1000 / 4 * 4)).find? (fun f => f.lo == lo && f.access == .rwv) with
    | some f => scrub s p f active u
    | none => s))

end Sys2Proof.Machine
end

