-- ==== Sys2Proof/Machine/Boundary.lean ====
section
/-! DEFINITION. The close of the commit window and the work at a stitch boundary (R43 to R63, Table 2.1). -/

namespace Sys2Proof.Machine

/-- Whether the device carries out closes and boundaries: it is powered, and not in D3 (R59). -/
def stitchesRun (s : State) : Bool := decide (s.pwr.supply = .on) && decide (s.pwr.d3 ≠ .asleep)

/-- The close of the stitch in progress (R50): commits and a soft reset that fall due are latched, and every H1 or H2
attempt ends with code 14 (R543). -/
def closeStitch (s : State) : State :=
  if s.closed then s
  else
    let s := softClose (commitClose (advance s (s.nextBnd - 1024)))
    { (List.range 32).foldl (fun s h => abortEntry s h 14) s with closed := true }

/-- COMMIT_CLOSE (R50). -/
def execCommitClose (s : State) : Host.Outcome State Fault Refusal := .next (if stitchesRun s then closeStitch s else s)

/-- A pending period of a device without members comes into force at the first boundary on a whole second that is
late enough (R45); the manager's travels as a system commit. -/
def applyPeriod (s : State) : State :=
  match s.perReq with
  | some (ns, t) =>
    if isManager s || aldWorker s then s
    else if s.bndAt % 4_000_000_000 = 0 ∧ t ≤ s.bndAt then
      let s := wrAct (wrShd s .stitch Fld.SMP_STITCH_PERIOD_PERIOD_NS ns) .stitch Fld.SMP_STITCH_PERIOD_PERIOD_NS ns
      wr { s with perReq := none } .stitch Fld.SMP_PERIOD_STAT_STATE 2
    else s
  | none => s

/-- A manager whose period commit has ended shows the period applied, or issues the commit again (R45, R462). -/
def periodFollow (s : State) : State :=
  match s.perReq with
  | some (ns, t) =>
    if !isManager s || s.ald.pend.any (fun c => c.period.isSome) then s
    else if periodNs s = ns then wr { s with perReq := none } .stitch Fld.SMP_PERIOD_STAT_STATE 2
    else periodIssue s ns t
  | none => s

/-- The count and the grid move to the boundary that ends the stitch in progress (R47). -/
def stitchAdvance (s : State) : State :=
  let s := advance s s.nextBnd
  { s with perPast := if s.perOld = periodNs s then s.perPast else s.perPast ++ [(s.bndAt, s.perOld)]
           perOld := periodNs s, stitch := (s.stitch + 1) % 2 ^ 64, bndAt := s.nextBnd, closed := false }

/-- The first grid time after the last boundary (R43). -/
def nextGrid (s : State) : Nat := (s.bndAt / (4 * periodNs s) + 1) * (4 * periodNs s)

/-- A hoop that carries out boundary steps: not asleep (R59). -/
def hoopSteps (s : State) : List Nat := (List.range 32).filter (fun h => !hoopAsleep s h)

/-- Step 1: retired blocks and segments become free (R218, R330), commits apply (R52), levels change (R533), a period
comes into force, and Aladotra changes fall due. -/
def boundaryStep1 (s : State) : State :=
  let gs := latchedGroups s
  let s := retagAll ((hoopSteps s).foldl segFree ((List.range 8).foldl clsFree s))
  let old := s
  let s := retagAll (levelsApplied old (commitApply s s.stitch))
  let s := periodFollow (aldStep1 (applyPeriod s) (fun g => gs.contains g))
  { s with nextBnd := nextGrid s }

/-- Step 2: every SNAP_DIV stitches the counters are snapshotted (R58). -/
def boundaryStep2 (s : State) : State :=
  if s.stitch % max 1 (cfg s .stitch Fld.SMP_SNAP_CTRL_SNAP_DIV) = 0 then
    wr { s with snp := s.cnt } .stitch Fld.SMP_SNAP_STITCH_STITCH s.stitch
  else s

/-- Step 4: the stitch handlers of every hoop that runs (R322). -/
def boundaryStep4 (s : State) : State :=
  ((hoopSteps s).filter (fun h => !hoopFenced s h)).foldl bobStep4 s

/-- Step 5: the ageing sweeps (R243, R283). -/
def boundaryStep5 (s : State) : State :=
  let s := (List.range 8).foldl (fun s p => filSweep s p s.stitch) s
  ((hoopSteps s).filter (fun h => !hoopFenced s h)).foldl (fun s h => sknSweep s h s.stitch) s

/-- Steps 2 to 5, which a running soft reset leaves out (R552). -/
def boundarySteps2to5 (s : State) : State :=
  if softState s = 2 then s else boundaryStep5 (boundaryStep4 (cqfStep (boundaryStep2 s)))

/-- A soft reset latched for this boundary begins after step 1 (R552). -/
def softBoundary (s : State) : State := if s.pwr.softNow then softStart s else s

/-- The boundary that ends the stitch in progress, with its close where that has not happened yet (Table 2.1). -/
def runBoundary (s : State) : State :=
  let s := softBoundary (boundaryStep1 (stitchAdvance (closeStitch s)))
  startWanted (aldStep6 (auditStart (boundarySteps2to5 s)))

/-- STITCH_BOUNDARY (R56), with the memory errors that its work meets, each with its hoop (R258, R294). -/
def execStitchBoundary (errs : List (Nat × MemErr)) (s : State) : Host.Outcome State Fault Refusal :=
  .next (if stitchesRun s then runBoundary (errs.foldl (fun s e => lookupErr e.1 s e.2) s) else s)

end Sys2Proof.Machine
end

