-- ==== Sys2Proof/Machine/Dispatch.lean ====
section
/-! DEFINITION. One arm for each command: a direct call of its meaning. -/

namespace Sys2Proof.Machine

def exec (i : Instr) (s : State) : Host.Outcome State Fault Refusal :=
  match i with
  | .coldReset b => Sys2Proof.Machine.execColdReset b s
  | .warmReset b => Sys2Proof.Machine.execWarmReset b s
  | .powerLoss bs => Sys2Proof.Machine.execPowerLoss bs s
  | .firmwareReady => Sys2Proof.Machine.execFirmwareReady s
  | .perstAssert => Sys2Proof.Machine.execPerstAssert s
  | .perstDeassert ledger => Sys2Proof.Machine.execPerstDeassert ledger s
  | .thermalTrip => Sys2Proof.Machine.execThermalTrip s
  | .stitchBoundary errs => Sys2Proof.Machine.execStitchBoundary errs s
  | .commitClose => Sys2Proof.Machine.execCommitClose s
  | .softResetDone => Sys2Proof.Machine.execSoftResetDone s
  | .registerWrite a v pl parity => Sys2Proof.Machine.execRegisterWrite a v pl parity s
  | .splitHiWrite a v pl => Sys2Proof.Machine.execSplitHiWrite a v pl s
  | .malformedAccess a k => Sys2Proof.Machine.execMalformedAccess a k s
  | .unmappedAccess a write => Sys2Proof.Machine.execUnmappedAccess a write s
  | .commitGo a atEn at16 => Sys2Proof.Machine.execCommitGo a atEn at16 s
  | .commitCancel a atEn at16 => Sys2Proof.Machine.execCommitCancel a atEn at16 s
  | .indCtrlWrite a space step dir => Sys2Proof.Machine.execIndCtrlWrite a space step dir s
  | .indAddrWrite a w => Sys2Proof.Machine.execIndAddrWrite a w s
  | .indDataRead a => Sys2Proof.Machine.execIndDataRead a s
  | .indDataWrite a w => Sys2Proof.Machine.execIndDataWrite a w s
  | .indFetchDone a errs => Sys2Proof.Machine.execIndFetchDone a errs s
  | .indWriteDone a => Sys2Proof.Machine.execIndWriteDone a s
  | .crossingDeliver a => Sys2Proof.Machine.execCrossingDeliver a s
  | .scrubVisit a lo active u => Sys2Proof.Machine.execScrubVisit a lo active u s
  | .cntClr a => Sys2Proof.Machine.execCntClr a s
  | .fenceReq a => Sys2Proof.Machine.execFenceReq a s
  | .fenceRelease a => Sys2Proof.Machine.execFenceRelease a s
  | .hoopResetDone h => Sys2Proof.Machine.execHoopResetDone h s
  | .periodReq ns => Sys2Proof.Machine.execPeriodReq ns s
  | .signalRise l => Sys2Proof.Machine.execSignalRise l s
  | .signalFall l => Sys2Proof.Machine.execSignalFall l s
  | .cdrLockAcquired l => Sys2Proof.Machine.execCdrLockAcquired l s
  | .cdrLockLost l => Sys2Proof.Machine.execCdrLockLost l s
  | .adaptComplete l limit => Sys2Proof.Machine.execAdaptComplete l limit s
  | .trainDone l => Sys2Proof.Machine.execTrainDone l s
  | .trainFail l => Sys2Proof.Machine.execTrainFail l s
  | .trainRestart l => Sys2Proof.Machine.execTrainRestart l s
  | .trainStepRequest l tap up => Sys2Proof.Machine.execTrainStepRequest l tap up s
  | .txTapStep l => Sys2Proof.Machine.execTxTapStep l s
  | .stuffInsert l bs repaid => Sys2Proof.Machine.execStuffInsert l bs repaid s
  | .stuffDiscard l xs => Sys2Proof.Machine.execStuffDiscard l xs s
  | .quietEntry l ns => Sys2Proof.Machine.execQuietEntry l ns s
  | .quietExit l => Sys2Proof.Machine.execQuietExit l s
  | .quietExitBoundary l => Sys2Proof.Machine.execQuietExitBoundary l s
  | .quietMaxExit l => Sys2Proof.Machine.execQuietMaxExit l s
  | .burstEnd l relocked => Sys2Proof.Machine.execBurstEnd l relocked s
  | .chkSyncAcquired l xs => Sys2Proof.Machine.execChkSyncAcquired l xs s
  | .chkSyncLost l xs => Sys2Proof.Machine.execChkSyncLost l xs s
  | .chkClr l => Sys2Proof.Machine.execChkClr l s
  | .evtClr l => Sys2Proof.Machine.execEvtClr l s
  | .injOne l => Sys2Proof.Machine.execInjOne l s
  | .injectPeriodic l => Sys2Proof.Machine.execInjectPeriodic l s
  | .linkUp n t => Sys2Proof.Machine.execLinkUp n t s
  | .linkDown n t hiBer => Sys2Proof.Machine.execLinkDown n t hiBer s
  | .fecUnlock n t => Sys2Proof.Machine.execFecUnlock n t s
  | .remoteFaultRx n => Sys2Proof.Machine.execRemoteFaultRx n s
  | .rxFrame n t b tail overrun fec => Sys2Proof.Machine.execRxFrame n t b tail overrun fec s
  | .pauseRx n t q => Sys2Proof.Machine.execPauseRx n t q s
  | .pfcRx n t vec times => Sys2Proof.Machine.execPfcRx n t vec times s
  | .pauseTimerExpiry n c t => Sys2Proof.Machine.execPauseTimerExpiry n c t s
  | .pauseWdFire n c t => Sys2Proof.Machine.execPauseWdFire n c t s
  | .pauseWdIgnoreEnd n c t => Sys2Proof.Machine.execPauseWdIgnoreEnd n c t s
  | .pauseHoldRequest n c t => Sys2Proof.Machine.execPauseHoldRequest n c t s
  | .pauseReleaseRequest n c t => Sys2Proof.Machine.execPauseReleaseRequest n c t s
  | .pauseRepeat n t => Sys2Proof.Machine.execPauseRepeat n t s
  | .wakePatternMatch n b ledger => Sys2Proof.Machine.execWakePatternMatch n b ledger s
  | .ingressLookup f t len errs => Sys2Proof.Machine.execIngressLookup f t len errs s
  | .enqueue f t => Sys2Proof.Machine.execEnqueue f t s
  | .mcReplicate src errs => Sys2Proof.Machine.execMcReplicate src errs s
  | .txOpportunity p t errs => Sys2Proof.Machine.execTxOpportunity p t errs s
  | .txFrameComplete n t errs => Sys2Proof.Machine.execTxFrameComplete n t errs s
  | .holdEvaluate => Sys2Proof.Machine.execHoldEvaluate s
  | .internalSourceResume src c => Sys2Proof.Machine.execInternalSourceResume src c s
  | .mirrorCopy k t => Sys2Proof.Machine.execMirrorCopy k t s
  | .recircFeed p t => Sys2Proof.Machine.execRecircFeed p t s
  | .auditPassEnd => Sys2Proof.Machine.execAuditPassEnd s
  | .gateEdge p t => Sys2Proof.Machine.execGateEdge p t s
  | .gateListStart p t => Sys2Proof.Machine.execGateListStart p t s
  | .glSyncDone p => Sys2Proof.Machine.execGlSyncDone p s
  | .policerRefresh t => Sys2Proof.Machine.execPolicerRefresh t s
  | .prkSyncDone h => Sys2Proof.Machine.execPrkSyncDone h s
  | .clsRetire p k => Sys2Proof.Machine.execClsRetire p k s
  | .clsUnstage p k => Sys2Proof.Machine.execClsUnstage p k s
  | .clsKeep p k => Sys2Proof.Machine.execClsKeep p k s
  | .learnEventArrival k t => Sys2Proof.Machine.execLearnEventArrival k t s
  | .learnRelease t => Sys2Proof.Machine.execLearnRelease t s
  | .learnApply p errs => Sys2Proof.Machine.execLearnApply p errs s
  | .filSearch p errs => Sys2Proof.Machine.execFilSearch p errs s
  | .filNext p errs => Sys2Proof.Machine.execFilNext p errs s
  | .filInsert p errs => Sys2Proof.Machine.execFilInsert p errs s
  | .filDelete p errs => Sys2Proof.Machine.execFilDelete p errs s
  | .flushByPort p errs => Sys2Proof.Machine.execFlushByPort p errs s
  | .filDiscardStaged p errs => Sys2Proof.Machine.execFilDiscardStaged p errs s
  | .filCleanupDone p => Sys2Proof.Machine.execFilCleanupDone p s
  | .filCmdResume p errs => Sys2Proof.Machine.execFilCmdResume p errs s
  | .sknSearch h err => Sys2Proof.Machine.execSknSearch h err s
  | .sknRead h err => Sys2Proof.Machine.execSknRead h err s
  | .sknUpdate h => Sys2Proof.Machine.execSknUpdate h s
  | .sknEvict h => Sys2Proof.Machine.execSknEvict h s
  | .sknPin h => Sys2Proof.Machine.execSknPin h s
  | .sknUnpin h => Sys2Proof.Machine.execSknUnpin h s
  | .sknDiscardStaged h => Sys2Proof.Machine.execSknDiscardStaged h s
  | .sknOverlayMerge h => Sys2Proof.Machine.execSknOverlayMerge h s
  | .workDispatch b t => Sys2Proof.Machine.execWorkDispatch b t s
  | .frameQueueAdmit b => Sys2Proof.Machine.execFrameQueueAdmit b s
  | .bobAdd b t at4 e => Sys2Proof.Machine.execBobAdd b t at4 e s
  | .bobSub b t at4 e => Sys2Proof.Machine.execBobSub b t at4 e s
  | .bobAnd b t at4 e => Sys2Proof.Machine.execBobAnd b t at4 e s
  | .bobOr b t at4 e => Sys2Proof.Machine.execBobOr b t at4 e s
  | .bobXor b t at4 e => Sys2Proof.Machine.execBobXor b t at4 e s
  | .bobShl b t at4 e => Sys2Proof.Machine.execBobShl b t at4 e s
  | .bobShr b t at4 e => Sys2Proof.Machine.execBobShr b t at4 e s
  | .bobSar b t at4 e => Sys2Proof.Machine.execBobSar b t at4 e s
  | .bobMul b t at4 e => Sys2Proof.Machine.execBobMul b t at4 e s
  | .bobMulhu b t at4 e => Sys2Proof.Machine.execBobMulhu b t at4 e s
  | .bobMin b t at4 e => Sys2Proof.Machine.execBobMin b t at4 e s
  | .bobMax b t at4 e => Sys2Proof.Machine.execBobMax b t at4 e s
  | .bobMinu b t at4 e => Sys2Proof.Machine.execBobMinu b t at4 e s
  | .bobMaxu b t at4 e => Sys2Proof.Machine.execBobMaxu b t at4 e s
  | .bobSlt b t at4 e => Sys2Proof.Machine.execBobSlt b t at4 e s
  | .bobSltu b t at4 e => Sys2Proof.Machine.execBobSltu b t at4 e s
  | .bobPopcnt b t at4 e => Sys2Proof.Machine.execBobPopcnt b t at4 e s
  | .bobBswap b t at4 e => Sys2Proof.Machine.execBobBswap b t at4 e s
  | .bobAddi b t at4 e => Sys2Proof.Machine.execBobAddi b t at4 e s
  | .bobAndi b t at4 e => Sys2Proof.Machine.execBobAndi b t at4 e s
  | .bobOri b t at4 e => Sys2Proof.Machine.execBobOri b t at4 e s
  | .bobXori b t at4 e => Sys2Proof.Machine.execBobXori b t at4 e s
  | .bobShiftiShl b t at4 e => Sys2Proof.Machine.execBobShiftiShl b t at4 e s
  | .bobShiftiShr b t at4 e => Sys2Proof.Machine.execBobShiftiShr b t at4 e s
  | .bobShiftiSar b t at4 e => Sys2Proof.Machine.execBobShiftiSar b t at4 e s
  | .bobLui b t at4 e => Sys2Proof.Machine.execBobLui b t at4 e s
  | .bobInsi b t at4 e => Sys2Proof.Machine.execBobInsi b t at4 e s
  | .bobBeq b t at4 e => Sys2Proof.Machine.execBobBeq b t at4 e s
  | .bobBne b t at4 e => Sys2Proof.Machine.execBobBne b t at4 e s
  | .bobBlt b t at4 e => Sys2Proof.Machine.execBobBlt b t at4 e s
  | .bobBge b t at4 e => Sys2Proof.Machine.execBobBge b t at4 e s
  | .bobBltu b t at4 e => Sys2Proof.Machine.execBobBltu b t at4 e s
  | .bobBgeu b t at4 e => Sys2Proof.Machine.execBobBgeu b t at4 e s
  | .bobJal b t at4 e => Sys2Proof.Machine.execBobJal b t at4 e s
  | .bobJr b t at4 e => Sys2Proof.Machine.execBobJr b t at4 e s
  | .bobLd b t at4 e => Sys2Proof.Machine.execBobLd b t at4 e s
  | .bobLw b t at4 e => Sys2Proof.Machine.execBobLw b t at4 e s
  | .bobSd b t at4 e => Sys2Proof.Machine.execBobSd b t at4 e s
  | .bobSw b t at4 e => Sys2Proof.Machine.execBobSw b t at4 e s
  | .bobLdi b t at4 e => Sys2Proof.Machine.execBobLdi b t at4 e s
  | .bobHld b t at4 e => Sys2Proof.Machine.execBobHld b t at4 e s
  | .bobHst b t at4 e => Sys2Proof.Machine.execBobHst b t at4 e s
  | .bobInstall b t at4 e => Sys2Proof.Machine.execBobInstall b t at4 e s
  | .bobCtxrd b t at4 e => Sys2Proof.Machine.execBobCtxrd b t at4 e s
  | .bobCtxwr b t at4 e => Sys2Proof.Machine.execBobCtxwr b t at4 e s
  | .bobCtxevict b t at4 e => Sys2Proof.Machine.execBobCtxevict b t at4 e s
  | .bobFsearch b t at4 e => Sys2Proof.Machine.execBobFsearch b t at4 e s
  | .bobFlearn b t at4 e => Sys2Proof.Machine.execBobFlearn b t at4 e s
  | .bobPcharge b t at4 e => Sys2Proof.Machine.execBobPcharge b t at4 e s
  | .bobPread b t at4 e => Sys2Proof.Machine.execBobPread b t at4 e s
  | .tableOpComplete b t => Sys2Proof.Machine.execTableOpComplete b t s
  | .bobDrd b t at4 e => Sys2Proof.Machine.execBobDrd b t at4 e s
  | .bobDwr b t at4 e => Sys2Proof.Machine.execBobDwr b t at4 e s
  | .dramIssueAccepted b t at4 e => Sys2Proof.Machine.execDramIssueAccepted b t at4 e s
  | .drdComplete b k err e => Sys2Proof.Machine.execDrdComplete b k err e s
  | .dwrComplete b k => Sys2Proof.Machine.execDwrComplete b k s
  | .bobDawait b t at4 e => Sys2Proof.Machine.execBobDawait b t at4 e s
  | .bobDatest b t at4 e => Sys2Proof.Machine.execBobDatest b t at4 e s
  | .bobTimeNs b t at4 e => Sys2Proof.Machine.execBobTimeNs b t at4 e s
  | .bobTimeStitch b t at4 e => Sys2Proof.Machine.execBobTimeStitch b t at4 e s
  | .bobTimePhase b t at4 e => Sys2Proof.Machine.execBobTimePhase b t at4 e s
  | .bobTimeEpoch b t at4 e => Sys2Proof.Machine.execBobTimeEpoch b t at4 e s
  | .bobTimeStatus b t at4 e => Sys2Proof.Machine.execBobTimeStatus b t at4 e s
  | .bobFwd b t at4 e => Sys2Proof.Machine.execBobFwd b t at4 e s
  | .bobDrop b t at4 e => Sys2Proof.Machine.execBobDrop b t at4 e s
  | .bobNew b t at4 e => Sys2Proof.Machine.execBobNew b t at4 e s
  | .bobEnd b t at4 e => Sys2Proof.Machine.execBobEnd b t at4 e s
  | .bobYield b t at4 e => Sys2Proof.Machine.execBobYield b t at4 e s
  | .bobRdperf b t at4 e => Sys2Proof.Machine.execBobRdperf b t at4 e s
  | .bobRdid b t at4 e => Sys2Proof.Machine.execBobRdid b t at4 e s
  | .illegalInstruction b t at4 e => Sys2Proof.Machine.execIllegalInstruction b t at4 e s
  | .thread0Overrun b => Sys2Proof.Machine.execThread0Overrun b s
  | .bobReleaseEffect b => Sys2Proof.Machine.execBobReleaseEffect b s
  | .segRetire h k => Sys2Proof.Machine.execSegRetire h k s
  | .segUnstage h k => Sys2Proof.Machine.execSegUnstage h k s
  | .segKeep h k => Sys2Proof.Machine.execSegKeep h k s
  | .perfClr b => Sys2Proof.Machine.execPerfClr b s
  | .perfCounterWrap b n => Sys2Proof.Machine.execPerfCounterWrap b n s
  | .voteCompare edges devs hold ok aon ppb => Sys2Proof.Machine.execVoteCompare edges devs hold ok aon ppb s
  | .clockLost k => Sys2Proof.Machine.execClockLost k s
  | .channelRejoin k => Sys2Proof.Machine.execChannelRejoin k s
  | .servoAcquire t => Sys2Proof.Machine.execServoAcquire t s
  | .sourceLost src t => Sys2Proof.Machine.execSourceLost src t s
  | .sourceRegained src t => Sys2Proof.Machine.execSourceRegained src t s
  | .holdoverTraceExpiry t => Sys2Proof.Machine.execHoldoverTraceExpiry t s
  | .switchReq t => Sys2Proof.Machine.execSwitchReq t s
  | .autoRevert t => Sys2Proof.Machine.execAutoRevert t s
  | .switchSettled off => Sys2Proof.Machine.execSwitchSettled off s
  | .reacq t => Sys2Proof.Machine.execReacq t s
  | .latch t => Sys2Proof.Machine.execLatch t s
  | .replicaRefresh t missed => Sys2Proof.Machine.execReplicaRefresh t missed s
  | .ptpMessageRx j c t news => Sys2Proof.Machine.execPtpMessageRx j c t news s
  | .leapApply t => Sys2Proof.Machine.execLeapApply t s
  | .captureEdge k t rising => Sys2Proof.Machine.execCaptureEdge k t rising s
  | .pulseEdge k t => Sys2Proof.Machine.execPulseEdge k t s
  | .irigBSecond k t => Sys2Proof.Machine.execIrigBSecond k t s
  | .highClr h => Sys2Proof.Machine.execHighClr h s
  | .managerElection t => Sys2Proof.Machine.execManagerElection t s
  | .aldLinkFrameRx n t pre line overrun fec => Sys2Proof.Machine.execAldLinkFrameRx n t pre line overrun fec s
  | .helloRx n sys proto uid peer pair => Sys2Proof.Machine.execHelloRx n sys proto uid peer pair s
  | .probeSend n t => Sys2Proof.Machine.execProbeSend n t s
  | .probeRx n t => Sys2Proof.Machine.execProbeRx n t s
  | .probeRespRx n t => Sys2Proof.Machine.execProbeRespRx n t s
  | .beaconRx n t lower copy => Sys2Proof.Machine.execBeaconRx n t lower copy s
  | .joinReqSend t => Sys2Proof.Machine.execJoinReqSend t s
  | .joinReq n uid proto lastCid capable prio => Sys2Proof.Machine.execJoinReq n uid proto lastCid capable prio s
  | .joinGrant n uid refused member sj => Sys2Proof.Machine.execJoinGrant n uid refused member sj s
  | .statusSend => Sys2Proof.Machine.execStatusSend s
  | .statusRx n member state lag depth parent lastCid prio => Sys2Proof.Machine.execStatusRx n member state lag depth parent lastCid prio s
  | .memberAbsent m => Sys2Proof.Machine.execMemberAbsent m s
  | .leaveReq => Sys2Proof.Machine.execLeaveReq s
  | .leave n member sl => Sys2Proof.Machine.execLeave n member sl s
  | .scRequest => Sys2Proof.Machine.execScRequest s
  | .scDist n c => Sys2Proof.Machine.execScDist n c s
  | .scAckWrite => Sys2Proof.Machine.execScAckWrite s
  | .scAck n member cid refuse => Sys2Proof.Machine.execScAck n member cid refuse s
  | .tsync n dst records last cid sa => Sys2Proof.Machine.execTsync n dst records last cid sa s
  | .mgrLost t => Sys2Proof.Machine.execMgrLost t s
  | .takeoverActive t => Sys2Proof.Machine.execTakeoverActive t s
  | .takeover n member => Sys2Proof.Machine.execTakeover n member s
  | .handoverStart t => Sys2Proof.Machine.execHandoverStart t s
  | .handover n dst sh => Sys2Proof.Machine.execHandover n dst sh s
  | .txDoorbell f q w => Sys2Proof.Machine.execTxDoorbell f q w s
  | .rxDoorbell f q w => Sys2Proof.Machine.execRxDoorbell f q w s
  | .qpEnable f hi w => Sys2Proof.Machine.execQpEnable f hi w s
  | .txEntryFetched f q ws err => Sys2Proof.Machine.execTxEntryFetched f q ws err s
  | .sendEnter f q t b err => Sys2Proof.Machine.execSendEnter f q t b err s
  | .txCompletion f q t err => Sys2Proof.Machine.execTxCompletion f q t err s
  | .rxDelivery k c t own own2 err => Sys2Proof.Machine.execRxDelivery k c t own own2 err s
  | .flsFree f w => Sys2Proof.Machine.execFlsFree f w s
  | .modTimerExpiry f q rx t => Sys2Proof.Machine.execModTimerExpiry f q rx t s
  | .irq0Rearm f => Sys2Proof.Machine.execIrq0Rearm f s
  | .functionLevelReset f => Sys2Proof.Machine.execFunctionLevelReset f s
  | .atsTranslationComplete f q m addr alloc rx ok pri => Sys2Proof.Machine.execAtsTranslationComplete f q m addr alloc rx ok pri s
  | .pageRequestResponse f q rx ok => Sys2Proof.Machine.execPageRequestResponse f q rx ok s
  | .atsInvalidate => Sys2Proof.Machine.execAtsInvalidate s
  | .surpriseDown => Sys2Proof.Machine.execSurpriseDown s
  | .ceRateCheck c n => Sys2Proof.Machine.execCeRateCheck c n s
  | .ddrPhyFailure c => Sys2Proof.Machine.execDdrPhyFailure c s
  | .spareCopyDone lines bad => Sys2Proof.Machine.execSpareCopyDone lines bad s
  | .d2dCrcFail p again => Sys2Proof.Machine.execD2dCrcFail p again s
  | .d2dRetrainDone p => Sys2Proof.Machine.execD2dRetrainDone p s
  | .d2dDeskew p skew limit t => Sys2Proof.Machine.execD2dDeskew p skew limit t s
  | .fwRestart => Sys2Proof.Machine.execFwRestart s
  | .avsAck p => Sys2Proof.Machine.execAvsAck p s
  | .avsTimeout p t => Sys2Proof.Machine.execAvsTimeout p t s
  | .sensorScan t temps volts => Sys2Proof.Machine.execSensorScan t temps volts s
  | .throttleStep p t => Sys2Proof.Machine.execThrottleStep p t s
  | .throttleRecover p t => Sys2Proof.Machine.execThrottleRecover p t s
  | .h1EntryAttempt h t => Sys2Proof.Machine.execH1EntryAttempt h t s
  | .h2IdleEntry h t => Sys2Proof.Machine.execH2IdleEntry h t s
  | .h2Req h => Sys2Proof.Machine.execH2Req h s
  | .handshakeAnswer u t => Sys2Proof.Machine.execHandshakeAnswer u t s
  | .handshakeTimeout u => Sys2Proof.Machine.execHandshakeTimeout u s
  | .wakeReq h => Sys2Proof.Machine.execWakeReq h s
  | .hoopH1Wake h queued t => Sys2Proof.Machine.execHoopH1Wake h queued t s
  | .h2PowerUpDone h t => Sys2Proof.Machine.execH2PowerUpDone h t s
  | .h2PowerUpTimeout h => Sys2Proof.Machine.execH2PowerUpTimeout h s
  | .hoopPadRelease h => Sys2Proof.Machine.execHoopPadRelease h s
  | .d3hotEntry pme t => Sys2Proof.Machine.execD3hotEntry pme t s
  | .pmeTurnOff => Sys2Proof.Machine.execPmeTurnOff s
  | .smbusWakeMatch k addr ledger => Sys2Proof.Machine.execSmbusWakeMatch k addr ledger s
  | .gpioWake pin ledger => Sys2Proof.Machine.execGpioWake pin ledger s
  | .wakeTimer ledger => Sys2Proof.Machine.execWakeTimer ledger s
  | .devicePadRelease => Sys2Proof.Machine.execDevicePadRelease s
  | .softResetRequest atEn at16 => Sys2Proof.Machine.execSoftResetRequest atEn at16 s
  | .transition b pins => Sys2Proof.Machine.execTransition b pins s
  | .role b pins => Sys2Proof.Machine.execRole b pins s
  | .keyInit b => Sys2Proof.Machine.execKeyInit b s
  | .keyRotate b copyA copyB => Sys2Proof.Machine.execKeyRotate b copyA copyB s
  | .arbAdvance b copyA copyB => Sys2Proof.Machine.execArbAdvance b copyA copyB s
  | .laneFuse b => Sys2Proof.Machine.execLaneFuse b s
  | .debugGrant => Sys2Proof.Machine.execDebugGrant s
  | .flashWrite => Sys2Proof.Machine.execFlashWrite s
  | .reboot pins => Sys2Proof.Machine.execReboot pins s
  | .debugKey b => Sys2Proof.Machine.execDebugKey b s
  | .remoteFaultEnd n => Sys2Proof.Machine.execRemoteFaultEnd n s
  | .shaperCreditZero p c t => Sys2Proof.Machine.execShaperCreditZero p c t s
  | .pulseWidthEnd k t => Sys2Proof.Machine.execPulseWidthEnd k t s
  | .ptpMessageSend j n kind t b => Sys2Proof.Machine.execPtpMessageSend j n kind t b s
  | .pcieLinkReturn => Sys2Proof.Machine.execPcieLinkReturn s
  | .fwRestartDone => Sys2Proof.Machine.execFwRestartDone s
  | .supplyRailFall bs => Sys2Proof.Machine.execSupplyRailFall bs s

end Sys2Proof.Machine
end

