-- ==== Sys2Proof/WellFormed.lean ====
section
/-! DEFINITION. Well-formed commands: every unit number names a unit that the device has (R21 to R25), and
every field written or given fits its width. -/

namespace Sys2Proof

/-- Whether every operand of a command is in its range. -/
def Instr.wf (i : Instr) : Bool :=
  match i with
  | .coldReset _ => true
  | .warmReset _ => true
  | .powerLoss _ => true
  | .firmwareReady => true
  | .perstAssert => true
  | .perstDeassert ledger => decide (ledger < 18446744073709551616)
  | .thermalTrip => true
  | .stitchBoundary errs => errs.all (fun e => decide (e.1 < 32))
  | .commitClose => true
  | .softResetDone => true
  | .registerWrite a v _ _ => decide (a < 536870912) && decide (v < 4294967296)
  | .splitHiWrite a v _ => decide (a < 536870912) && decide (v < 4294967296)
  | .malformedAccess a k => decide (a < 536870912) &&
      (match k with | .twoWrite lo hi => decide (lo < 4294967296) && decide (hi < 4294967296) | _ => true)
  | .unmappedAccess a _ => decide (a < 536870912)
  | .commitGo a _ at16 => decide (a < 536870912) && decide (at16 < 65536)
  | .commitCancel a _ at16 => decide (a < 536870912) && decide (at16 < 65536)
  | .indCtrlWrite a space step _ => decide (a < 536870912) && decide (space < 16) && decide (step < 8)
  | .indAddrWrite a w => decide (a < 536870912) && decide (w < 4294967296)
  | .indDataRead a => decide (a < 536870912)
  | .indDataWrite a w => decide (a < 536870912) && decide (w < 4294967296)
  | .indFetchDone a _ => decide (a < 536870912)
  | .indWriteDone a => decide (a < 536870912)
  | .crossingDeliver a => decide (a < 536870912)
  | .scrubVisit a lo _ _ => decide (a < 536870912) && decide (lo < 32)
  | .cntClr a => decide (a < 536870912)
  | .fenceReq a => decide (a < 536870912)
  | .fenceRelease a => decide (a < 536870912)
  | .hoopResetDone h => decide (h < 32)
  | .periodReq ns => decide (ns < 1048576)
  | .signalRise l => decide (l < 1024)
  | .signalFall l => decide (l < 1024)
  | .cdrLockAcquired l => decide (l < 1024)
  | .cdrLockLost l => decide (l < 1024)
  | .adaptComplete l _ => decide (l < 1024)
  | .trainDone l => decide (l < 1024)
  | .trainFail l => decide (l < 1024)
  | .trainRestart l => decide (l < 1024)
  | .trainStepRequest l tap _ => decide (l < 1024) && decide (tap < 4)
  | .txTapStep l => decide (l < 1024)
  | .stuffInsert l bs _ => decide (l < 1024) && bs.all (fun b => decide (b < 2))
  | .stuffDiscard l xs => decide (l < 1024) && xs.all (fun x => decide (x < 4))
  | .quietEntry l _ => decide (l < 1024)
  | .quietExit l => decide (l < 1024)
  | .quietExitBoundary l => decide (l < 1024)
  | .quietMaxExit l => decide (l < 1024)
  | .burstEnd l _ => decide (l < 1024)
  | .chkSyncAcquired l xs => decide (l < 1024) && xs.all (fun x => decide (x < 4))
  | .chkSyncLost l xs => decide (l < 1024) && xs.all (fun x => decide (x < 4))
  | .chkClr l => decide (l < 1024)
  | .evtClr l => decide (l < 1024)
  | .injOne l => decide (l < 1024)
  | .injectPeriodic l => decide (l < 1024)
  | .linkUp n _ => decide (n < 1024)
  | .linkDown n _ _ => decide (n < 1024)
  | .fecUnlock n _ => decide (n < 1024)
  | .remoteFaultRx n => decide (n < 1024)
  | .rxFrame n _ b _ _ _ => decide (n < 1024) && b.all (fun b => decide (b < 256))
  | .pauseRx n _ q => decide (n < 1024) && decide (q < 65536)
  | .pfcRx n _ vec _ => decide (n < 1024) && decide (vec < 256)
  | .pauseTimerExpiry n c _ => decide (n < 1024) && decide (c < 8)
  | .pauseWdFire n c _ => decide (n < 1024) && decide (c < 8)
  | .pauseWdIgnoreEnd n c _ => decide (n < 1024) && decide (c < 8)
  | .pauseHoldRequest n c _ => decide (n < 1024) && decide (c < 8)
  | .pauseReleaseRequest n c _ => decide (n < 1024) && decide (c < 8)
  | .pauseRepeat n _ => decide (n < 1024)
  | .wakePatternMatch n b ledger => decide (n < 1024) && b.all (fun b => decide (b < 256)) && decide (ledger < 18446744073709551616)
  | .ingressLookup _ _ _ _ => true
  | .enqueue _ _ => true
  | .mcReplicate src _ => decide (src < 1056)
  | .txOpportunity p _ _ => decide (p < 1056)
  | .txFrameComplete n _ _ => decide (n < 1024)
  | .holdEvaluate => true
  | .internalSourceResume src c => decide (src < 1056) && decide (c < 8)
  | .mirrorCopy k _ => decide (k < 8)
  | .recircFeed p _ => decide (p < 8)
  | .auditPassEnd => true
  | .gateEdge p _ => decide (p < 1056)
  | .gateListStart p _ => decide (p < 1024)
  | .glSyncDone p => decide (p < 1024)
  | .policerRefresh _ => true
  | .prkSyncDone h => decide (h < 32)
  | .clsRetire p k => decide (p < 8) && decide (k < 262144)
  | .clsUnstage p k => decide (p < 8) && decide (k < 262144)
  | .clsKeep p k => decide (p < 8) && decide (k < 262144)
  | .learnEventArrival _ _ => true
  | .learnRelease _ => true
  | .learnApply p _ => decide (p < 8)
  | .filSearch p _ => decide (p < 8)
  | .filNext p _ => decide (p < 8)
  | .filInsert p _ => decide (p < 8)
  | .filDelete p _ => decide (p < 8)
  | .flushByPort p _ => decide (p < 8)
  | .filDiscardStaged p _ => decide (p < 8)
  | .filCleanupDone p => decide (p < 8)
  | .filCmdResume p _ => decide (p < 8)
  | .sknSearch h _ => decide (h < 32)
  | .sknRead h _ => decide (h < 32)
  | .sknUpdate h => decide (h < 32)
  | .sknEvict h => decide (h < 32)
  | .sknPin h => decide (h < 32)
  | .sknUnpin h => decide (h < 32)
  | .sknDiscardStaged h => decide (h < 32)
  | .sknOverlayMerge h => decide (h < 32)
  | .workDispatch b t => decide (b < 512) && decide (t < 4)
  | .frameQueueAdmit b => decide (b < 512)
  | .bobAdd b t _ _ => decide (b < 512) && decide (t < 4)
  | .bobSub b t _ _ => decide (b < 512) && decide (t < 4)
  | .bobAnd b t _ _ => decide (b < 512) && decide (t < 4)
  | .bobOr b t _ _ => decide (b < 512) && decide (t < 4)
  | .bobXor b t _ _ => decide (b < 512) && decide (t < 4)
  | .bobShl b t _ _ => decide (b < 512) && decide (t < 4)
  | .bobShr b t _ _ => decide (b < 512) && decide (t < 4)
  | .bobSar b t _ _ => decide (b < 512) && decide (t < 4)
  | .bobMul b t _ _ => decide (b < 512) && decide (t < 4)
  | .bobMulhu b t _ _ => decide (b < 512) && decide (t < 4)
  | .bobMin b t _ _ => decide (b < 512) && decide (t < 4)
  | .bobMax b t _ _ => decide (b < 512) && decide (t < 4)
  | .bobMinu b t _ _ => decide (b < 512) && decide (t < 4)
  | .bobMaxu b t _ _ => decide (b < 512) && decide (t < 4)
  | .bobSlt b t _ _ => decide (b < 512) && decide (t < 4)
  | .bobSltu b t _ _ => decide (b < 512) && decide (t < 4)
  | .bobPopcnt b t _ _ => decide (b < 512) && decide (t < 4)
  | .bobBswap b t _ _ => decide (b < 512) && decide (t < 4)
  | .bobAddi b t _ _ => decide (b < 512) && decide (t < 4)
  | .bobAndi b t _ _ => decide (b < 512) && decide (t < 4)
  | .bobOri b t _ _ => decide (b < 512) && decide (t < 4)
  | .bobXori b t _ _ => decide (b < 512) && decide (t < 4)
  | .bobShiftiShl b t _ _ => decide (b < 512) && decide (t < 4)
  | .bobShiftiShr b t _ _ => decide (b < 512) && decide (t < 4)
  | .bobShiftiSar b t _ _ => decide (b < 512) && decide (t < 4)
  | .bobLui b t _ _ => decide (b < 512) && decide (t < 4)
  | .bobInsi b t _ _ => decide (b < 512) && decide (t < 4)
  | .bobBeq b t _ _ => decide (b < 512) && decide (t < 4)
  | .bobBne b t _ _ => decide (b < 512) && decide (t < 4)
  | .bobBlt b t _ _ => decide (b < 512) && decide (t < 4)
  | .bobBge b t _ _ => decide (b < 512) && decide (t < 4)
  | .bobBltu b t _ _ => decide (b < 512) && decide (t < 4)
  | .bobBgeu b t _ _ => decide (b < 512) && decide (t < 4)
  | .bobJal b t _ _ => decide (b < 512) && decide (t < 4)
  | .bobJr b t _ _ => decide (b < 512) && decide (t < 4)
  | .bobLd b t _ _ => decide (b < 512) && decide (t < 4)
  | .bobLw b t _ _ => decide (b < 512) && decide (t < 4)
  | .bobSd b t _ _ => decide (b < 512) && decide (t < 4)
  | .bobSw b t _ _ => decide (b < 512) && decide (t < 4)
  | .bobLdi b t _ _ => decide (b < 512) && decide (t < 4)
  | .bobHld b t _ _ => decide (b < 512) && decide (t < 4)
  | .bobHst b t _ _ => decide (b < 512) && decide (t < 4)
  | .bobInstall b t _ _ => decide (b < 512) && decide (t < 4)
  | .bobCtxrd b t _ _ => decide (b < 512) && decide (t < 4)
  | .bobCtxwr b t _ _ => decide (b < 512) && decide (t < 4)
  | .bobCtxevict b t _ _ => decide (b < 512) && decide (t < 4)
  | .bobFsearch b t _ _ => decide (b < 512) && decide (t < 4)
  | .bobFlearn b t _ _ => decide (b < 512) && decide (t < 4)
  | .bobPcharge b t _ _ => decide (b < 512) && decide (t < 4)
  | .bobPread b t _ _ => decide (b < 512) && decide (t < 4)
  | .tableOpComplete b t => decide (b < 512) && decide (t < 4)
  | .bobDrd b t _ _ => decide (b < 512) && decide (t < 4)
  | .bobDwr b t _ _ => decide (b < 512) && decide (t < 4)
  | .dramIssueAccepted b t _ _ => decide (b < 512) && decide (t < 4)
  | .drdComplete b _ _ _ => decide (b < 512)
  | .dwrComplete b _ => decide (b < 512)
  | .bobDawait b t _ _ => decide (b < 512) && decide (t < 4)
  | .bobDatest b t _ _ => decide (b < 512) && decide (t < 4)
  | .bobTimeNs b t _ _ => decide (b < 512) && decide (t < 4)
  | .bobTimeStitch b t _ _ => decide (b < 512) && decide (t < 4)
  | .bobTimePhase b t _ _ => decide (b < 512) && decide (t < 4)
  | .bobTimeEpoch b t _ _ => decide (b < 512) && decide (t < 4)
  | .bobTimeStatus b t _ _ => decide (b < 512) && decide (t < 4)
  | .bobFwd b t _ _ => decide (b < 512) && decide (t < 4)
  | .bobDrop b t _ _ => decide (b < 512) && decide (t < 4)
  | .bobNew b t _ _ => decide (b < 512) && decide (t < 4)
  | .bobEnd b t _ _ => decide (b < 512) && decide (t < 4)
  | .bobYield b t _ _ => decide (b < 512) && decide (t < 4)
  | .bobRdperf b t _ _ => decide (b < 512) && decide (t < 4)
  | .bobRdid b t _ _ => decide (b < 512) && decide (t < 4)
  | .illegalInstruction b t _ _ => decide (b < 512) && decide (t < 4)
  | .thread0Overrun b => decide (b < 512)
  | .bobReleaseEffect b => decide (b < 512)
  | .segRetire h k => decide (h < 32) && decide (k < 64)
  | .segUnstage h k => decide (h < 32) && decide (k < 64)
  | .segKeep h k => decide (h < 32) && decide (k < 64)
  | .perfClr b => decide (b < 512)
  | .perfCounterWrap b n => decide (b < 512) && decide (n < 8)
  | .voteCompare _ _ _ ok aon ppb => decide (ok < 8) && decide (aon < 18446744073709551616) && decide (ppb < 4294967296)
  | .clockLost i => decide (i < 3)
  | .channelRejoin i => decide (i < 3)
  | .servoAcquire _ => true
  | .sourceLost src _ => decide (src < 4)
  | .sourceRegained src _ => decide (src < 4)
  | .holdoverTraceExpiry _ => true
  | .switchReq _ => true
  | .autoRevert _ => true
  | .switchSettled _ => true
  | .reacq _ => true
  | .latch _ => true
  | .replicaRefresh _ _ => true
  | .ptpMessageRx j c _ _ => decide (j < 2) && decide (c < 8)
  | .leapApply _ => true
  | .captureEdge i _ _ => decide (i < 17)
  | .pulseEdge i _ => decide (i < 17)
  | .irigBSecond i _ => decide (i < 17)
  | .highClr h => decide (h < 32)
  | .managerElection _ => true
  | .aldLinkFrameRx n _ pre line _ _ =>
    decide (n < 1024) && (pre ++ line).all (fun b => decide (b < 256))
  | .helloRx n sys proto uid peer _ => decide (n < 1024) && decide (sys < 4294967296) && decide (proto < 16) && decide (uid < 18446744073709551616) && decide (peer < 2048)
  | .probeSend n _ => decide (n < 1024)
  | .probeRx n _ => decide (n < 1024)
  | .probeRespRx n _ => decide (n < 1024)
  | .beaconRx n _ _ _ => decide (n < 1024)
  | .joinReqSend _ => true
  | .joinReq n uid proto lastCid _ prio => decide (n < 1024) && decide (uid < 18446744073709551616) && decide (proto < 16) && decide (lastCid < 65536) && decide (prio < 256)
  | .joinGrant n uid _ member sj => decide (n < 1024) && decide (uid < 18446744073709551616) && decide (member < 1024) && decide (sj < 18446744073709551616)
  | .statusSend => true
  | .statusRx n member state lag depth parent lastCid prio => decide (n < 1024) && decide (member < 1024) && decide (state < 8) && decide (lag < 256) && decide (depth < 16) && decide (parent < 1024) && decide (lastCid < 65536) && decide (prio < 256)
  | .memberAbsent m => decide (m < 1024)
  | .leaveReq => true
  | .leave n member _ => decide (n < 1024) && decide (member < 1024)
  | .scRequest => true
  | .scDist n _ => decide (n < 1024)
  | .scAckWrite => true
  | .scAck n member cid _ => decide (n < 1024) && decide (member < 1024) && decide (cid < 65536)
  | .tsync n dst _ _ cid sa => decide (n < 1024) && decide (dst < 1024) && decide (cid < 65536) && decide (sa < 18446744073709551616)
  | .mgrLost _ => true
  | .takeoverActive _ => true
  | .takeover n member => decide (n < 1024) && decide (member < 1024)
  | .handoverStart _ => true
  | .handover n dst sh => decide (n < 1024) && decide (dst < 1024) && decide (sh < 18446744073709551616)
  | .txDoorbell f q w => decide (f < 64) && decide (q < 64) && decide (w < 4294967296)
  | .rxDoorbell f q w => decide (f < 64) && decide (q < 64) && decide (w < 4294967296)
  | .qpEnable f _ w => decide (f < 64) && decide (w < 4294967296)
  | .txEntryFetched f q _ _ => decide (f < 64) && decide (q < 64)
  | .sendEnter f q _ b _ => decide (f < 64) && decide (q < 64) && b.all (fun b => decide (b < 256))
  | .txCompletion f q _ _ => decide (f < 64) && decide (q < 64)
  | .rxDelivery k c _ _ _ _ => decide (k < 7) && decide (c < 8)
  | .flsFree f w => decide (f < 64) && decide (w < 4294967296)
  | .modTimerExpiry f q _ _ => decide (f < 64) && decide (q < 64)
  | .irq0Rearm f => decide (f < 64)
  | .functionLevelReset f => decide (f < 64)
  | .atsTranslationComplete f q m addr _ _ _ _ => decide (f < 64) && decide (q < 64) && decide (m < 56) && decide (addr < 18446744073709551616)
  | .pageRequestResponse f q _ _ => decide (f < 64) && decide (q < 64)
  | .atsInvalidate => true
  | .surpriseDown => true
  | .ceRateCheck c _ => decide (c < 32)
  | .ddrPhyFailure c => decide (c < 32)
  | .spareCopyDone _ _ => true
  | .d2dCrcFail p _ => decide (p < 8)
  | .d2dRetrainDone p => decide (p < 8)
  | .d2dDeskew p skew _ _ => decide (p < 8) && decide (skew < 256)
  | .fwRestart => true
  | .avsAck p => decide (p < 8)
  | .avsTimeout p _ => decide (p < 8)
  | .sensorScan _ _ _ => true
  | .throttleStep p _ => decide (p < 8)
  | .throttleRecover p _ => decide (p < 8)
  | .h1EntryAttempt h _ => decide (h < 32)
  | .h2IdleEntry h _ => decide (h < 32)
  | .h2Req h => decide (h < 32)
  | .handshakeAnswer u _ => decide (u < 33)
  | .handshakeTimeout u => decide (u < 33)
  | .wakeReq h => decide (h < 32)
  | .hoopH1Wake h _ _ => decide (h < 32)
  | .h2PowerUpDone h _ => decide (h < 32)
  | .h2PowerUpTimeout h => decide (h < 32)
  | .hoopPadRelease h => decide (h < 32)
  | .d3hotEntry _ _ => true
  | .pmeTurnOff => true
  | .smbusWakeMatch k addr ledger => decide (k < 2) && decide (addr < 128) && decide (ledger < 18446744073709551616)
  | .gpioWake pin ledger => decide (pin < 32) && decide (ledger < 18446744073709551616)
  | .wakeTimer ledger => decide (ledger < 18446744073709551616)
  | .devicePadRelease => true
  | .softResetRequest _ at16 => decide (at16 < 65536)
  | .transition _ _ => true
  | .role _ _ => true
  | .keyInit _ => true
  | .keyRotate _ _ _ => true
  | .arbAdvance _ _ _ => true
  | .laneFuse _ => true
  | .debugGrant => true
  | .flashWrite => true
  | .reboot _ => true
  | .debugKey _ => true
  | .remoteFaultEnd n => decide (n < 1024)
  | .shaperCreditZero p c _ => decide (p < 1024) && decide (c < 8)
  | .pulseWidthEnd i _ => decide (i < 17)
  | .ptpMessageSend j n kind _ b => decide (j < 2) && decide (n < 1024) && decide (kind < 16) && b.all (fun b => decide (b < 256))
  | .pcieLinkReturn => true
  | .fwRestartDone => true
  | .supplyRailFall _ => true

end Sys2Proof
end

