-- ==== Sys2Proof/Safety.lean ====
section
/-! DEFINITION. The terms in which statements about the block are made: that a command completes, what it leaves as it
was, and the canonical form of the block's memories. -/

namespace Sys2Proof.Safety

open Sys2Proof.Machine

/-- The command completes: it answers a next state, and `P` holds of that state. -/
def completes (c : Instr) (s : State) (P : State → Prop) : Prop := ∃ t, exec c s = .next t ∧ P t

/-- The register fields of a page. -/
def on (p : Page) (fs : List Field) : List Nat := fs.map (fieldKey p)

/-- Every register field in force holds in `t` what it held in `s`, except those numbered in `ks`. -/
def regsKept (s t : State) (ks : List Nat) : Prop :=
  ∀ k ∈ tabKeys s.reg ++ tabKeys t.reg, k ∉ ks → tabFind t.reg k = tabFind s.reg k

/-- Nothing differs between `s` and `t` but the register fields numbered in `ks`. -/
def onlyRegs (s t : State) (ks : List Nat) : Prop := { t with reg := s.reg } = s ∧ regsKept s t ks

/-- Nothing differs but the register fields numbered in `ks` and the interrupt of vector 0 that they may raise (R522). -/
def onlyRegsIrq (s t : State) (ks : List Nat) : Prop :=
  { t with reg := s.reg, irqLevel := s.irqLevel, msgs := s.msgs, msixPend := s.msixPend } = s ∧ regsKept s t ks

/-- Nothing differs but the register fields numbered in `ks` and what lane `l` holds beside its registers, which is `h`. -/
def onlyLane (s t : State) (l : Nat) (h : LaneHw) (ks : List Nat) : Prop :=
  laneHw t l = h ∧ (∀ m, m ≠ l → laneHw t m = laneHw s m) ∧ { t with reg := s.reg, lane := s.lane } = s ∧ regsKept s t ks

/-- The same, and the interrupt of vector 0 that they may raise (R522). -/
def onlyLaneIrq (s t : State) (l : Nat) (h : LaneHw) (ks : List Nat) : Prop :=
  laneHw t l = h ∧ (∀ m, m ≠ l → laneHw t m = laneHw s m) ∧
  { t with reg := s.reg, lane := s.lane, irqLevel := s.irqLevel, msgs := s.msgs, msixPend := s.msixPend } = s ∧
  regsKept s t ks

/-- Lane `l` receives NRZ symbols as they stand on its line: lock is held, neither a loopback nor polarity nor an injected
error changes them, and the next is no stuff symbol. -/
def hearsNrz (s : State) (l : Nat) : Prop :=
  (laneRate s l = 1 ∨ laneRate s l = 2) ∧ laneLpm s l ≠ 2 ∧ rdB s (.lan l) Fld.LAN_STATUS_CDR_LOCK = true ∧
  laneLoop s l = 0 ∧ rdB s (.lan l) Fld.LAN_STATUS_EFF_RX_INV = false ∧ (laneHw s l).inj.getD 2 0 = 0 ∧
  (laneCoding s l = 1 → (laneHw s l).rxRun ≠ 24)

/-- The counters hold in `t` what they held in `s`, except those numbered in `cs`. -/
def countersKept (s t : State) (cs : List Nat) : Prop :=
  ∀ k ∈ tabKeys s.cnt ++ tabKeys t.cnt, k ∉ cs → tabFind t.cnt k = tabFind s.cnt k

/-- The receive counter of Table 5.1 in which a whole frame of bytes `b` (DA to the last byte before the FCS) with FCS `w`
is counted, the first row that matches: FRAGMENT 6, UNDERSIZE 5, OVERSIZE 7, STOMPED 3, FCS_ERR 2, a MAC control frame
PAUSE 8, PFC 9 or CTRL_DROP 10, and OK_FRAMES 0. -/
def rxCounter (s : State) (n : Nat) (b : List Nat) (w : Nat) : Nat :=
  let da := beNat (slice b 0 6)
  let sa := cfg s (.mac n) Fld.MAC_PAUSE_SA_HI_SA * 2 ^ 32 + cfg s (.mac n) Fld.MAC_PAUSE_SA_LO_SA
  if b.length + 4 < 64 then (if w = crc32 b then 5 else 6)
  else if cfg s (.mac n) Fld.MAC_FRAME_CFG_MAX_LEN < b.length + 4 then 7
  else if w ≠ crc32 b then (if w = 0xFFFF_FFFF - crc32 b then 3 else 2)
  else if be16 b 12 = 0x8808 then
    if (da = 0x0180C2000001 ∨ da = sa) ∧ be16 b 14 = 0x0001 ∧ cfg s (.mac n) Fld.MAC_PAUSE_CFG_MODE = 1 then 8
    else if (da = 0x0180C2000001 ∨ da = sa) ∧ be16 b 14 = 0x0101 ∧ cfg s (.mac n) Fld.MAC_PAUSE_CFG_MODE = 2 then 9
    else 10
  else 0

/-! ### Instructions of a bobbin -/

/-- Thread `t` of bobbin `b` can issue, and the word `w` at its program counter is the instruction `op`: the bobbin is
not fenced and its hoop is awake, the thread is ready, its segment is LIVE or RETIRE, and the word is not in
uncorrectable error (R297, R299, R307). -/
def issues (s : State) (b t : Nat) (e : BobErr) (w : Nat) (op : BobOp) : Prop :=
  t < 4 ∧ canIssue s b t = true ∧ e ≠ .store true ∧ 2 ≤ (segOf s (b / 16) ((thrOf s b t).pc / 1024)).state ∧
    storeBad s (b / 16) 1 (thrOf s b t).pc = false ∧ w = word s (.bobh (b / 16)) 1 (thrOf s b t).pc ∧ bobOp w = some op

/-- The general registers of a thread hold 64 bits (R297). -/
def regs64 (s : State) (b t : Nat) : Prop := ∀ r, gReg s b t r < 2 ^ 64

/-- A general register as a word. -/
def gWord (s : State) (b t r : Nat) : BitVec 64 := BitVec.ofNat 64 (gReg s b t r)

/-- Of a thread's registers only `rd` differs: it holds `v`, or stays 0 where it is g0 (R297). -/
def gSet (s u : State) (b t rd v : Nat) : Prop :=
  ∀ r, gReg u b t r = if r = rd ∧ r ≠ 0 then v % 2 ^ 64 else gReg s b t r

/-- Thread `t` of bobbin `b` goes on at `pc`, and nothing else of it differs but its registers; no other thread of any
bobbin differs. -/
def goesOn (s u : State) (b t pc : Nat) : Prop :=
  { thrOf u b t with regs := [] } = { thrOf s b t with pc := pc % 65536, regs := [] } ∧
  ∀ c r, 4 * c + r ≠ 4 * b + t → thrOf u c r = thrOf s c r

/-- Of the bobbins' state only threads and performance counters differ. -/
def bobThreads (s u : State) : Prop := { u.bob with thr := s.bob.thr, perf := s.bob.perf } = s.bob

/-- An instruction of bobbin `b` at time `t4` changes, beside the bobbins' state, only Sampler time, PERF_WRAP of the
bobbin, the interrupt of vector 0 that it may raise, ISTORE_CORR of its hoop and the counters of `cs`. -/
def bobOnly (s u : State) (b t4 : Nat) (cs : List Nat) : Prop :=
  u.now = max s.now t4 ∧
  { u with now := s.now, reg := s.reg, cnt := s.cnt, bob := s.bob, irqLevel := s.irqLevel, msgs := s.msgs,
           msixPend := s.msixPend } = s ∧
  regsKept s u (on (.bob b) [Fld.BOB_STICKY_PERF_WRAP]) ∧ countersKept s u (cntKey (.bobh (b / 16)) 0 :: cs)

/-- Instruction completes with register `rd` set to `v` and the thread at `pc`, and changes nothing else. -/
def bobWrites (s u : State) (b t t4 rd v pc : Nat) (cs : List Nat) : Prop :=
  gSet s u b t rd v ∧ goesOn s u b t pc ∧ bobThreads s u ∧ bobOnly s u b t4 cs

/-- A table operation has been performed: the thread waits with its result for `rd`, at the next instruction (R309). -/
def tableIssued (s u : State) (b t w v : Nat) : Prop :=
  thrOf u b t = { thrOf s b t with pc := ((thrOf s b t).pc + 1) % 65536, wait := .table (fRd w) v } ∧
  (∀ c r, 4 * c + r ≠ 4 * b + t → thrOf u c r = thrOf s c r) ∧
  counter u (.bob b) 12 = trunc 64 (counter s (.bob b) 12 + 1)

/-! ### Ports that send pause and PFC frames -/

/-- Port `n` has sent the pause or PFC frame `fr`, counted it, and none is due (R168). -/
def sendsHold (s u : State) (n : Nat) (fr : List Nat) : Prop :=
  tabGet u.rs.sentCtl [] n = withFcs fr false ∧ (pauseOf u n).due = false ∧ (pauseOf u n).rel = 0 ∧
  (pauseOf u n).txAt = u.now ∧
  counter u (.mac n) (if cfg s (.mac n) Fld.MAC_PAUSE_CFG_MODE = 2 then 16 else 15) =
    trunc 64 (counter s (.mac n) (if cfg s (.mac n) Fld.MAC_PAUSE_CFG_MODE = 2 then 16 else 15) + 1) ∧
  { u.rs with sentCtl := s.rs.sentCtl } = s.rs

/-! ### Filet -/

/-- The key of the command registers of panel `p` stands at location `l`: in its bucket or in the overflow store (R232). -/
def filAt (s : State) (p l : Nat) : Prop :=
  (l ∈ bucketLocs s p (filKey s p) ∨ (1048576 ≤ l ∧ l < 2097152)) ∧ (filEnt s p l).valid = true ∧
    (filEnt s p l).key = filKey s p

/-! ### Skein -/

/-- The Skein of hoop `h` can take command `op`: it is not off, and no other command runs (R290, R122). -/
def sknFree (s : State) (h op : Nat) : Prop :=
  domainOff s (.skn h) = false ∧ (tabGet s.skOp 0 h = 0 ∨ tabGet s.skOp 0 h = op)

/-! ### Ports -/

/-- Port `p` has taken its transmit opportunity from `s` (R377 to R379): where it cannot start, nothing differs; where
it has an eligible head, the head of the class chosen leaves its queue for the transmitter or consumer and is counted, but a
data frame of an Aladotra link whose HOPS would exceed 16 is discarded (R447); where it has none, no queue differs. -/
def takesOpportunity (s u : State) (p : Nat) : Prop :=
  let r := retag (settle s p) p
  (canStart s p = false → u = s) ∧
  (canStart s p = true → chooseClass r p = none → u.rs = s.rs) ∧
  (canStart s p = true → ∀ c f, chooseClass r p = some c → readyHead r p c = some f →
    p < 1024 → isAld s p = true → 16 < hopsOut (frm s f) →
    txOf u p = none ∧ counter u (.mac p) 39 = trunc 64 (counter s (.mac p) 39 + 1) ∧
    rd u (.mac p) Fld.MAC_STICKY_HOP_DROP = 1 ∧
    queueOf u (8 * p + c) = (queueOf s (8 * p + c)).eraseP (fun e => e.f == f)) ∧
  (canStart s p = true → ∀ c f, chooseClass r p = some c → readyHead r p c = some f →
    ¬ (p < 1024 ∧ isAld s p = true ∧ 16 < hopsOut (frm s f)) →
    eligible r p c f = true ∧
    txOf u p = some { f := f, cls := c, start := s.now, cut := (frm s f).state == 0, overrun := false } ∧
    queueOf u (8 * p + c) = (queueOf s (8 * p + c)).eraseP (fun e => e.f == f) ∧
    (∀ q, q ≠ 8 * p + c → queueOf u q = queueOf s q) ∧
    counter u (.tmg p) (4 * c) = trunc 64 (counter s (.tmg p) (4 * c) + 1) ∧
    counter u (.tmg p) (4 * c + 1) = trunc 64 (counter s (.tmg p) (4 * c + 1) + frmLen (frm s f)) ∧
    { u with cnt := s.cnt, rs := s.rs, tm := s.tm } = s)

/-! ### Aladotra -/

/-- A control cell of type `ctype` has been sent on link `n` (R444, R446, R448): where no frame was in transmission, SEQ and
the count of cells sent went up by one, and the frame sent is a cell of that type; else the cell waits behind that frame, and
nothing has been sent yet. -/
def sentCell (s u : State) (n ctype : Nat) : Prop :=
  (txOf s n = none →
    (linkOf u n).seq = ((linkOf s n).seq + 1) % 65536 ∧ counter u (.mac n) 35 = trunc 64 (counter s (.mac n) 35 + 1) ∧
    byteAt (linkOf u n).out 0 = 32 ∧ be16 (linkOf u n).out 2 % 64 = ctype ∧
    be16 (linkOf u n).out 10 = (linkOf s n).seq % 65536 ∧ (linkOf u n).wait = (linkOf s n).wait) ∧
  (txOf s n ≠ none → (∃ b, (linkOf u n).wait = (linkOf s n).wait ++ [(ctype, b)]) ∧
    (linkOf u n).seq = (linkOf s n).seq ∧ (linkOf u n).out = (linkOf s n).out ∧
    counter u (.mac n) 35 = counter s (.mac n) 35)

/-- A cell of type `ctype` waits on link `n`, and the firmware runs (R448, R523). -/
def takesCell (s : State) (n ctype : Nat) : Prop := (cellHeld s n ctype).isSome = true ∧ s.smp.fwHold = false

/-- The oldest such cell has been taken from link `n`. -/
def tookCell (s u : State) (n ctype : Nat) : Prop :=
  (linkOf u n).inbox = (linkOf s n).inbox.eraseP (fun c => c.1 == ctype)

/-! ### Power -/

/-- Nothing waits for hoop `h` to run: no value or event in the shells of its pages, no commit that fell due in its sleep
and no soft reset (R59, R122, R554). -/
def nothingHeld (s : State) (h : Nat) : Prop :=
  (∀ p ∈ hoopPages h, tabFind s.xing (pageBase p) = none) ∧ (∀ e ∈ s.sleepDue, e.1 / 16 ≠ h) ∧
  (∀ p ∈ shadowPages, pageHoop p = some h → tabGet s.sleepDue 0 (16 * h + pageGroup s p) = 0) ∧
  tabGet s.pwr.softDue false h = false

/-- The device has woken from D3 by source `src` with `detail`, at ledger `ledger` (R547, R549): the source is recorded,
time and the stitch count are restored (R431, R78), each panel is back at the voltage of its level, and D3_WAKE is set;
the pads stay held. -/
def wokeBy (s u : State) (src detail ledger : Nat) : Prop :=
  u.pwr.d3 = .awake ∧ rd u .pwr Fld.PWR_WAKE_SRC_SOURCE = src ∧ rd u .pwr Fld.PWR_WAKE_SRC_DETAIL = detail ∧
  bit (rd u .pwr Fld.PWR_WAKE_SRC_SEEN) (src - 1) = true ∧ rd u .pwr Fld.PWR_STICKY_D3_WAKE = 1 ∧
  rd u .pwr Fld.PWR_PAD_STAT_PAD_HELD = rd s .pwr Fld.PWR_PAD_STAT_PAD_HELD ∧
  (∀ p < 8, vSet u p = levelMv p (levelCur s p)) ∧ u.dram = s.dram ∧ u.fil = s.fil ∧
  ∀ te le n, s.pwr.slept = some (te, le, n) →
    u.now = te + (((((ledger - le) * 160 : Nat) : Int) * (1024000000000 + signed 32 (rd s .tod Fld.SMP_AON_PPB_PPB)))
      / 1024000000000).toNat ∧
    u.stitch = n + (u.now / (4 * periodNs s) - te / (4 * periodNs s)) ∧ u.closed = false ∧
    rd u .tod Fld.SMP_LEDGER_LEDGER = trunc 64 ledger ∧ servo u = 4 ∧ source u = 0

/-! ### Resets -/

/-- The boot after a reset (R438, R566, R568): the fuses stand, a grant and a request have ended, BOOT names the first copy
that may boot, and the role is fixed. -/
def bootedFrom (s u : State) (b : BootPins) : Prop :=
  { u.mor with log := s.mor.log, lost := s.mor.lost } =
    { s.mor with grant := false, req := none, resetDue := none, served := s.mor.served + 1 } ∧
  u.mor.lost = [] ∧ (s.mor.lost = [] → u.mor.log = s.mor.log) ∧
  rd u .mor Fld.MOR_BOOT_BOOT = (if copyReason s b.copyA = 0 then 1 else if copyReason s b.copyB = 0 then 2 else 3) ∧
  rd u .mor Fld.MOR_BOOT_REASON_A = copyReason s b.copyA ∧
  u.ald = { capable := b.mgrSel && roleFuse s && Config.variant != 1 } ∧ rdB u .glb Fld.GLB_RESET_CAUSE_READY = false

/-- The always-on domain stands (Table 17.8): the ledger, the wake enables and sources, and WAKE_AT. -/
def keptOn (s u : State) : Prop :=
  rd u .tod Fld.SMP_LEDGER_LEDGER = rd s .tod Fld.SMP_LEDGER_LEDGER ∧
  ∀ f ∈ [Fld.PWR_WAKE_EN_EN, Fld.PWR_WAKE_EN_TIMER_EN, Fld.PWR_WAKE_SRC_SEEN, Fld.PWR_WAKE_SRC_SOURCE,
    Fld.PWR_WAKE_SRC_DETAIL, Fld.PWR_WAKE_AT_LO_AT, Fld.PWR_WAKE_AT_HI_AT, Fld.PWR_SMB_WAKE_ADDR0,
    Fld.PWR_SMB_WAKE_ADDR1], rd u .pwr f = rd s .pwr f

/-- Function `f` is as a function-level reset leaves it (R494): no pair is on, no send or interrupt waits, its pools are
empty, and it is not fenced. -/
def functionClear (u : State) (f : Nat) : Prop :=
  (∀ q < 64, qpOn u f q = false ∧ (txEng u f q).sends = [] ∧ rxEng u f q = {} ∧ ∀ rx, irqSrc u f q rx = {}) ∧
  fenced u (.ndlf f) = false ∧ ∀ p < 8, poolStore u f p = []

/-! ### The whole block -/

/-- The memories that searches and addresses go through are in canonical form, each register of a thread holds 64 bits
(R297), and the fence log holds at most 256 entries (R521). -/
def canonical (s : State) : Prop :=
  Memory.wf s.dram = true ∧ tabWf (fun _ => {}) s.fil = true ∧ tabWf (fun _ => {}) s.rs.acct = true ∧
  tabRising none s.act = true ∧ tabRising none s.shd = true ∧ tabRising none s.lat = true ∧
  (∀ b t, regs64 s b t) ∧ s.fenceLog.length ≤ 256

/-- No fuse of `s` is unburned in `u`: transition bits, role bits, steps of the anti-rollback counter, lane generations, bits
of the keys and of the debug key, and entries of the log (R558, R565 to R567). -/
def fusesKept (s u : State) : Prop :=
  (∀ b, bit s.mor.t b = true → bit u.mor.t b = true) ∧ s.mor.role ≤ u.mor.role ∧ s.mor.arb ≤ u.mor.arb ∧
  s.mor.lanes <+: u.mor.lanes ∧ s.mor.log <+: u.mor.log ∧ (∀ k, tabGet s.mor.revoked false k = true → tabGet u.mor.revoked false k = true) ∧
  (∀ k, ∀ b < 384, bit (wordsNat (keySlot s k)) b = true → bit (wordsNat (keySlot u k)) b = true) ∧
  ∀ b < 384, bit (wordsNat s.mor.debugKey) b = true → bit (wordsNat u.mor.debugKey) b = true

end Sys2Proof.Safety
end

