-- ==== Sys2Proof/Certificates/Slice0/Obligations.lean ====
section
/-! DEFINITION. What is claimed of the block: one Prop for each obligation, made from the numbered rules of the spec.
Each says that its commands complete, what the next state then holds, and what it leaves as it was. -/

open Sys2Proof Sys2Proof.Machine Sys2Proof.Safety

/-- R137, R138: SIGNAL follows the line; a rise restarts acquisition, a fall on a lane in service is LOS and ends clock
recovery, and a lane in QUIET only shows it; lock is acquired and lost, and adaptation completes. Readings and choices
of the model that it uses: log entries 5, 7, 10, 11. -/
def Obligations.LaneSignalAndLock : Prop :=
  (∀ (s : State) (l : Nat), detectorOn s l = true → rdB s (.lan l) Fld.LAN_STATUS_SIGNAL = false →
    completes (.signalRise l) s fun t =>
      rd t (.lan l) Fld.LAN_STATUS_SIGNAL = 1 ∧
      (if laneRate s l ≠ 0 ∧ laneLpm s l = 0 then
        rd t (.lan l) Fld.LAN_STATUS_CDR_LOCK = 0 ∧ rd t (.lan l) Fld.LAN_STATUS_ADAPT_DONE = 0 ∧
        rd t (.lan l) Fld.LAN_STATUS_TRAIN_STATE = 0 ∧ rd t (.lan l) Fld.LAN_STATUS_CHK_SYNC = 0 ∧
        onlyLane s t l { laneHw s l with chk := {} } (on (.lan l) [Fld.LAN_STATUS_SIGNAL, Fld.LAN_STATUS_CDR_LOCK,
          Fld.LAN_STATUS_ADAPT_DONE, Fld.LAN_STATUS_TRAIN_STATE, Fld.LAN_STATUS_CHK_SYNC, Fld.LAN_LATENCY_TX_LAT,
          Fld.LAN_LATENCY_RX_LAT])
      else onlyRegs s t (on (.lan l) [Fld.LAN_STATUS_SIGNAL]))) ∧
  (∀ (s : State) (l : Nat), rdB s (.lan l) Fld.LAN_STATUS_SIGNAL = true →
    completes (.signalFall l) s fun t =>
      rd t (.lan l) Fld.LAN_STATUS_SIGNAL = 0 ∧
      (if laneLpm s l = 1 ∨ laneLpm s l = 3 then onlyRegs s t (on (.lan l) [Fld.LAN_STATUS_SIGNAL])
      else
        rd t (.lan l) Fld.LAN_STATUS_CDR_LOCK = 0 ∧ rd t (.lan l) Fld.LAN_STATUS_ADAPT_DONE = 0 ∧
        (laneRate s l ≠ 0 → laneLpm s l = 0 → rd t (.lan l) Fld.LAN_STICKY_LOS = 1 ∧
          rd t (.lan l) Fld.LAN_EVENT_COUNT_LOS = min 255 (rd s (.lan l) Fld.LAN_EVENT_COUNT_LOS + 1)) ∧
        (rdB s (.lan l) Fld.LAN_STATUS_CDR_LOCK = true → rd t (.lan l) Fld.LAN_STICKY_CDR_UNLOCK = 1) ∧
        onlyLaneIrq s t l { laneHw s l with chk := {} } (on (.lan l) [Fld.LAN_STATUS_SIGNAL, Fld.LAN_STATUS_CDR_LOCK,
          Fld.LAN_STATUS_ADAPT_DONE, Fld.LAN_STATUS_TRAIN_STATE, Fld.LAN_STATUS_CHK_SYNC, Fld.LAN_LATENCY_TX_LAT,
          Fld.LAN_LATENCY_RX_LAT, Fld.LAN_STICKY_LOS, Fld.LAN_EVENT_COUNT_LOS, Fld.LAN_STICKY_CDR_UNLOCK,
          Fld.LAN_EVENT_COUNT_UNLOCK]))) ∧
  (∀ (s : State) (l : Nat), laneRate s l ≠ 0 → laneLpm s l ≠ 2 → rdB s (.lan l) Fld.LAN_STATUS_SIGNAL = true →
    rdB s (.lan l) Fld.LAN_STATUS_CDR_LOCK = false →
    completes (.cdrLockAcquired l) s fun t =>
      rd t (.lan l) Fld.LAN_STATUS_CDR_LOCK = 1 ∧
      (txLatRange (laneRate s l)).1 ≤ rd t (.lan l) Fld.LAN_LATENCY_TX_LAT ∧
      rd t (.lan l) Fld.LAN_LATENCY_TX_LAT < (txLatRange (laneRate s l)).1 + (txLatRange (laneRate s l)).2 ∧
      (rxLatRange (laneRate s l)).1 ≤ rd t (.lan l) Fld.LAN_LATENCY_RX_LAT ∧
      rd t (.lan l) Fld.LAN_LATENCY_RX_LAT < (rxLatRange (laneRate s l)).1 + (rxLatRange (laneRate s l)).2 ∧
      (if laneTrains s l ∧ rdB s (.lan l) Fld.LAN_STATUS_ADAPT_DONE = false ∧ rd s (.lan l) Fld.LAN_STATUS_TRAIN_STATE = 0
        then rd t (.lan l) Fld.LAN_STATUS_TRAIN_STATE = 1 ∧
          rd t (.lan l) Fld.LAN_TX_EQ_CUR_TAPS = trunc 32 (tapsCommitted s l)
        else rd t (.lan l) Fld.LAN_STATUS_TRAIN_STATE = rd s (.lan l) Fld.LAN_STATUS_TRAIN_STATE ∧
          rd t (.lan l) Fld.LAN_TX_EQ_CUR_TAPS = rd s (.lan l) Fld.LAN_TX_EQ_CUR_TAPS) ∧
      { t with reg := s.reg, fresh := s.fresh } = s ∧
      regsKept s t (on (.lan l) [Fld.LAN_STATUS_CDR_LOCK, Fld.LAN_STATUS_TRAIN_STATE, Fld.LAN_LATENCY_TX_LAT,
        Fld.LAN_LATENCY_RX_LAT, Fld.LAN_TX_EQ_CUR_TAPS])) ∧
  (∀ (s : State) (l : Nat), rdB s (.lan l) Fld.LAN_STATUS_CDR_LOCK = true →
    completes (.cdrLockLost l) s fun t =>
      rd t (.lan l) Fld.LAN_STATUS_CDR_LOCK = 0 ∧ rd t (.lan l) Fld.LAN_STICKY_CDR_UNLOCK = 1 ∧
      rd t (.lan l) Fld.LAN_EVENT_COUNT_UNLOCK = min 255 (rd s (.lan l) Fld.LAN_EVENT_COUNT_UNLOCK + 1) ∧
      rd t (.lan l) Fld.LAN_LATENCY_TX_LAT = 0 ∧ rd t (.lan l) Fld.LAN_LATENCY_RX_LAT = 0 ∧
      onlyRegsIrq s t (on (.lan l) [Fld.LAN_STATUS_CDR_LOCK, Fld.LAN_STICKY_CDR_UNLOCK, Fld.LAN_EVENT_COUNT_UNLOCK,
        Fld.LAN_LATENCY_TX_LAT, Fld.LAN_LATENCY_RX_LAT])) ∧
  (∀ (s : State) (l : Nat) (limit : Bool), rdB s (.lan l) Fld.LAN_STATUS_CDR_LOCK = true →
    completes (.adaptComplete l limit) s fun t =>
      (laneTrains s l = false → rd t (.lan l) Fld.LAN_STATUS_ADAPT_DONE = 1) ∧
      (laneTrains s l = true → rd t (.lan l) Fld.LAN_STATUS_ADAPT_DONE = rd s (.lan l) Fld.LAN_STATUS_ADAPT_DONE) ∧
      (limit = true → rd t (.lan l) Fld.LAN_STICKY_EQ_LIMIT = 1) ∧
      (limit = false → rd t (.lan l) Fld.LAN_STICKY_EQ_LIMIT = rd s (.lan l) Fld.LAN_STICKY_EQ_LIMIT) ∧
      onlyLaneIrq s t l { laneHw s l with restart := none } (on (.lan l) [Fld.LAN_STATUS_ADAPT_DONE,
        Fld.LAN_STICKY_EQ_LIMIT]))

/-- R134, R138 (Table 4.4): training ends with success or failure and restarts; a requested step moves one tap by one
unit inside the limits or is refused with EQ_LIMIT; a committed change moves each tap one unit a step. R130 to R132,
R151: after the 24th symbol of a run a stuff symbol follows, starts a new run and joins the debt, or at a debt of 64
holds the link layer, and a run of 24 never stands; a symbol received after 24 of a run is discarded, starts a new run
and, equal to the run, is a violation; an injected error waits at its target, up to 256, and strikes the next bit there;
on a disabled lane nothing is injected (R124). Readings and choices of the model that it uses: log entries 5, 177, 182,
183. -/
def Obligations.LaneTrainingAndStuffing : Prop :=
  (∀ (s : State) (l : Nat), rd s (.lan l) Fld.LAN_STATUS_TRAIN_STATE = 1 →
    completes (.trainDone l) s fun t =>
      rd t (.lan l) Fld.LAN_STATUS_TRAIN_STATE = 2 ∧ rd t (.lan l) Fld.LAN_STATUS_ADAPT_DONE = 1 ∧
      onlyRegs s t (on (.lan l) [Fld.LAN_STATUS_TRAIN_STATE, Fld.LAN_STATUS_ADAPT_DONE])) ∧
  (∀ (s : State) (l : Nat), rd s (.lan l) Fld.LAN_STATUS_TRAIN_STATE = 1 →
    completes (.trainFail l) s fun t =>
      rd t (.lan l) Fld.LAN_STATUS_TRAIN_STATE = 3 ∧ rd t (.lan l) Fld.LAN_STICKY_TRAIN_FAIL = 1 ∧
      onlyRegsIrq s t (on (.lan l) [Fld.LAN_STATUS_TRAIN_STATE, Fld.LAN_STICKY_TRAIN_FAIL])) ∧
  (∀ (s : State) (l : Nat), rd s (.lan l) Fld.LAN_STATUS_TRAIN_STATE = 3 →
    completes (.trainRestart l) s fun t =>
      rd t (.lan l) Fld.LAN_STATUS_TRAIN_STATE = 1 ∧
      rd t (.lan l) Fld.LAN_TX_EQ_CUR_TAPS = trunc 32 (tapsCommitted s l) ∧
      onlyRegs s t (on (.lan l) [Fld.LAN_STATUS_TRAIN_STATE, Fld.LAN_TX_EQ_CUR_TAPS])) ∧
  (∀ (s : State) (l tap : Nat) (up : Bool), rd s (.lan l) Fld.LAN_STATUS_TRAIN_STATE = 1 →
    completes (.trainStepRequest l tap up) s fun t =>
      let w := rd s (.lan l) Fld.LAN_TX_EQ_CUR_TAPS
      let w' := tapPut w tap (tapOf w tap + (if up then 1 else -1))
      (tapsValid w' = true → rd t (.lan l) Fld.LAN_TX_EQ_CUR_TAPS = trunc 32 w' ∧
        onlyRegs s t (on (.lan l) [Fld.LAN_TX_EQ_CUR_TAPS])) ∧
      (tapsValid w' = false → rd t (.lan l) Fld.LAN_STICKY_EQ_LIMIT = 1 ∧
        onlyRegsIrq s t (on (.lan l) [Fld.LAN_STICKY_EQ_LIMIT]))) ∧
  (∀ (s : State) (l : Nat), (laneHw s l).ramp = true →
    completes (.txTapStep l) s fun t =>
      let w := rd s (.lan l) Fld.LAN_TX_EQ_CUR_TAPS
      let g := tapsCommitted s l
      let w' := (List.range 4).foldl (fun a i => tapPut a i (towards (tapOf w i) (tapOf g i))) w
      rd t (.lan l) Fld.LAN_TX_EQ_CUR_TAPS = trunc 32 w' ∧
      laneHw t l = { laneHw s l with ramp := decide (w' ≠ g) } ∧
      (∀ m, m ≠ l → laneHw t m = laneHw s m) ∧
      { t with reg := s.reg, lane := s.lane } = s ∧ regsKept s t (on (.lan l) [Fld.LAN_TX_EQ_CUR_TAPS])) ∧
  (∀ (s : State) (l repaid x : Nat), laneCoding s l = 1 → laneSends s l = true → laneLoop s l = 0 →
    cfgB s (.lan l) Fld.LAN_PAT_CTRL_GEN_EN = false → (laneHw s l).inj.getD 1 0 = 0 →
    (cfgB s (.lan l) Fld.LAN_MODE_PRECODE_TX = false ∨ laneRate s l ≤ 2) → x < (if laneRate s l ≤ 2 then 2 else 4) →
    (laneHw s l).txRun < 24 → ((laneHw s l).txRun ≠ 0 → (laneHw s l).txLevel = x) →
    let n := 24 - (laneHw s l).txRun
    let bs := (List.replicate n (if laneRate s l ≤ 2 then [x] else grayBits x)).flatten
    completes (.stuffInsert l bs repaid) s fun t =>
      let y := stuffSymbol (laneRate s l) x
      let debt := (laneHw s l).debt - repaid
      (64 ≤ debt → rd t (.lan l) Fld.LAN_STICKY_STUFF_STALL = 1) ∧
      rd t (.lan l) Fld.LAN_STUFF_COUNT_STUFFED = trunc 32 (rd s (.lan l) Fld.LAN_STUFF_COUNT_STUFFED + 1) ∧
      onlyLaneIrq s t l
        { laneHw s l with
          txLevel := y, txRun := 1, debt := if debt < 64 then debt + 1 else 64
          held := (laneHw s l).held + (if debt < 64 then 0 else 1)
          line := polarity (laneRate s l) (rdB s (.lan l) Fld.LAN_STATUS_EFF_TX_INV) (List.replicate n x ++ [y]) }
        (on (.lan l) [Fld.LAN_STUFF_COUNT_STUFFED, Fld.LAN_STICKY_STUFF_STALL])) ∧
  (∀ (s : State) (l repaid : Nat) (bs : List Nat), (laneHw s l).txRun < 24 →
    completes (.stuffInsert l bs repaid) s fun t =>
      (laneCoding s l = 1 → (laneHw t l).txRun < 24) ∧ (∀ m, m ≠ l → laneHw t m = laneHw s m) ∧
      (laneSends s l = false → t = s)) ∧
  (∀ (s : State) (l b k repaid : Nat), laneCoding s l = 0 → laneSends s l = true → laneRate s l ≤ 2 → laneLoop s l = 0 →
    cfgB s (.lan l) Fld.LAN_PAT_CTRL_GEN_EN = false → rdB s (.lan l) Fld.LAN_STATUS_EFF_TX_INV = false → b < 2 →
    (laneHw s l).inj.getD 1 0 = k + 1 →
    completes (.stuffInsert l [b] repaid) s fun t => (laneHw t l).line = [1 - b] ∧ (laneHw t l).inj.getD 1 0 = k) ∧
  (∀ (s : State) (l x : Nat), laneCoding s l = 1 → laneRate s l ≠ 0 → laneLpm s l ≠ 2 → laneLoop s l = 0 →
    rdB s (.lan l) Fld.LAN_STATUS_CDR_LOCK = true → (laneHw s l).rxRun = 24 →
    completes (.stuffDiscard l [x]) s fun t =>
      let y := if rdB s (.lan l) Fld.LAN_STATUS_EFF_RX_INV = true then stuffSymbol (laneRate s l) x else x
      (y = (laneHw s l).rxLevel → rd t (.lan l) Fld.LAN_STICKY_STUFF_VIOL = 1 ∧
        rd t (.lan l) Fld.LAN_EVENT_COUNT_STUFF_VIOL = min 255 (rd s (.lan l) Fld.LAN_EVENT_COUNT_STUFF_VIOL + 1)) ∧
      (y ≠ (laneHw s l).rxLevel → t.reg = s.reg) ∧
      onlyLaneIrq s t l { laneHw s l with rxLevel := y, rxRun := 1 }
        (on (.lan l) [Fld.LAN_STICKY_STUFF_VIOL, Fld.LAN_EVENT_COUNT_STUFF_VIOL])) ∧
  (∀ (s : State) (l : Nat) (xs : List Nat), (laneHw s l).rxRun ≤ 24 →
    completes (.stuffDiscard l xs) s fun t =>
      (laneCoding s l = 1 → (laneHw t l).rxRun ≤ 24) ∧ (∀ m, m ≠ l → laneHw t m = laneHw s m) ∧
      (rdB s (.lan l) Fld.LAN_STATUS_CDR_LOCK = false → t = s)) ∧
  (∀ (s : State) (l : Nat), domainOff s (.lan l) = false → laneRate s l ≠ 0 →
    cfg s (.lan l) Fld.LAN_INJECT_TARGET ≠ 0 ∨ cfgB s (.lan l) Fld.LAN_PAT_CTRL_GEN_EN = true →
    let n := (laneHw s l).inj.getD (cfg s (.lan l) Fld.LAN_INJECT_TARGET) 0
    completes (.injOne l) s fun t =>
      (n < 256 → onlyLane s t l
        { laneHw s l with inj := (laneHw s l).inj.set (cfg s (.lan l) Fld.LAN_INJECT_TARGET) (n + 1) } []) ∧
      (256 ≤ n → rd t (.lan l) Fld.PAGE_HDR_STICKY_XING_SAT = 1 ∧
        onlyRegsIrq s t (on (.lan l) [Fld.PAGE_HDR_STICKY_XING_SAT]))) ∧
  (∀ (s : State) (l : Nat), domainOff s (.lan l) = false → laneRate s l = 0 → completes (.injOne l) s fun t => t = s) ∧
  (∀ (s : State) (l : Nat), laneRate s l ≠ 0 → 8 ≤ cfg s (.lan l) Fld.LAN_INJECT_INJ_RATE →
    cfg s (.lan l) Fld.LAN_INJECT_TARGET ≠ 0 ∨ cfgB s (.lan l) Fld.LAN_PAT_CTRL_GEN_EN = true →
    let n := (laneHw s l).inj.getD (cfg s (.lan l) Fld.LAN_INJECT_TARGET) 0
    n < 256 →
    completes (.injectPeriodic l) s fun t => onlyLane s t l
      { laneHw s l with inj := (laneHw s l).inj.set (cfg s (.lan l) Fld.LAN_INJECT_TARGET) (n + 1) } [])

/-- R144 to R146: an active Aladotra lane with LPM 1 enters QUIET once it has had fill only for IDLE_100NS (0 counts as
1), not before; an offered symbol, a boundary and 1 ms in QUIET start its burst; at the end of a burst the lane that
sent it is active, and a receiver without lock sets BURST_FAIL and acquires again. R149, R152: the checker that seeks a
pseudo-random pattern synchronises at the 64th consecutive good bit; while it is synchronised its 48-bit counters take
each bit and each error, saturating, and it loses synchronisation when more than 128 of the last 1,024 bits are in
error; one that is off, or set to no pattern, moves neither; CHK_CLR and EVT_CLR clear their counters. Readings and
choices of the model that it uses: log entries 177, 182, 183, 184, 211. -/
def Obligations.LaneQuietAndChecker : Prop :=
  (∀ (s : State) (l ns : Nat), laneCoding s l = 1 → laneRate s l ≠ 0 → cfg s (.lan l) Fld.LAN_POWER_LPM = 1 →
    laneLpm s l = 0 →
    let idle := cfg s (.lan l) Fld.LAN_POWER_IDLE_100NS
    ((if idle = 0 then 100 else 100 * idle) ≤ ns →
      completes (.quietEntry l ns) s fun t =>
        laneLpm t l = 1 ∧ onlyLane s t l { laneHw s l with eq := none } (on (.lan l) [Fld.LAN_STATUS_LPM_STATE])) ∧
    (ns < (if idle = 0 then 100 else 100 * idle) → completes (.quietEntry l ns) s (· = s))) ∧
  (∀ (s : State) (l : Nat), laneLpm s l = 1 → ∀ c ∈ [Instr.quietExit l, .quietExitBoundary l, .quietMaxExit l],
    (c = .quietExitBoundary l → laneCoding s l = 1) →
    completes c s fun t =>
      laneLpm t l = 3 ∧
      onlyLane s t l { laneHw s l with burst := 1024 * (cfg s (.lan l) Fld.LAN_POWER_BURST + 1), eq := none }
        (on (.lan l) [Fld.LAN_STATUS_LPM_STATE])) ∧
  (∀ (s : State) (l : Nat) (relocked : Bool), laneCoding s l = 1 → laneRate s l ≠ 0 → laneLpm s l ≠ 2 →
    completes (.burstEnd l relocked) s fun t =>
      let h := if laneLpm s l = 3 then { laneHw s l with burst := 0, txRun := 0 } else laneHw s l
      laneLpm t l = (if laneLpm s l = 3 then 0 else laneLpm s l) ∧
      (relocked = true → onlyLane s t l h (on (.lan l) [Fld.LAN_STATUS_LPM_STATE])) ∧
      (relocked = false → rd t (.lan l) Fld.LAN_STICKY_BURST_FAIL = 1 ∧ rd t (.lan l) Fld.LAN_STATUS_CDR_LOCK = 0 ∧
        rd t (.lan l) Fld.LAN_EVENT_COUNT_BURST_FAIL = min 255 (rd s (.lan l) Fld.LAN_EVENT_COUNT_BURST_FAIL + 1) ∧
        onlyLaneIrq s t l { h with chk := {} } (on (.lan l) [Fld.LAN_STATUS_LPM_STATE, Fld.LAN_STICKY_BURST_FAIL,
          Fld.LAN_EVENT_COUNT_BURST_FAIL, Fld.LAN_STATUS_CDR_LOCK, Fld.LAN_STATUS_ADAPT_DONE,
          Fld.LAN_STATUS_TRAIN_STATE, Fld.LAN_STATUS_CHK_SYNC, Fld.LAN_LATENCY_TX_LAT, Fld.LAN_LATENCY_RX_LAT]))) ∧
  (∀ (s : State) (l x : Nat), hearsNrz s l → x < 2 → bk s (.lan l) Fld.LAN_PAT_CTRL_CHK_EN ≠ 0 →
    rdB s (.lan l) Fld.LAN_STATUS_CHK_SYNC = false →
    let code := bk s (.lan l) Fld.LAN_PAT_CTRL_CHK_PAT
    let c := (laneHw s l).chk
    code ≤ 5 → patOrder code ≤ c.seen → c.pat.last % 2 ^ patOrder code ≠ 0 →
    completes (.chkSyncAcquired l [x]) s fun t =>
      rd t (.lan l) Fld.LAN_STATUS_CHK_SYNC = (if patBit (laneRate s l) code 0 c.pat = x ∧ 63 ≤ c.good then 1 else 0) ∧
      (laneHw t l).chk.good = (if patBit (laneRate s l) code 0 c.pat = x then c.good + 1 else 0) ∧
      (laneHw t l).chk.pat = patNext c.pat x ∧ (∀ m, m ≠ l → laneHw t m = laneHw s m) ∧
      { t with reg := s.reg, lane := s.lane } = s ∧ regsKept s t (on (.lan l) [Fld.LAN_STATUS_CHK_SYNC])) ∧
  (∀ (s : State) (l x : Nat), hearsNrz s l → x < 2 → bk s (.lan l) Fld.LAN_PAT_CTRL_CHK_EN ≠ 0 →
    rdB s (.lan l) Fld.LAN_STATUS_CHK_SYNC = true →
    let code := bk s (.lan l) Fld.LAN_PAT_CTRL_CHK_PAT
    let c := (laneHw s l).chk
    code ≤ 8 →
    completes (.chkSyncLost l [x]) s fun t =>
      let err : Bool := patBit (laneRate s l) code (patUser s l) c.pat != x
      let bad := ((if err then c.bad ++ [c.cmp] else c.bad).filter (fun i => decide (c.cmp < i + 1024)))
      rd t (.lan l) Fld.LAN_CHK_BITS_BITS = min (2 ^ 48 - 1) (rd s (.lan l) Fld.LAN_CHK_BITS_BITS + 1) ∧
      (err = true → rd t (.lan l) Fld.LAN_CHK_ERR_ERRS = min (2 ^ 48 - 1) (rd s (.lan l) Fld.LAN_CHK_ERR_ERRS + 1)) ∧
      (err = false → rd t (.lan l) Fld.LAN_CHK_ERR_ERRS = rd s (.lan l) Fld.LAN_CHK_ERR_ERRS) ∧
      (128 < bad.length → rd t (.lan l) Fld.LAN_STATUS_CHK_SYNC = 0 ∧ rd t (.lan l) Fld.LAN_STICKY_CHK_SYNC_LOST = 1) ∧
      (bad.length ≤ 128 → rd t (.lan l) Fld.LAN_STATUS_CHK_SYNC = rd s (.lan l) Fld.LAN_STATUS_CHK_SYNC ∧
        (laneHw t l).chk.bad = bad) ∧
      (∀ m, m ≠ l → laneHw t m = laneHw s m) ∧
      { t with reg := s.reg, lane := s.lane, irqLevel := s.irqLevel, msgs := s.msgs, msixPend := s.msixPend } = s ∧
      regsKept s t (on (.lan l) [Fld.LAN_STATUS_CHK_SYNC, Fld.LAN_STICKY_CHK_SYNC_LOST, Fld.LAN_CHK_BITS_BITS,
        Fld.LAN_CHK_ERR_ERRS])) ∧
  (∀ (s : State) (l : Nat) (xs : List Nat), bk s (.lan l) Fld.LAN_PAT_CTRL_CHK_EN = 0 ∨
      9 ≤ bk s (.lan l) Fld.LAN_PAT_CTRL_CHK_PAT →
    ∀ c ∈ [Instr.chkSyncAcquired l xs, .chkSyncLost l xs],
    completes c s fun t =>
      (∀ f ∈ [Fld.LAN_STATUS_CHK_SYNC, Fld.LAN_STICKY_CHK_SYNC_LOST, Fld.LAN_CHK_BITS_BITS, Fld.LAN_CHK_ERR_ERRS],
        rd t (.lan l) f = rd s (.lan l) f) ∧ (laneHw t l).chk = (laneHw s l).chk) ∧
  (∀ (s : State) (l : Nat), domainOff s (.lan l) = false →
    completes (.chkClr l) s fun t =>
      rd t (.lan l) Fld.LAN_CHK_BITS_BITS = 0 ∧ rd t (.lan l) Fld.LAN_CHK_ERR_ERRS = 0 ∧
      onlyRegs s t (on (.lan l) [Fld.LAN_CHK_BITS_BITS, Fld.LAN_CHK_ERR_ERRS])) ∧
  (∀ (s : State) (l : Nat), domainOff s (.lan l) = false →
    completes (.evtClr l) s fun t =>
      rd t (.lan l) Fld.LAN_EVENT_COUNT_STUFF_VIOL = 0 ∧ rd t (.lan l) Fld.LAN_EVENT_COUNT_BURST_FAIL = 0 ∧
      rd t (.lan l) Fld.LAN_EVENT_COUNT_UNLOCK = 0 ∧ rd t (.lan l) Fld.LAN_EVENT_COUNT_LOS = 0 ∧
      onlyRegs s t (on (.lan l) [Fld.LAN_EVENT_COUNT_STUFF_VIOL, Fld.LAN_EVENT_COUNT_BURST_FAIL,
        Fld.LAN_EVENT_COUNT_UNLOCK, Fld.LAN_EVENT_COUNT_LOS])) ∧
  (∀ (s : State) (l : Nat), domainOff s (.lan l) = true →
    ∀ x ∈ [(Instr.chkClr l, Fld.LAN_PAT_CTRL_CHK_CLR), (.evtClr l, Fld.LAN_PAT_CTRL_EVT_CLR),
      (.injOne l, Fld.LAN_INJECT_INJ_ONE)],
    completes x.1 s fun t =>
      (eventsOf (xingOf s (.lan l)) < 256 →
        xingOf t (.lan l) = xingOf s (.lan l) ++ [.event (fieldKey (.lan l) x.2)] ∧ { t with xing := s.xing } = s) ∧
      (256 ≤ eventsOf (xingOf s (.lan l)) → rd t (.lan l) Fld.PAGE_HDR_STICKY_XING_SAT = 1 ∧
        onlyRegsIrq s t (on (.lan l) [Fld.PAGE_HDR_STICKY_XING_SAT])))

/-- R164, R167: an accepted pause or PFC frame replaces what remains of the timer of each class it names, unless the
watchdog ignores it; a time of 0 and the end of a timer release a class; the watchdog releases a class held too long and
ignores holds for its time. R168, R390: a held account requests a hold and a freed one its release; the port sends, in
the form that MODE gives, a frame of 64 bytes with the classes held and released, counts it, and repeats it while a
class stays held; while a frame is in transmission, or remote fault is received, the frame is due and waits (R155,
R166). Readings and choices of the model that it uses: log entries 32, 41, 140, 187. -/
def Obligations.PauseFrames : Prop :=
  (∀ (s : State) (n t q : Nat), n < 1024 → linkUp s n = true → cfg s (.mac n) Fld.MAC_PAUSE_CFG_MODE = 1 →
    completes (.pauseRx n t q) s fun u =>
      u.now = max s.now t ∧ counter u (.mac n) 8 = trunc 64 (counter s (.mac n) 8 + 1) ∧
      (∀ c < 8, if q = 0 then
          tabGet (pauseOf u n).timer 0 c = 0 ∧ bit (rd u (.mac n) Fld.MAC_STATUS_TX_HELD) c = false
        else if bit (rd s (.mac n) Fld.MAC_STATUS_WD_IGNORE) c = true then
          tabGet (pauseOf u n).timer 0 c = tabGet (pauseOf s n).timer 0 c ∧
          bit (rd u (.mac n) Fld.MAC_STATUS_TX_HELD) c = bit (rd s (.mac n) Fld.MAC_STATUS_TX_HELD) c
        else tabGet (pauseOf u n).timer 0 c = 100 * u.now + quanta s n q ∧
          bit (rd u (.mac n) Fld.MAC_STATUS_TX_HELD) c = true) ∧
      (∀ m, m ≠ n → pauseOf u m = pauseOf s m) ∧
      { u with now := s.now, reg := s.reg, cnt := s.cnt, tm := s.tm } = s ∧
      regsKept s u (on (.mac n) [Fld.MAC_STATUS_TX_HELD]) ∧ countersKept s u [cntKey (.mac n) 8]) ∧
  (∀ (s : State) (n t vec : Nat) (times : List Nat), n < 1024 → linkUp s n = true →
    cfg s (.mac n) Fld.MAC_PAUSE_CFG_MODE = 2 →
    completes (.pfcRx n t vec times) s fun u =>
      let q (c : Nat) := times.getD c 0 % 65536
      u.now = max s.now t ∧ counter u (.mac n) 9 = trunc 64 (counter s (.mac n) 9 + 1) ∧
      (∀ c < 8, if bit vec c = true ∧ bit (cfg s (.mac n) Fld.MAC_PAUSE_CFG_RX_CLASS_EN) c = true ∧
          (q c = 0 ∨ bit (rd s (.mac n) Fld.MAC_STATUS_WD_IGNORE) c = false) then
          tabGet (pauseOf u n).timer 0 c = (if q c = 0 then 0 else 100 * u.now + quanta s n (q c)) ∧
          bit (rd u (.mac n) Fld.MAC_STATUS_TX_HELD) c = decide (q c ≠ 0) ∧
          counter u (.mac n) (25 + c) = trunc 64 (counter s (.mac n) (25 + c) + 1)
        else tabGet (pauseOf u n).timer 0 c = tabGet (pauseOf s n).timer 0 c ∧
          bit (rd u (.mac n) Fld.MAC_STATUS_TX_HELD) c = bit (rd s (.mac n) Fld.MAC_STATUS_TX_HELD) c ∧
          counter u (.mac n) (25 + c) = counter s (.mac n) (25 + c)) ∧
      (∀ m, m ≠ n → pauseOf u m = pauseOf s m) ∧
      { u with now := s.now, reg := s.reg, cnt := s.cnt, tm := s.tm } = s ∧
      regsKept s u (on (.mac n) [Fld.MAC_STATUS_TX_HELD])) ∧
  (∀ (s : State) (n c t : Nat), c < 8 → tabGet (pauseOf s n).since 0 c ≠ 0 →
    tabGet (pauseOf s n).timer 0 c ≤ 100 * max s.now t →
    completes (.pauseTimerExpiry n c t) s fun u =>
      tabGet (pauseOf u n).timer 0 c = 0 ∧ tabGet (pauseOf u n).since 0 c = 0 ∧
      bit (rd u (.mac n) Fld.MAC_STATUS_TX_HELD) c = false ∧
      (∀ d < 8, d ≠ c → tabGet (pauseOf u n).timer 0 d = tabGet (pauseOf s n).timer 0 d ∧
        bit (rd u (.mac n) Fld.MAC_STATUS_TX_HELD) d = bit (rd s (.mac n) Fld.MAC_STATUS_TX_HELD) d) ∧
      { u with now := s.now, reg := s.reg, tm := s.tm } = s ∧
      regsKept s u (on (.mac n) [Fld.MAC_STATUS_TX_HELD])) ∧
  (∀ (s : State) (n c t : Nat), c < 8 → cfg s (.mac n) Fld.MAC_PAUSE_WD_WD_US ≠ 0 →
    6 ≤ cfg s (.mac n) Fld.MAC_PORT_CFG_SPEED → tabGet (pauseOf s n).since 0 c ≠ 0 →
    100 * max s.now t < tabGet (pauseOf s n).timer 0 c →
      tabGet (pauseOf s n).since 0 c + 4000 * cfg s (.mac n) Fld.MAC_PAUSE_WD_WD_US ≤ max s.now t + 1 →
    completes (.pauseWdFire n c t) s fun u =>
      tabGet (pauseOf u n).timer 0 c = 0 ∧ bit (rd u (.mac n) Fld.MAC_STATUS_TX_HELD) c = false ∧
      bit (rd u (.mac n) Fld.MAC_STATUS_WD_IGNORE) c = true ∧ rd u (.mac n) Fld.MAC_STICKY_PAUSE_WD = 1 ∧
      tabGet (pauseOf u n).ignore 0 c = u.now + 4000 * max 1 (cfg s (.mac n) Fld.MAC_PAUSE_WD_IGN_US) ∧
      counter u (.mac n) 20 = trunc 64 (counter s (.mac n) 20 + 1) ∧
      { u with now := s.now, reg := s.reg, cnt := s.cnt, tm := s.tm, irqLevel := s.irqLevel, msgs := s.msgs,
               msixPend := s.msixPend } = s ∧
      regsKept s u (on (.mac n) [Fld.MAC_STATUS_TX_HELD, Fld.MAC_STATUS_WD_IGNORE, Fld.MAC_STICKY_PAUSE_WD])) ∧
  (∀ (s : State) (n c t : Nat), c < 8 → bit (rd s (.mac n) Fld.MAC_STATUS_WD_IGNORE) c = true →
    tabGet (pauseOf s n).ignore 0 c ≤ max s.now t →
    completes (.pauseWdIgnoreEnd n c t) s fun u =>
      bit (rd u (.mac n) Fld.MAC_STATUS_WD_IGNORE) c = false ∧ tabGet (pauseOf u n).ignore 0 c = 0 ∧
      { u with now := s.now, reg := s.reg, tm := s.tm } = s ∧
      regsKept s u (on (.mac n) [Fld.MAC_STATUS_WD_IGNORE])) ∧
  (∀ (s : State) (n c t : Nat), c < 8 → mayRequest s n = true → wantsHold s n c = true →
    bit (pauseOf s n).txHold c = false →
    completes (.pauseHoldRequest n c t) s fun u =>
      let h := setBit (pauseOf s n).txHold c true
      (pauseOf u n).txHold = h ∧
      (if cfg s (.mac n) Fld.MAC_PAUSE_CFG_MODE = 2 ∨ (pauseOf s n).txHold = 0 then
        (if ctlReady s n = true then
          sendsHold s u n (if cfg s (.mac n) Fld.MAC_PAUSE_CFG_MODE = 2 then
            ctlFrame s n 0x0101 ([0, (h ||| setBit (pauseOf s n).rel c false) % 256] ++
              (List.range 8).flatMap (fun d => beBytes 2 (if bit h d then
                cfg s (.mac n) Fld.MAC_PAUSE_CFG_TX_QUANTA else 0)))
            else ctlFrame s n 0x0001 (beBytes 2 (cfg s (.mac n) Fld.MAC_PAUSE_CFG_TX_QUANTA)))
        else (pauseOf u n).due = true ∧ u.cnt = s.cnt ∧ u.rs = s.rs)
      else u.cnt = s.cnt ∧ u.rs = s.rs) ∧
      { u with now := s.now, cnt := s.cnt, tm := s.tm, rs := s.rs } = s) ∧
  (∀ (s : State) (n c t : Nat), c < 8 → mayRequest s n = true → wantsHold s n c = false →
    bit (pauseOf s n).txHold c = true →
    completes (.pauseReleaseRequest n c t) s fun u =>
      let h := setBit (pauseOf s n).txHold c false
      (pauseOf u n).txHold = h ∧
      (if cfg s (.mac n) Fld.MAC_PAUSE_CFG_MODE = 2 ∨ h = 0 then
        (if ctlReady s n = true then
          sendsHold s u n (if cfg s (.mac n) Fld.MAC_PAUSE_CFG_MODE = 2 then
            ctlFrame s n 0x0101 ([0, (h ||| ((pauseOf s n).rel ||| 2 ^ c)) % 256] ++
              (List.range 8).flatMap (fun d => beBytes 2 (if bit h d then
                cfg s (.mac n) Fld.MAC_PAUSE_CFG_TX_QUANTA else 0)))
            else ctlFrame s n 0x0001 (beBytes 2 0))
        else (pauseOf u n).due = true ∧ (pauseOf u n).rel = (pauseOf s n).rel ||| 2 ^ c ∧ u.cnt = s.cnt ∧ u.rs = s.rs)
      else u.cnt = s.cnt ∧ u.rs = s.rs) ∧
      { u with now := s.now, cnt := s.cnt, tm := s.tm, rs := s.rs } = s) ∧
  (∀ (s : State) (n t : Nat), mayRequest s n = true → (pauseOf s n).txHold ≠ 0 →
    100 * (pauseOf s n).txAt + quanta s n (cfg s (.mac n) Fld.MAC_PAUSE_CFG_TX_QUANTA / 2) ≤ 100 * max s.now t →
    completes (.pauseRepeat n t) s fun u =>
      (pauseOf u n).txHold = (pauseOf s n).txHold ∧
      (ctlReady s n = true → (pauseOf u n).txAt = u.now ∧ (pauseOf u n).due = false ∧
        counter u (.mac n) (if cfg s (.mac n) Fld.MAC_PAUSE_CFG_MODE = 2 then 16 else 15) =
          trunc 64 (counter s (.mac n) (if cfg s (.mac n) Fld.MAC_PAUSE_CFG_MODE = 2 then 16 else 15) + 1)) ∧
      (ctlReady s n = false → (pauseOf u n).due = true ∧ u.cnt = s.cnt ∧ u.rs = s.rs) ∧
      { u with now := s.now, cnt := s.cnt, tm := s.tm, rs := s.rs } = s)

/-- R155, R156, R158: PCS and FEC lock complete the conditions of a link; when a condition fails the frame in reception
and the one in transmission end, pause timers clear and LINK_DOWN is set, each loss of FEC lock sets FEC_UNLOCK, and a
high error rate takes no lock; remote fault shows while it lasts, and at its end a pause or PFC frame that is due goes.
Readings and choices of the model that it uses: log entries 35, 187, 188. -/
def Obligations.PortLinks : Prop :=
  (∀ (s : State) (n t : Nat), portEnabled s n = true → lanesReady s n = true → hoopFenced s (n / 32) = false →
    (if isAld s n = true then lstate s n = 0 else linkUp s n = false) →
    completes (.linkUp n t) s fun u =>
      rd u (.mac n) Fld.MAC_STATUS_PCS_LOCK = 1 ∧ rd u (.mac n) Fld.MAC_STATUS_HI_BER = 0 ∧
      rd u (.mac n) Fld.MAC_STATUS_FEC_LOCK = (if 2 ≤ cfg s (.mac n) Fld.MAC_PORT_CFG_FEC then 1 else 0) ∧
      pauseOf u n = { ignore := (pauseOf s n).ignore } ∧ tabFind u.pwr.det n = none ∧
      (isAld s n = false → rd u (.mac n) Fld.MAC_STATUS_LINK_UP = 1) ∧
      (isAld s n = true → fenced s (.mac n) = false → rd u (.mac n) Fld.MAC_ALD_STAT_LSTATE = 1) ∧
      { u with now := s.now, reg := s.reg, tm := s.tm, ald := s.ald, pwr := s.pwr } = s ∧
      { u.pwr with det := s.pwr.det } = s.pwr ∧
      regsKept s u (on (.mac n) [Fld.MAC_STATUS_PCS_LOCK, Fld.MAC_STATUS_HI_BER, Fld.MAC_STATUS_FEC_LOCK,
        Fld.MAC_STATUS_LINK_UP, Fld.MAC_ALD_STAT_LSTATE])) ∧
  (∀ (s : State) (n t : Nat) (hiBer : Bool), n < 1024 → rdB s (.mac n) Fld.MAC_STATUS_PCS_LOCK = true →
    completes (.linkDown n t hiBer) s fun u =>
      rd u (.mac n) Fld.MAC_STATUS_LINK_UP = 0 ∧ rd u (.mac n) Fld.MAC_STATUS_RFAULT = 0 ∧
      (hiBer = false → rd u (.mac n) Fld.MAC_STATUS_PCS_LOCK = 0 ∧ rd u (.mac n) Fld.MAC_STATUS_FEC_LOCK = 0 ∧
        (rdB s (.mac n) Fld.MAC_STATUS_FEC_LOCK = true → rd u (.mac n) Fld.MAC_STICKY_FEC_UNLOCK = 1)) ∧
      rd u (.mac n) Fld.MAC_STATUS_TX_HELD = 0 ∧ (pauseOf u n).timer = [] ∧ (pauseOf u n).txHold = 0 ∧
      rxOf u n = none ∧ txOf u n = none ∧
      (linkUp s n = true → rd u (.mac n) Fld.MAC_STICKY_LINK_DOWN = 1) ∧
      (hiBer = true → rd u (.mac n) Fld.MAC_STATUS_HI_BER = 1 ∧ rd u (.mac n) Fld.MAC_STICKY_HI_BER = 1 ∧
        rd u (.mac n) Fld.MAC_STATUS_PCS_LOCK = rd s (.mac n) Fld.MAC_STATUS_PCS_LOCK ∧
        rd u (.mac n) Fld.MAC_STATUS_FEC_LOCK = rd s (.mac n) Fld.MAC_STATUS_FEC_LOCK ∧
        rd u (.mac n) Fld.MAC_STICKY_FEC_UNLOCK = rd s (.mac n) Fld.MAC_STICKY_FEC_UNLOCK) ∧
      (txOf s n ≠ none → counter u (.mac n) 18 = trunc 64 (counter s (.mac n) 18 + 1)) ∧
      { u with now := s.now, reg := s.reg, cnt := s.cnt, tm := s.tm, rs := s.rs, irqLevel := s.irqLevel,
               msgs := s.msgs, msixPend := s.msixPend } = s) ∧
  (∀ (s : State) (n t : Nat), n < 1024 → rdB s (.mac n) Fld.MAC_STATUS_FEC_LOCK = true →
    completes (.fecUnlock n t) s fun u =>
      rd u (.mac n) Fld.MAC_STATUS_FEC_LOCK = 0 ∧ rd u (.mac n) Fld.MAC_STICKY_FEC_UNLOCK = 1 ∧
      rd u (.mac n) Fld.MAC_STATUS_LINK_UP = 0 ∧
      { u with now := s.now, reg := s.reg, cnt := s.cnt, tm := s.tm, rs := s.rs, irqLevel := s.irqLevel,
               msgs := s.msgs, msixPend := s.msixPend } = s) ∧
  (∀ (s : State) (n : Nat), linkUp s n = true → isAld s n = false →
    completes (.remoteFaultRx n) s fun u =>
      rd u (.mac n) Fld.MAC_STATUS_RFAULT = 1 ∧ rd u (.mac n) Fld.MAC_STICKY_RFAULT = 1 ∧
      onlyRegsIrq s u (on (.mac n) [Fld.MAC_STATUS_RFAULT, Fld.MAC_STICKY_RFAULT])) ∧
  (∀ (s : State) (n : Nat), completes (.remoteFaultEnd n) s fun u =>
      rd u (.mac n) Fld.MAC_STATUS_RFAULT = 0 ∧
      (if (pauseOf s n).due = true ∧ linkUp s n = true ∧ txOf s n = none then
        (pauseOf u n).due = false ∧ (pauseOf u n).txAt = s.now ∧
        counter u (.mac n) (if cfg s (.mac n) Fld.MAC_PAUSE_CFG_MODE = 2 then 16 else 15) =
          trunc 64 (counter s (.mac n) (if cfg s (.mac n) Fld.MAC_PAUSE_CFG_MODE = 2 then 16 else 15) + 1) ∧
        { u with reg := s.reg, cnt := s.cnt, tm := s.tm, rs := s.rs } = s ∧
        regsKept s u (on (.mac n) [Fld.MAC_STATUS_RFAULT])
      else onlyRegs s u (on (.mac n) [Fld.MAC_STATUS_RFAULT])))

/-- R159 to R164, R345, R355: a piece of a frame joins what has come of it; at the last byte a frame is counted in
exactly one receive counter, the first row of Table 5.1 that matches, a frame with blocks that RS-FEC could not correct
as a code error (R158); the end of a transmission counts the frame, stomped where it ended bad or oversize, and leaves
the transmitter idle. Readings and choices of the model that it uses: log entries 31, 32, 33, 34, 189, 206. -/
def Obligations.PortFrames : Prop :=
  (∀ (s : State) (n t : Nat) (b : List Nat) (overrun : Bool) (fec : List Nat), n < 1024 → linkUp s n = true →
    isAld s n = false →
    completes (.rxFrame n t b .more overrun fec) s fun u =>
      (∃ x, rxOf u n = some x ∧ x.all = ((rxOf s n).map (·.all)).getD [] ++ b) ∧
      (∀ i ∈ [0, 2, 3, 4, 5, 6, 7, 8, 9, 10], counter u (.mac n) i = counter s (.mac n) i) ∧
      { u with now := s.now, reg := s.reg, cnt := s.cnt, tm := s.tm, rs := s.rs, irqLevel := s.irqLevel,
               msgs := s.msgs, msixPend := s.msixPend } = s) ∧
  (∀ (s : State) (n t w : Nat) (b : List Nat) (overrun : Bool) (fec : List Nat), n < 1024 → linkUp s n = true →
    isAld s n = false →
    completes (.rxFrame n t b (.fcs w) overrun fec) s fun u =>
      let k := if fecBad s n fec = true ∨ (∃ x, rxOf s n = some x ∧ x.err = true) then 4
        else rxCounter s n (((rxOf s n).map (·.all)).getD [] ++ b) w
      rxOf u n = none ∧ counter u (.mac n) k = trunc 64 (counter s (.mac n) k + 1) ∧
      (∀ i ∈ [0, 2, 3, 4, 5, 6, 7, 8, 9, 10], i ≠ k → counter u (.mac n) i = counter s (.mac n) i) ∧
      { u with now := s.now, reg := s.reg, cnt := s.cnt, tm := s.tm, rs := s.rs, irqLevel := s.irqLevel,
               msgs := s.msgs, msixPend := s.msixPend } = s) ∧
  (∀ (s : State) (n t : Nat) (b : List Nat) (overrun : Bool) (fec : List Nat), n < 1024 → linkUp s n = true →
    isAld s n = false →
    completes (.rxFrame n t b .codeErr overrun fec) s fun u =>
      rxOf u n = none ∧ counter u (.mac n) 4 = trunc 64 (counter s (.mac n) 4 + 1) ∧
      (∀ i ∈ [0, 2, 3, 5, 6, 7, 8, 9, 10], counter u (.mac n) i = counter s (.mac n) i) ∧
      { u with now := s.now, reg := s.reg, cnt := s.cnt, tm := s.tm, rs := s.rs, irqLevel := s.irqLevel,
               msgs := s.msgs, msixPend := s.msixPend } = s) ∧
  (∀ (s : State) (n t : Nat) (errs : List MemErr) (x : TxSt), n < 1024 →
    txOf (errs.foldl rsxError (advance s t)) n = some x →
    (frm (errs.foldl rsxError (advance s t)) x.f).state ≠ 0 →
    completes (.txFrameComplete n t errs) s fun u =>
      let r := errs.foldl rsxError (advance s t)
      let stomp := (frm r x.f).state == 2 || (frm r x.f).oversize
      let b := withFcs (egressBytes (frm r x.f)) stomp
      txOf u n = none ∧ tabGet u.rs.sent [] n = b ∧ (linkOf u n).wait = [] ∧
      (stomp = true → counter u (.mac n) 17 = trunc 64 (counter s (.mac n) 17 + 1)) ∧
      (stomp = false → counter u (.mac n) 13 = trunc 64 (counter s (.mac n) 13 + 1) ∧
        counter u (.mac n) 14 = trunc 64 (counter s (.mac n) 14 + b.length)) ∧
      { u with now := s.now, reg := s.reg, cnt := s.cnt, ecc := s.ecc, tm := s.tm, rs := s.rs, ald := s.ald,
               irqLevel := s.irqLevel, msgs := s.msgs, msixPend := s.msixPend } = s)

/-- R200, R210, R211, R330: the pattern copy ends; a block of rule memory or a segment of the instruction store is
retired only from LIVE, unstaged only from STAGED and kept only while its retirement is pending, and not between a close
that has chosen it and the boundary; any other command is refused with ERR 2, or 6 where the close has chosen the block,
and changes no map entry. Readings and choices of the model that it uses: log entry 197. -/
def Obligations.BlockAndSegmentMaps : Prop :=
  (∀ (s : State) (h : Nat), completes (.prkSyncDone h) s fun t =>
    rd t (.prk h) Fld.PRK_STATUS_SYNC_BUSY = 0 ∧ onlyRegs s t (on (.prk h) [Fld.PRK_STATUS_SYNC_BUSY])) ∧
  (∀ (s : State) (p k : Nat),
    ∀ x ∈ ([(.clsRetire p k, fun b => b.state == 2, fun b => { b with retPend := true }, fun _ => 2),
        (.clsUnstage p k, fun b => !b.atClose && b.state == 1, fun _ => {}, fun b => if b.atClose then 6 else 2),
        (.clsKeep p k, fun b => !b.atClose && b.retPend, fun b => { b with retPend := false },
          fun b => if b.atClose then 6 else 2)] :
      List (Instr × (MapBlk → Bool) × (MapBlk → MapBlk) × (MapBlk → Nat))),
    transferErr s (.cls p) 4 k true = 0 →
    completes x.1 s fun t =>
      if x.2.1 (clsBlk s p k) = true then
        clsBlk t p k = x.2.2.1 (clsBlk s p k) ∧ { t with clsMap := s.clsMap } = s ∧
        ∀ j, 262144 * p + k ≠ j → tabFind t.clsMap j = tabFind s.clsMap j
      else rd t (.cls p) Fld.CLS_STICKY_RULE_REFUSED = 1 ∧ rd t (.cls p) Fld.PAGE_IND_CTRL_ERR = x.2.2.2 (clsBlk s p k) ∧
        rd t (.cls p) Fld.PAGE_HDR_STICKY_IND_ERROR = 1 ∧
        onlyRegsIrq s t (on (.cls p) [Fld.CLS_STICKY_RULE_REFUSED, Fld.PAGE_IND_CTRL_ERR,
          Fld.PAGE_HDR_STICKY_IND_ERROR])) ∧
  (∀ (s : State) (h k : Nat),
    ∀ x ∈ ([(.segRetire h k, fun b => b.state == 2, fun b => { b with retPend := true }, fun _ => 2),
        (.segUnstage h k, fun b => !b.atClose && b.state == 1, fun _ => {}, fun b => if b.atClose then 6 else 2),
        (.segKeep h k, fun b => !b.atClose && b.retPend, fun b => { b with retPend := false },
          fun b => if b.atClose then 6 else 2)] :
      List (Instr × (MapBlk → Bool) × (MapBlk → MapBlk) × (MapBlk → Nat))),
    transferErr s (.bobh h) 2 k true = 0 →
    completes x.1 s fun t =>
      if x.2.1 (segOf s h k) = true then
        segOf t h k = x.2.2.1 (segOf s h k) ∧ { t with bob := { t.bob with seg := s.bob.seg } } = s ∧
        ∀ j, 64 * h + k ≠ j → tabFind t.bob.seg j = tabFind s.bob.seg j
      else rd t (.bobh h) Fld.BOBH_STICKY_SEG_REFUSED = 1 ∧ rd t (.bobh h) Fld.PAGE_IND_CTRL_ERR = x.2.2.2 (segOf s h k) ∧
        rd t (.bobh h) Fld.PAGE_HDR_STICKY_IND_ERROR = 1 ∧
        onlyRegsIrq s t (on (.bobh h) [Fld.BOBH_STICKY_SEG_REFUSED, Fld.PAGE_IND_CTRL_ERR,
          Fld.PAGE_HDR_STICKY_IND_ERROR])) ∧
  (∀ (s : State) (p k : Nat), transferErr s (.cls p) 4 k true ≠ 0 →
    ∀ c ∈ [Instr.clsRetire p k, .clsUnstage p k, .clsKeep p k],
    completes c s fun t =>
      rd t (.cls p) Fld.PAGE_IND_CTRL_ERR = transferErr s (.cls p) 4 k true ∧
      onlyRegsIrq s t (on (.cls p) [Fld.PAGE_IND_CTRL_ERR, Fld.PAGE_HDR_STICKY_IND_ERROR])) ∧
  (∀ (s : State) (h k : Nat), transferErr s (.bobh h) 2 k true ≠ 0 →
    ∀ c ∈ [Instr.segRetire h k, .segUnstage h k, .segKeep h k],
    completes c s fun t =>
      rd t (.bobh h) Fld.PAGE_IND_CTRL_ERR = transferErr s (.bobh h) 2 k true ∧
      onlyRegsIrq s t (on (.bobh h) [Fld.PAGE_IND_CTRL_ERR, Fld.PAGE_HDR_STICKY_IND_ERROR]))

/-- R237 to R241: a learn event that arrives is late and goes out at once, meets a full sequencer and is dropped, or
joins the events held; the first event held is released to all eight panels when it is due; a panel applies the next
event released to it, which counts as exactly one of the outcomes of Table 8.3. Readings and choices of the model that
it uses: log entries 17, 18, 19, 198, 199. -/
def Obligations.FiletLearning : Prop :=
  (∀ (s : State) (k t : Nat) (e : LearnEv), s.learnFly[k]? = some e →
    completes (.learnEventArrival k t) s fun u =>
      u.learnFly = s.learnFly.eraseIdx k ∧ u.now = max s.now t ∧
      (if learnDue e < max s.now t then
        (∀ p < 8, tabGet u.learnPan [] p = tabGet s.learnPan [] p ++ [e]) ∧ u.learnSeq = s.learnSeq ∧
        rd u (.fil e.panel) Fld.FIL_STICKY_LEARN_LATE = 1 ∧
        counter u (.fil e.panel) 17 = trunc 64 (counter s (.fil e.panel) 17 + 1)
      else if 16384 ≤ s.learnSeq.length then
        u.learnPan = s.learnPan ∧ u.learnSeq = s.learnSeq ∧ rd u (.fil e.panel) Fld.FIL_STICKY_LEARN_DROP = 1 ∧
        counter u (.fil e.panel) 16 = trunc 64 (counter s (.fil e.panel) 16 + 1)
      else u.learnSeq.Perm (e :: s.learnSeq) ∧ u.learnPan = s.learnPan ∧ u.reg = s.reg ∧ u.cnt = s.cnt) ∧
      { u with now := s.now, learnFly := s.learnFly, learnSeq := s.learnSeq, learnPan := s.learnPan, reg := s.reg,
               cnt := s.cnt, irqLevel := s.irqLevel, msgs := s.msgs, msixPend := s.msixPend } = s ∧
      regsKept s u (on (.fil e.panel) [Fld.FIL_STICKY_LEARN_LATE, Fld.FIL_STICKY_LEARN_DROP])) ∧
  (∀ (s : State) (t : Nat) (e : LearnEv) (es : List LearnEv), s.learnSeq = e :: es → learnDue e ≤ max s.now t →
    completes (.learnRelease t) s fun u =>
      u.learnSeq = es ∧ (∀ p < 8, tabGet u.learnPan [] p = tabGet s.learnPan [] p ++ [e]) ∧ u.now = max s.now t ∧
      { u with now := s.now, learnSeq := s.learnSeq, learnPan := s.learnPan } = s) ∧
  (∀ (s : State) (p : Nat) (errs : List MemErr) (e : LearnEv) (es : List LearnEv), p < 8 →
    tabGet s.learnPan [] p = e :: es →
    completes (.learnApply p errs) s fun u =>
      tabGet u.learnPan [] p = es ∧ (∀ q, q ≠ p → tabGet u.learnPan [] q = tabGet s.learnPan [] q) ∧
      counter u (.fil p) 6 = trunc 64 (counter s (.fil p) 6 + 1) ∧
      (∃ k ∈ [7, 8, 9, 10, 11, 14], counter u (.fil p) k = trunc 64 (counter s (.fil p) k + 1) ∧
        ∀ j ∈ [7, 8, 9, 10, 11, 14], j ≠ k → counter u (.fil p) j = counter s (.fil p) j) ∧
      (∀ q, q ≠ p → ∀ l < 2097152, filEnt u q l = filEnt s q l) ∧
      { u with learnPan := s.learnPan, fil := s.fil, ecc := s.ecc, reg := s.reg, cnt := s.cnt, irqLevel := s.irqLevel,
               msgs := s.msgs, msixPend := s.msixPend } = s)

/-- R245, R247, R248: SEARCH returns the entry of its key, a staged add before an entry in force; NEXT returns the first
valid entry from the walk position on that passes the filters and moves the position behind it; neither changes an
entry, and a reserved key type or CLS_SEL 3 ends REFUSED. R258: an entry in uncorrectable error that a command meets is
cleared, counted and located. Readings and choices of the model that it uses: log entries 17, 142. -/
def Obligations.FiletSearches : Prop :=
  (∀ (s : State) (p : Nat) (errs : List MemErr), rdB s (.fil p) Fld.FIL_CMD_STAT_BUSY = false → tabRising none s.fil = true →
    completes (.filSearch p errs) s fun t =>
      let m := filErrs s p errs
      let r := rd t (.fil p) Fld.FIL_CMD_STAT_RESULT
      let l := rd t (.fil p) Fld.FIL_CMD_STAT_LOC
      rd t (.fil p) Fld.FIL_CMD_STAT_BUSY = 0 ∧
      (3 ≤ filKey m p / 2 ^ 60 → r = 5 ∧ rd t (.fil p) Fld.FIL_STICKY_CMD_REFUSED = 1) ∧
      (filKey m p / 2 ^ 60 < 3 →
        (r = 0 ∧ filAt m p l ∧ ((filEnt m p l).stg = 1 ∨ ∀ k, filAt m p k → (filEnt m p k).stg ≠ 1) ∧
          (∀ i < 4, rd t (.fil p) (Fld.FIL_CMD_OUT_WORDn i) = trunc 32 ((filWords (filEnt m p l)).getD i 0))) ∨
        (r = 1 ∧ ∀ k, ¬ filAt m p k)) ∧
      onlyRegsIrq m t (on (.fil p) ([Fld.FIL_CMD_STAT_BUSY, Fld.FIL_CMD_STAT_RESULT, Fld.FIL_CMD_STAT_LOC,
        Fld.FIL_STICKY_CMD_REFUSED] ++ (List.range 4).map Fld.FIL_CMD_OUT_WORDn))) ∧
  (∀ (s : State) (p : Nat) (errs : List MemErr), rdB s (.fil p) Fld.FIL_CMD_STAT_BUSY = false →
    completes (.filNext p errs) s fun t =>
      let m := filErrs s p errs
      let r := rd t (.fil p) Fld.FIL_CMD_STAT_RESULT
      let pos := bk m (.fil p) Fld.FIL_WALK_POS_POS
      let fits (e : Nat × FilEnt) : Bool := decide (pos ≤ e.1) && filSel m p e.2 && filVidOk m p e.2 &&
        (bk m (.fil p) Fld.FIL_CMD_ARG_PORT_EN == 0 || filAtPort m p e.2)
      rd t (.fil p) Fld.FIL_CMD_STAT_BUSY = 0 ∧
      (bk m (.fil p) Fld.FIL_CMD_ARG_CLS_SEL = 3 → r = 5 ∧ rd t (.fil p) Fld.FIL_STICKY_CMD_REFUSED = 1) ∧
      (bk m (.fil p) Fld.FIL_CMD_ARG_CLS_SEL ≠ 3 →
        (r = 0 ∧ ∃ e ∈ filList m p, fits e = true ∧ rd t (.fil p) Fld.FIL_CMD_STAT_LOC = trunc 21 e.1 ∧
          bk t (.fil p) Fld.FIL_WALK_POS_POS = trunc 21 (e.1 + 1) ∧
          (∀ i < 4, rd t (.fil p) (Fld.FIL_CMD_OUT_WORDn i) = trunc 32 ((filWords (filEnt m p e.1)).getD i 0))) ∨
        (r = 3 ∧ bk t (.fil p) Fld.FIL_WALK_POS_POS = 0 ∧ ∀ e ∈ filList m p, fits e = false)) ∧
      { t with reg := m.reg, blk := m.blk, irqLevel := m.irqLevel, msgs := m.msgs, msixPend := m.msixPend } = m) ∧
  (∀ (s : State) (p l : Nat), p < 8 → l < 1056768 →
    completes (.filSearch p [.filet l true]) s fun t =>
      filEnt t p l = { filEnt s p l with valid := false } ∧
      (∀ k < 1056768, k ≠ l → filEnt t p k = filEnt s p k) ∧
      counter t (.fil p) 22 = trunc 64 (counter s (.fil p) 22 + 1) ∧ rd t (.fil p) Fld.FIL_ERR_LOC_VALID = 1 ∧
      rd t (.fil p) Fld.FIL_ERR_LOC_LOC = l ∧ rd t (.fil p) Fld.FIL_STICKY_ECC_UNCORR = 1)

/-- R250: DELETE of a key with STG 1 frees the staged entry at once and counts no staged change; of one with STG 0 it
gives the entry STG 2, or ends STAGE_FULL; of a key that is absent or present only with STG 2 it ends NOT_FOUND; one of
a reserved type ends REFUSED. No other entry changes. Readings and choices of the model that it uses: log entries 17,
142. -/
def Obligations.FiletDeletes : Prop :=
  ∀ (s : State) (p : Nat) (errs : List MemErr), rdB s (.fil p) Fld.FIL_CMD_STAT_BUSY = false → filWaits s p = false →
    tabRising none s.fil = true →
    completes (.filDelete p errs) s fun t =>
      let m := filErrs s p errs
      let r := rd t (.fil p) Fld.FIL_CMD_STAT_RESULT
      let l := rd t (.fil p) Fld.FIL_CMD_STAT_LOC
      rd t (.fil p) Fld.FIL_CMD_STAT_BUSY = 0 ∧ (r = 5 ↔ 3 ≤ filKey m p / 2 ^ 60) ∧
      (filKey m p / 2 ^ 60 < 3 →
        ((∃ k, filAt m p k ∧ (filEnt m p k).stg = 1) → r = 0 ∧ (filEnt m p l).stg = 1) ∧
        ((∀ k, filAt m p k → (filEnt m p k).stg ≠ 1) → (∃ k, filAt m p k ∧ (filEnt m p k).stg = 0) →
          (r = 0 ∧ (filEnt m p l).stg = 0) ∨ (r = 4 ∧ 65536 ≤ filStaged m p)) ∧
        ((∀ k, filAt m p k → (filEnt m p k).stg ≠ 0 ∧ (filEnt m p k).stg ≠ 1) → r = 1)) ∧
      (r = 0 → filAt m p l ∧
        ((filEnt m p l).stg = 1 ∧ filEnt t p l = { filEnt m p l with valid := false } ∨
         (filEnt m p l).stg = 0 ∧ filEnt t p l = { filEnt m p l with stg := 2 }) ∧
        ∀ k, k ≠ 2097152 * p + l → tabGet t.fil {} k = tabGet m.fil {} k) ∧
      (r = 0 → (filEnt m p l).stg = 1 → filStaged t p + 1 = filStaged m p) ∧ (r ≠ 0 → t.fil = m.fil) ∧
      { t with fil := m.fil, ecc := m.ecc, reg := m.reg, irqLevel := m.irqLevel, msgs := m.msgs,
               msixPend := m.msixPend } = m

/-- R249 to R254: INSERT stages an add and, over an entry in force of its key, a delete, or ends REFUSED, STAGE_FULL or
FULL without a change to what software sees; FLUSH_BY_PORT stages deletes of matching entries; DISCARD_STAGED withdraws
every staged change; from the close to the end of the cleanup a command that changes entries waits with BUSY 1, and runs
then; the errors that a command meets in its memory are handled first (R258). Readings and choices of the model that it
uses: log entries 17, 21, 142, 200. -/
def Obligations.FiletChanges : Prop :=
  (∀ (s : State) (p : Nat) (errs : List MemErr), rdB s (.fil p) Fld.FIL_CMD_STAT_BUSY = false → filWaits s p = false →
    completes (.filInsert p errs) s fun t =>
      let m := filErrs s p errs
      let r := rd t (.fil p) Fld.FIL_CMD_STAT_RESULT
      let l := rd t (.fil p) Fld.FIL_CMD_STAT_LOC
      let dk := bk m (.fil p) Fld.FIL_CMD_DATA_DK
      let dest := bk m (.fil p) Fld.FIL_CMD_DATA_DEST
      rd t (.fil p) Fld.FIL_CMD_STAT_BUSY = 0 ∧
      (r = 5 ↔ 3 ≤ filKey m p / 2 ^ 60 ∨ dk = 3 ∨ (dk = 0 ∧ portReserved (bits dest 10 0) = true) ∨
        (dk = 1 ∧ groupHeld m dest = false)) ∧
      (r = 0 ∨ r = 2 ∨ r = 4 ∨ r = 5) ∧
      (r = 0 → filEnt t p l = { valid := true, user := true, key := filKey m p, stg := 1, dk := dk, dest := dest }) ∧
      (r = 0 → tabRising none s.fil = true → (∃ k, filAt m p k ∧ (filEnt m p k).stg = 0) →
        (∀ k, filAt m p k → (filEnt m p k).stg ≠ 1) →
        ∃ o, (filEnt t p o).valid = true ∧ (filEnt t p o).key = filKey m p ∧ (filEnt t p o).stg = 2) ∧
      (r ≠ 0 → t.fil = m.fil) ∧
      { t with fil := m.fil, ecc := m.ecc, reg := m.reg, cnt := m.cnt, irqLevel := m.irqLevel, msgs := m.msgs,
               msixPend := m.msixPend } = m) ∧
  (∀ (s : State) (p : Nat) (errs : List MemErr), rdB s (.fil p) Fld.FIL_CMD_STAT_BUSY = false → filWaits s p = false →
    tabRising none s.fil = true →
    completes (.flushByPort p errs) s fun t =>
      let m := filErrs s p errs
      let r := rd t (.fil p) Fld.FIL_CMD_STAT_RESULT
      let hit (l : Nat) : Bool := decide (bk m (.fil p) Fld.FIL_WALK_POS_POS ≤ l) && (filEnt m p l).valid
        && (filEnt m p l).stg == 0 && filAtPort m p (filEnt m p l) && filSel m p (filEnt m p l)
        && filVidOk m p (filEnt m p l)
      rd t (.fil p) Fld.FIL_CMD_STAT_BUSY = 0 ∧
      (bk m (.fil p) Fld.FIL_CMD_ARG_CLS_SEL = 3 → r = 5 ∧ t.fil = m.fil) ∧
      (bk m (.fil p) Fld.FIL_CMD_ARG_CLS_SEL ≠ 3 → (r = 0 ∨ r = 4) ∧
        (∀ l < 2097152, filEnt t p l = filEnt m p l ∨ hit l = true ∧ filEnt t p l = { filEnt m p l with stg := 2 }) ∧
        (r = 0 → ∀ l < 2097152, hit l = true → (filEnt t p l).stg = 2)) ∧
      { t with fil := m.fil, ecc := m.ecc, reg := m.reg, blk := m.blk, irqLevel := m.irqLevel, msgs := m.msgs,
               msixPend := m.msixPend } = m) ∧
  (∀ (s : State) (p : Nat) (errs : List MemErr), rdB s (.fil p) Fld.FIL_CMD_STAT_BUSY = false → filWaits s p = false →
    tabRising none s.fil = true →
    completes (.filDiscardStaged p errs) s fun t =>
      let m := filErrs s p errs
      rd t (.fil p) Fld.FIL_CMD_STAT_BUSY = 0 ∧ rd t (.fil p) Fld.FIL_CMD_STAT_RESULT = 0 ∧
      (∀ l < 2097152, filEnt t p l =
        if (filEnt m p l).valid = true ∧ (filEnt m p l).stg = 1 then { filEnt m p l with valid := false }
        else if (filEnt m p l).valid = true ∧ (filEnt m p l).stg = 2 then { filEnt m p l with stg := 0 }
        else filEnt m p l) ∧
      { t with fil := m.fil, ecc := m.ecc, reg := m.reg } = m) ∧
  (∀ (s : State) (p : Nat) (errs : List MemErr), rdB s (.fil p) Fld.FIL_CMD_STAT_BUSY = false → filWaits s p = true →
    ∀ x ∈ [(Instr.filInsert p errs, 3), (.filDelete p errs, 4), (.flushByPort p errs, 5), (.filDiscardStaged p errs, 6)],
    completes x.1 s fun t =>
      rd t (.fil p) Fld.FIL_CMD_STAT_BUSY = 1 ∧ tabGet t.filWait 0 p = x.2 ∧
      { t with reg := (filErrs s p errs).reg, filWait := s.filWait } = filErrs s p errs ∧
      regsKept (filErrs s p errs) t (on (.fil p) [Fld.FIL_CMD_STAT_BUSY])) ∧
  (∀ (s : State) (p : Nat), completes (.filCleanupDone p) s fun t =>
    rd t (.fil p) Fld.FIL_STATUS_CLEANUP = 0 ∧ onlyRegs s t (on (.fil p) [Fld.FIL_STATUS_CLEANUP])) ∧
  (∀ (s : State) (p : Nat) (errs : List MemErr), tabGet s.filWait 0 p ≠ 0 → filWaits s p = false →
    completes (.filCmdResume p errs) s fun t =>
      tabGet t.filWait 0 p = 0 ∧ rd t (.fil p) Fld.FIL_CMD_STAT_BUSY = 0 ∧
      { t with filWait := s.filWait, fil := s.fil, ecc := s.ecc, reg := s.reg, blk := s.blk, cnt := s.cnt,
               irqLevel := s.irqLevel, msgs := s.msgs, msixPend := s.msixPend } = s)

/-- R308, R297: the arithmetic of format R. rd takes the result of rs1 and rs2 as 64-bit words, shifts taken modulo 64,
a write to g0 is discarded, and the thread goes on at the next word. R308: the arithmetic of format I, with a 16-bit
immediate that ADDI and LUI extend by its sign and ANDI, ORI and XORI by zeros; SHIFTI shifts by its low six bits; INSI
puts the immediate into one 16-bit lane of rd. -/
def Obligations.BobbinArithmetic : Prop :=
  (∀ (s : State) (b t t4 : Nat) (e : BobErr) (w : Nat), regs64 s b t →
   ∀ x ∈ ([(.bobAdd b t t4 e, .add, fun x y => x + y), (.bobSub b t t4 e, .sub, fun x y => x - y),
       (.bobAnd b t t4 e, .and, fun x y => x &&& y), (.bobOr b t t4 e, .or, fun x y => x ||| y),
       (.bobXor b t t4 e, .xor, fun x y => x ^^^ y), (.bobShl b t t4 e, .shl, fun x y => x <<< (y.toNat % 64)),
       (.bobShr b t t4 e, .shr, fun x y => x >>> (y.toNat % 64)),
       (.bobSar b t t4 e, .sar, fun x y => x.sshiftRight (y.toNat % 64)), (.bobMul b t t4 e, .mul, fun x y => x * y),
       (.bobMulhu b t t4 e, .mulhu, fun x y => BitVec.ofNat 64 (x.toNat * y.toNat / 2 ^ 64)),
       (.bobMin b t t4 e, .min, fun x y => if x.sle y then x else y),
       (.bobMax b t t4 e, .max, fun x y => if x.sle y then y else x),
       (.bobMinu b t t4 e, .minu, fun x y => if x.ule y then x else y),
       (.bobMaxu b t t4 e, .maxu, fun x y => if x.ule y then y else x),
       (.bobSlt b t t4 e, .slt, fun x y => if x.slt y then 1 else 0),
       (.bobSltu b t t4 e, .sltu, fun x y => if x.ult y then 1 else 0),
       (.bobPopcnt b t t4 e, .popcnt, fun x _ => BitVec.ofNat 64 ((List.range 64).countP (fun i => x.getLsbD i))),
       (.bobBswap b t t4 e, .bswap, fun x _ =>
         BitVec.ofNat 64 (((List.range 8).map (fun i => x.toNat / 256 ^ i % 256 * 256 ^ (7 - i))).foldl (· + ·) 0))] :
     List (Instr × BobOp × (BitVec 64 → BitVec 64 → BitVec 64))),
   issues s b t e w x.2.1 →
     completes x.1 s fun u =>
       bobWrites s u b t t4 (fRd w) (x.2.2 (gWord s b t (fRs1 w)) (gWord s b t (fRs2 w))).toNat ((thrOf s b t).pc + 1) []) ∧
  (∀ (s : State) (b t t4 : Nat) (e : BobErr) (w : Nat), regs64 s b t →
   ∀ x ∈ ([(.bobAddi b t t4 e, .addi, fun x i => x + i.signExtend 64),
       (.bobAndi b t t4 e, .andi, fun x i => x &&& i.setWidth 64), (.bobOri b t t4 e, .ori, fun x i => x ||| i.setWidth 64),
       (.bobXori b t t4 e, .xori, fun x i => x ^^^ i.setWidth 64),
       (.bobShiftiShl b t t4 e, .shiftiShl, fun x i => x <<< (i.toNat % 64)),
       (.bobShiftiShr b t t4 e, .shiftiShr, fun x i => x >>> (i.toNat % 64)),
       (.bobShiftiSar b t t4 e, .shiftiSar, fun x i => x.sshiftRight (i.toNat % 64)),
       (.bobLui b t t4 e, .lui, fun _ i => i.signExtend 64 <<< 16),
       (.bobInsi b t t4 e, .insi, fun _ i =>
         let k := 16 * (fRs1 w % 4)
         (gWord s b t (fRd w) &&& ~~~((0xFFFF : BitVec 64) <<< k)) ||| (i.setWidth 64 <<< k))] :
     List (Instr × BobOp × (BitVec 64 → BitVec 16 → BitVec 64))),
   issues s b t e w x.2.1 →
     completes x.1 s fun u =>
       bobWrites s u b t t4 (fRd w) (x.2.2 (gWord s b t (fRs1 w)) (BitVec.ofNat 16 w)).toNat ((thrOf s b t).pc + 1) [])

/-- R308, R297: the compares branch to the instruction's own address plus the signed offset, modulo 65,536, or go on at
the next word, and write nothing; JAL writes the address of the next instruction to g31, JR to rd. R308, R326, R327: an
illegal instruction, and a fetch outside a LIVE or RETIRE segment, fence the bobbin: reason, thread and program counter
are recorded, its threads lose their work and its queues are emptied. Readings and choices of the model that it uses:
log entries 50, 51. -/
def Obligations.BobbinBranchesAndFaults : Prop :=
  (∀ (s : State) (b t t4 : Nat) (e : BobErr) (w : Nat), regs64 s b t →
    ∀ x ∈ ([(.bobBeq b t t4 e, .beq, fun x y => x == y), (.bobBne b t t4 e, .bne, fun x y => !(x == y)),
        (.bobBlt b t t4 e, .blt, fun x y => x.slt y), (.bobBge b t t4 e, .bge, fun x y => y.sle x),
        (.bobBltu b t t4 e, .bltu, fun x y => x.ult y), (.bobBgeu b t t4 e, .bgeu, fun x y => y.ule x)] :
      List (Instr × BobOp × (BitVec 64 → BitVec 64 → Bool))),
    issues s b t e w x.2.1 →
      completes x.1 s fun u =>
        (∀ r, gReg u b t r = gReg s b t r) ∧
        goesOn s u b t (if x.2.2 (gWord s b t (fRd w)) (gWord s b t (fRs1 w)) = true
          then (BitVec.ofNat 16 (thrOf s b t).pc + BitVec.ofNat 16 w).toNat else (thrOf s b t).pc + 1) ∧
        bobThreads s u ∧ bobOnly s u b t4 []) ∧
  (∀ (s : State) (b t t4 : Nat) (e : BobErr) (w : Nat), issues s b t e w .jal →
    completes (.bobJal b t t4 e) s fun u =>
      bobWrites s u b t t4 31 ((thrOf s b t).pc + 1)
        ((BitVec.ofNat 16 (thrOf s b t).pc + BitVec.ofNat 16 w).toNat) []) ∧
  (∀ (s : State) (b t t4 : Nat) (e : BobErr) (w : Nat), issues s b t e w .jr →
    completes (.bobJr b t t4 e) s fun u =>
      bobWrites s u b t t4 (fRd w) ((thrOf s b t).pc + 1)
        ((BitVec.ofNat 16 (gReg s b t (fRs1 w)) + BitVec.ofNat 16 w).toNat) []) ∧
  (∀ (s : State) (b t t4 : Nat) (e : BobErr), b < 512 → t < 4 → canIssue s b t = true → e ≠ .store true →
    2 ≤ (segOf s (b / 16) ((thrOf s b t).pc / 1024)).state → storeBad s (b / 16) 1 (thrOf s b t).pc = false →
    bobOp (word s (.bobh (b / 16)) 1 (thrOf s b t).pc) = none →
    completes (.illegalInstruction b t t4 e) s fun u =>
      rd u (.bob b) Fld.PAGE_FENCE_FENCED = 1 ∧ rd u (.bob b) Fld.PAGE_FENCE_CAUSE_CAUSE = 2 ∧
      rd u (.bob b) Fld.PAGE_FENCE_CAUSE_DETAIL = 6 * 2 ^ 8 + t * 2 ^ 14 ∧ rd u (.bob b) Fld.BOB_FAULT_PC_VALID = 1 ∧
      rd u (.bob b) Fld.BOB_FAULT_PC_THREAD = t ∧ rd u (.bob b) Fld.BOB_FAULT_PC_PC = trunc 16 (thrOf s b t).pc ∧
      rd u (.bob b) Fld.BOB_FAULT_ADDR_ADDR = trunc 32 (word s (.bobh (b / 16)) 1 (thrOf s b t).pc) ∧
      rd u (.bob b) Fld.BOB_STATUS_STITCH_RUN = 0 ∧
      (∀ r < 4, (thrOf u b r).work = .idle) ∧ fqOf u b = [] ∧ fwaitOf u b = [] ∧ tabGet u.evq [] b = [] ∧
      u.bob.acc = s.bob.acc ∧ u.bob.lm = s.bob.lm) ∧
  (∀ (s : State) (b t t4 : Nat) (e : BobErr), b < 512 → t < 4 → canIssue s b t = true →
    (segOf s (b / 16) ((thrOf s b t).pc / 1024)).state < 2 →
    completes (.illegalInstruction b t t4 e) s fun u =>
      rd u (.bob b) Fld.PAGE_FENCE_FENCED = 1 ∧ rd u (.bob b) Fld.PAGE_FENCE_CAUSE_CAUSE = 2 ∧
      rd u (.bob b) Fld.PAGE_FENCE_CAUSE_DETAIL = 7 * 2 ^ 8 + t * 2 ^ 14)

/-- R305, R308, R318: a load or store of local memory is little-endian, aligned and inside 16 KiB; a misaligned one or
one past the end fences the bobbin with reason 8 (R326); one that meets a read in flight waits where it is; LDI reads a
word of the instruction store at its own address plus the immediate. -/
def Obligations.BobbinLocalMemory : Prop :=
  (∀ (s : State) (b t t4 : Nat) (e : BobErr) (w : Nat), e ≠ .mem true →
    ∀ x ∈ [(Instr.bobLd b t t4 e, BobOp.ld, 8), (Instr.bobLw b t t4 e, BobOp.lw, 4)],
    issues s b t e w x.2.1 →
    let a := unsigned 64 ((gReg s b t (fRs1 w) : Int) + fSimm w)
    a % x.2.2 = 0 → a + x.2.2 ≤ 16384 →
    completes x.1 s fun u =>
      if interlocked s b a x.2.2 = true then (∀ c r, thrOf u c r = thrOf s c r) ∧ u.bob = s.bob ∧ bobOnly s u b t4 []
      else bobWrites s u b t t4 (fRd w) (leNat (lmRead s b a x.2.2)) ((thrOf s b t).pc + 1) [cntKey (.bob b) 15]) ∧
  (∀ (s : State) (b t t4 : Nat) (e : BobErr) (w : Nat), e ≠ .mem true →
    ∀ x ∈ [(Instr.bobSd b t t4 e, BobOp.sd, 8), (Instr.bobSw b t t4 e, BobOp.sw, 4)],
    issues s b t e w x.2.1 →
    let a := unsigned 64 ((gReg s b t (fRs1 w) : Int) + fSimm w)
    a % x.2.2 = 0 → a + x.2.2 ≤ 16384 →
    completes x.1 s fun u =>
      if interlocked s b a x.2.2 = true then (∀ c r, thrOf u c r = thrOf s c r) ∧ u.bob = s.bob ∧ bobOnly s u b t4 []
      else
        leNat (lmRead u b a x.2.2) = gReg s b t (fRd w) % 256 ^ x.2.2 ∧
        (∀ k, k < 16384 * b + a ∨ 16384 * b + a + x.2.2 ≤ k → tabGet u.bob.lm 0 k = tabGet s.bob.lm 0 k) ∧
        (∀ r, gReg u b t r = gReg s b t r) ∧ goesOn s u b t ((thrOf s b t).pc + 1) ∧
        { u.bob with thr := s.bob.thr, perf := s.bob.perf, lm := s.bob.lm } = s.bob ∧
        bobOnly s u b t4 [cntKey (.bob b) 15]) ∧
  (∀ (s : State) (b t t4 : Nat) (e : BobErr) (w : Nat), b < 512 →
    ∀ x ∈ [(Instr.bobLd b t t4 e, BobOp.ld, 8), (Instr.bobLw b t t4 e, BobOp.lw, 4),
      (Instr.bobSd b t t4 e, BobOp.sd, 8), (Instr.bobSw b t t4 e, BobOp.sw, 4)],
    issues s b t e w x.2.1 →
    let a := unsigned 64 ((gReg s b t (fRs1 w) : Int) + fSimm w)
    a % x.2.2 ≠ 0 ∨ 16384 < a + x.2.2 →
    completes x.1 s fun u =>
      rd u (.bob b) Fld.PAGE_FENCE_FENCED = 1 ∧ rd u (.bob b) Fld.PAGE_FENCE_CAUSE_CAUSE = 2 ∧
      rd u (.bob b) Fld.PAGE_FENCE_CAUSE_DETAIL = trunc 24 (8 * 2 ^ 8 + t * 2 ^ 14) ∧
      rd u (.bob b) Fld.BOB_FAULT_PC_VALID = 1 ∧ rd u (.bob b) Fld.BOB_FAULT_PC_THREAD = t ∧
      rd u (.bob b) Fld.BOB_FAULT_PC_PC = trunc 16 (thrOf s b t).pc ∧ u.bob.lm = s.bob.lm) ∧
  (∀ (s : State) (b t t4 : Nat) (e : BobErr) (w : Nat), issues s b t e w .ldi →
    let a := unsigned 16 (((thrOf s b t).pc : Int) + fSimm w)
    storeBad s (b / 16) 1 a = false →
    completes (.bobLdi b t t4 e) s fun u =>
      bobWrites s u b t t4 (fRd w) (word s (.bobh (b / 16)) 1 a) ((thrOf s b t).pc + 1) [])

/-- R308, R337, R415: the TIME, RDPERF and RDID reads. TIME gives Sampler time in ns, the stitch count, the time since
the last boundary, the commit epoch, or the time status with STEP_SEQ; RDPERF gives a counter or, where the handler may
not read it, 0 with PERF_DENIED; RDID gives bobbin and thread. a counter that counts clocks reads a free value (R335).
PERF_CLR clears the eight counters, and one that wraps sets its bit of PERF_WRAP; one that counts clocks can wrap only
once enough clocks have passed. Readings and choices of the model that it uses: log entries 52, 177. -/
def Obligations.BobbinReads : Prop :=
  (∀ (s : State) (b t t4 : Nat) (e : BobErr) (w : Nat),
    ∀ x ∈ [(Instr.bobTimeNs b t t4 e, BobOp.timeNs, max s.now t4 / 4), (Instr.bobTimeStitch b t t4 e, .timeStitch, s.stitch),
      (Instr.bobTimePhase b t t4 e, .timePhase, max s.now t4 / 4 - s.bndAt / 4),
      (Instr.bobTimeEpoch b t t4 e, .timeEpoch, s.epoch),
      (Instr.bobTimeStatus b t t4 e, .timeStatus,
        rd s .tod Fld.SMP_TOD_STAT_STATUS + rd s .tod Fld.SMP_STEP_SEQ_STEP_SEQ * 2 ^ 32),
      (Instr.bobRdid b t t4 e, .rdid, b + 512 * t)],
    issues s b t e w x.2.1 →
    completes x.1 s fun u => bobWrites s u b t t4 (fRd w) x.2.2 ((thrOf s b t).pc + 1) []) ∧
  (∀ (s : State) (b t t4 : Nat) (e : BobErr) (w : Nat), issues s b t e w .rdperf → (thrOf s b t).perfRd = true →
    perfClocked s b (bits w 2 0) = false →
    completes (.bobRdperf b t t4 e) s fun u =>
      bobWrites s u b t t4 (fRd w) (perfOf s b (bits w 2 0)) ((thrOf s b t).pc + 1) []) ∧
  (∀ (s : State) (b t t4 : Nat) (e : BobErr) (w : Nat), issues s b t e w .rdperf → (thrOf s b t).perfRd = true →
    perfClocked s b (bits w 2 0) = true →
    completes (.bobRdperf b t t4 e) s fun u =>
      gSet s u b t (fRd w) (trunc 48 (Config.free 3 s.fresh)) ∧ u.fresh = s.fresh + 1 ∧
      goesOn s u b t ((thrOf s b t).pc + 1) ∧ bobThreads s u) ∧
  (∀ (s : State) (b t t4 : Nat) (e : BobErr) (w : Nat), issues s b t e w .rdperf → (thrOf s b t).perfRd = false →
    completes (.bobRdperf b t t4 e) s fun u =>
      rd u (.bob b) Fld.BOB_STICKY_PERF_DENIED = 1 ∧ counter u (.bob b) 16 = trunc 64 (counter s (.bob b) 16 + 1) ∧
      gSet s u b t (fRd w) 0 ∧ goesOn s u b t ((thrOf s b t).pc + 1) ∧ bobThreads s u) ∧
  (∀ (s : State) (b : Nat), domainOff s (.bob b) = false →
    completes (.perfClr b) s fun u =>
      (∀ n < 8, perfOf u b n = 0) ∧ (∀ c n, c ≠ b → n < 8 → perfOf u c n = perfOf s c n) ∧
      { u with bob := s.bob } = s ∧ { u.bob with perf := s.bob.perf, clocked := s.bob.clocked } = s.bob) ∧
  (∀ (s : State) (b n : Nat), n < 8 →
    completes (.perfCounterWrap b n) s fun u =>
      if perfClocked s b n = true ∧ bobOn s b = true ∧
          2 * (2 ^ 48 - perfOf s b n) ≤ 3 * (s.now - tabGet s.bob.clocked 0 (8 * b + n)) then
        bit (rd u (.bob b) Fld.BOB_STICKY_PERF_WRAP) n = true ∧ perfOf u b n = 0 ∧
        (∀ c m, 8 * c + m ≠ 8 * b + n → perfOf u c m = perfOf s c m) ∧
        { u with reg := s.reg, bob := s.bob, irqLevel := s.irqLevel, msgs := s.msgs, msixPend := s.msixPend } = s ∧
        { u.bob with perf := s.bob.perf, clocked := s.bob.clocked } = s.bob ∧
        regsKept s u (on (.bob b) [Fld.BOB_STICKY_PERF_WRAP])
      else u = s)

/-- R306, R311 to R313, R300: HLD reads eight header bytes, most significant first, or a metadata slot, and HST writes
eight header bytes; FWD and DROP dispose of the thread's frame, counted; NEW copies a frame out of local memory and
waits where no cells or queue entries are free; a waiting frame enters the frame queue of 64. Readings and choices of
the model that it uses: log entries 58, 59, 72. -/
def Obligations.BobbinFrames : Prop :=
  (∀ (s : State) (b t t4 : Nat) (e : BobErr) (w f : Nat), b < 512 → issues s b t e w .hld →
    (thrOf s b t).work = .frame f →
    let o := hdrOffset s b t w
    completes (.bobHld b t t4 e) s fun u =>
      (o + 7 < (thrOf s b t).hdr.length →
        bobWrites s u b t t4 (fRd w) (beNat (slice (thrOf s b t).hdr o 8)) ((thrOf s b t).pc + 1) []) ∧
      ((thrOf s b t).hdr.length ≤ 256 → 0x100 ≤ o → o < 0x180 → o % 8 = 0 → o ≠ 0x108 →
        bobWrites s u b t t4 (fRd w) (metaSlot s (frm s f) (thrOf s b t) ((o - 0x100) / 8)).2 ((thrOf s b t).pc + 1) []) ∧
      ((thrOf s b t).hdr.length ≤ o + 7 → o < 0x100 ∨ 0x180 ≤ o ∨ o % 8 ≠ 0 →
        rd u (.bob b) Fld.PAGE_FENCE_FENCED = 1 ∧
        rd u (.bob b) Fld.PAGE_FENCE_CAUSE_DETAIL = trunc 24 (10 * 2 ^ 8 + t * 2 ^ 14))) ∧
  (∀ (s : State) (b t t4 : Nat) (e : BobErr) (w f : Nat), b < 512 → issues s b t e w .hst →
    (thrOf s b t).work = .frame f →
    let o := hdrOffset s b t w
    let x := thrOf s b t
    completes (.bobHst b t t4 e) s fun u =>
      (o + 7 < x.hdr.length →
        (thrOf u b t).hdr.length = x.hdr.length ∧ slice (thrOf u b t).hdr o 8 = beBytes 8 (gReg s b t (fRd w)) ∧
        (∀ i, i < o ∨ o + 8 ≤ i → (thrOf u b t).hdr[i]? = x.hdr[i]?) ∧
        { thrOf u b t with hdr := [] } = { x with pc := (x.pc + 1) % 65536, hdr := [], hst := true } ∧
        (∀ c r, 4 * c + r ≠ 4 * b + t → thrOf u c r = thrOf s c r) ∧ bobThreads s u ∧ bobOnly s u b t4 []) ∧
      (x.hdr.length ≤ o + 7 → rd u (.bob b) Fld.PAGE_FENCE_FENCED = 1 ∧
        rd u (.bob b) Fld.PAGE_FENCE_CAUSE_DETAIL = trunc 24 (10 * 2 ^ 8 + t * 2 ^ 14))) ∧
  (∀ (s : State) (b t t4 : Nat) (e : BobErr) (w f : Nat), issues s b t e w .drop → (thrOf s b t).work = .frame f →
    completes (.bobDrop b t t4 e) s fun u =>
      { thrOf u b t with regs := [] } =
        { thrOf s b t with pc := ((thrOf s b t).pc + 1) % 65536, work := .done f (frm s f).res.sk.digest, regs := [] } ∧
      u.rs.queue = s.rs.queue ∧ counter u (.bob b) 5 = trunc 64 (counter s (.bob b) 5 + 1) ∧
      (1 < (frm s f).refs → (frm s f).used = true → (frm u f).refs = (frm s f).refs - 1)) ∧
  (∀ (s : State) (b t t4 : Nat) (e : BobErr) (w f : Nat), issues s b t e w .fwd → (thrOf s b t).work = .frame f →
    (thrOf s b t).hst = false → gReg s b t (fErs1 w) % 2048 < 1024 →
    let c := gReg s b t (fErs2 w)
    let y := { (frm s f).res with
      tclass := if bit c 3 then (frm s f).res.tclass else c % 8, dest := .port (gReg s b t (fErs1 w) % 2048) }
    placeRoom s { frm s f with res := y } 0 = true →
    completes (.bobFwd b t t4 e) s fun u =>
      u.rs = (dropRef (placeFrm (putFrm (storeErr (advance s t4) (b / 16) (thrOf s b t).pc e) f
        { frm s f with res := y }) f) f).rs ∧
      { thrOf u b t with regs := [] } =
        { thrOf s b t with pc := ((thrOf s b t).pc + 1) % 65536, work := .done f (frm s f).res.sk.digest, regs := [] } ∧
      counter u (.bob b) 4 = trunc 64 (counter s (.bob b) 4 + 1)) ∧
  (∀ (s : State) (b t t4 : Nat) (e : BobErr) (w : Nat), issues s b t e w .new → e ≠ .mem true →
    let r := gReg s b t (fErs1 w)
    let n := gReg s b t (fErs2 w) % 16384
    let v := (lmErr (storeErr (advance s t4) (b / 16) (thrOf s b t).pc e) b t (fLm w) e).1
    let y : Machine.Frm := {
      bytes := lmRead s b (fLm w) n, inPort := 1048 + b / 64, hoop := b / 16, arrival := v.now
      stitch := s.stitch, stage := .queued, built := true
      res := { epoch := s.epoch % 65536, dest := .port (r % 2048), tclass := bits r 14 12 } }
    emitBad (r % 2048) = false → 60 ≤ n → n ≤ 9212 → fLm w + n ≤ 16384 →
    (∀ (o : State) (f : Nat), freeQe s ≠ 0 → openFrame v (1048 + b / 64) (bits r 14 12) y = (o, some f) →
      completes (.bobNew b t t4 e) s fun u =>
        u.rs = (handOver (enqPort o (r % 2048) (bits r 14 12) f) f).rs ∧ goesOn s u b t ((thrOf s b t).pc + 1) ∧
        counter u (.bob b) 6 = trunc 64 (counter s (.bob b) 6 + 1)) ∧
    (freeQe s = 0 ∨ (openFrame v (1048 + b / 64) (bits r 14 12) y).2 = none →
      completes (.bobNew b t t4 e) s fun u =>
        thrOf u b t = thrOf s b t ∧ counter u (.bob b) 6 = counter s (.bob b) 6 ∧ u.rs.queue = s.rs.queue)) ∧
  (∀ (s : State) (b f : Nat) (fs : List Nat), fwaitOf s b = f :: fs → (fqOf s b).length < 64 →
    completes (.frameQueueAdmit b) s fun u =>
      fwaitOf u b = fs ∧ fqOf u b = fqOf s b ++ [f] ∧
      { u with rs := s.rs, bob := s.bob, reg := s.reg, irqLevel := s.irqLevel, msgs := s.msgs,
               msixPend := s.msixPend } = s ∧
      { u.rs with fq := s.rs.fq, fwait := s.rs.fwait } = s.rs ∧ { u.bob with perf := s.bob.perf } = s.bob ∧
      regsKept s u (on (.bob b) [Fld.BOB_STICKY_PERF_WRAP]) ∧
      (∀ c, c ≠ b → fqOf u c = fqOf s c ∧ fwaitOf u c = fwaitOf s c))

/-- R309, R284, R282, R247, R310, R393, R400: each table operation is performed at its issue, counted, and its result
goes to rd when it completes: INSTALL makes a pending context active or ends stale; CTXRD, CTXWR and CTXEVICT read,
write and evict a context, and give 1 for one that is not in use; FSEARCH gives the entry of a key; FLEARN raises a
learn event; PCHARGE charges a policer; PREAD reads one; one that meets an uncorrectable error in local memory fences
the bobbin with reason 4 instead (R305). Readings and choices of the model that it uses: log entries 55, 56, 57. -/
def Obligations.BobbinTables : Prop :=
  (∀ (s : State) (b t rd v : Nat), bobOn s b = true → (thrOf s b t).wait = .table rd v →
    completes (.tableOpComplete b t) s fun u =>
      gSet s u b t rd v ∧ { thrOf u b t with regs := [] } = { thrOf s b t with wait := .run, regs := [] } ∧
      (∀ c r, 4 * c + r ≠ 4 * b + t → thrOf u c r = thrOf s c r) ∧ { u with bob := s.bob } = s ∧
      { u.bob with thr := s.bob.thr } = s.bob) ∧
  (∀ (s : State) (b t t4 : Nat) (e : BobErr) (w : Nat), issues s b t e w .install → e ≠ .mem true →
    let h := b / 16
    let i := gReg s b t (fRs1 w)
    let r := gReg s b t (fRs2 w)
    let d := (ctxOf s h i).img.digest
    let p := (ctxOf s h i).img.profile
    let fits := i < 32768 ∧ (ctxOf s h i).state = 1 ∧
      (bit r 63 = true ∨ homeRecord h d 0 ≤ bits r 25 0 ∧ bits r 25 0 ≤ homeRecord h d 3)
    completes (.bobInstall b t t4 e) s fun u =>
      (∀ ev, (thrOf s b t).work = .event ev → bit r 62 = false → fits → d = ev.img.digest → p = ev.img.profile →
        ctxOf u h i = { ctxOf s h i with state := 2, dirty := true, transient := bit r 63,
                                         record := if bit r 63 then 0 else bits r 25 0, ovr := 0 } ∧
        (∀ j, 32768 * h + i ≠ j → tabGet u.ctx {} j = tabGet s.ctx {} j) ∧ tableIssued s u b t w 0 ∧
        { u with now := s.now, reg := s.reg, cnt := s.cnt, bob := s.bob, ctx := s.ctx, irqLevel := s.irqLevel,
                 msgs := s.msgs, msixPend := s.msixPend } = s) ∧
      (¬ fits → u.ctx = s.ctx ∧ tableIssued s u b t w 1 ∧ rd u (.skn h) Fld.SKN_STICKY_INSTALL_STALE = 1)) ∧
  (∀ (s : State) (b t t4 : Nat) (e : BobErr) (w : Nat), issues s b t e w .ctxrd →
    completes (.bobCtxrd b t t4 e) s fun u =>
      (∀ c, e ≠ .mem true → bobCtx s (b / 16) (gReg s b t (fRs1 w)) = some c → tableIssued s u b t w 0 ∧
        lmRead u b (fTlm w) (4 * (recWords c.img).length) = (recWords c.img).flatMap (leBytes 4) ∧
        { u.bob with thr := s.bob.thr, perf := s.bob.perf, lm := s.bob.lm } = s.bob ∧
        bobOnly s u b t4 [cntKey (.bob b) 12, cntKey (.bob b) 15]) ∧
      (bobCtx s (b / 16) (gReg s b t (fRs1 w)) = none → tableIssued s u b t w 1 ∧ bobThreads s u ∧
        bobOnly s u b t4 [cntKey (.bob b) 12])) ∧
  (∀ (s : State) (b t t4 : Nat) (e : BobErr) (w : Nat), issues s b t e w .ctxwr → e ≠ .mem true →
    let h := b / 16
    let i := gReg s b t (fRs1 w)
    completes (.bobCtxwr b t t4 e) s fun u =>
      (∀ c, bobCtx s h i = some c → tableIssued s u b t w 0 ∧
        ctxOf u h i = { c with img := recSet (gReg s b t (fRs2 w) % 256) (lmImage s b (fTlm w)) c.img, dirty := true } ∧
        (∀ j, 32768 * h + i ≠ j → tabGet u.ctx {} j = tabGet s.ctx {} j) ∧ bobThreads s u ∧
        { u with now := s.now, reg := s.reg, cnt := s.cnt, bob := s.bob, ctx := s.ctx, irqLevel := s.irqLevel,
                 msgs := s.msgs, msixPend := s.msixPend } = s) ∧
      (bobCtx s h i = none → tableIssued s u b t w 1 ∧ bobThreads s u ∧
        bobOnly s u b t4 [cntKey (.bob b) 12, cntKey (.bob b) 15])) ∧
  (∀ (s : State) (b t t4 : Nat) (e : BobErr) (w : Nat), issues s b t e w .ctxevict →
    let h := b / 16
    let i := gReg s b t (fRs1 w)
    completes (.bobCtxevict b t t4 e) s fun u =>
      (bobCtx s h i = none → tableIssued s u b t w 1 ∧ bobThreads s u ∧ bobOnly s u b t4 [cntKey (.bob b) 12]) ∧
      (∀ c, bobCtx s h i = some c → evqRoom s (flowBobbin h c.img.digest) = 0 → u.bob = s.bob ∧ bobOnly s u b t4 []) ∧
      (∀ c, bobCtx s h i = some c → evqRoom s (flowBobbin h c.img.digest) ≠ 0 →
        tableIssued s u b t w 0 ∧ ctxOf u h i = {} ∧
        (∀ j, 32768 * h + i ≠ j → tabGet u.ctx {} j = tabGet s.ctx {} j) ∧
        (fenced s (.bob (flowBobbin h c.img.digest)) = false → tabGet u.evq [] (flowBobbin h c.img.digest) =
          tabGet s.evq [] (flowBobbin h c.img.digest) ++ [ctxEvent s i 2 3 c []]))) ∧
  (∀ (s : State) (b t t4 : Nat) (e : BobErr) (w : Nat), issues s b t e w .fsearch → tabRising none s.fil = true →
    e ≠ .mem true →
    completes (.bobFsearch b t t4 e) s fun u =>
      bobOnly s u b t4 [cntKey (.bob b) 12, cntKey (.bob b) 15] ∧
      ((∃ l, tableIssued s u b t w 0 ∧ (filEnt s (b / 64) l).valid = true ∧
          (filEnt s (b / 64) l).key = gReg s b t (fRs1 w) ∧
          lmRead u b (fTlm w) 16 = (filWords (filEnt s (b / 64) l)).flatMap (leBytes 4) ∧
          { u.bob with thr := s.bob.thr, perf := s.bob.perf, lm := s.bob.lm } = s.bob) ∨
        (tableIssued s u b t w 1 ∧ filFind s (b / 64) (gReg s b t (fRs1 w)) (fun _ => true) = none ∧ bobThreads s u))) ∧
  (∀ (s : State) (b t t4 : Nat) (e : BobErr) (w : Nat), issues s b t e w .flearn →
    let k := gReg s b t (fRs1 w)
    let port := gReg s b t (fRs2 w)
    let bad := k / 2 ^ 60 ≠ 0 ∨ groupAddr (k % 2 ^ 48) = true ∨ k % 2 ^ 48 = 0 ∨ 1024 ≤ port
    let v := max s.now t4
    let known := ∃ x ∈ tabGet s.learnFilt [] (b / 16), x.key = k ∧ x.port = port ∧ v ≤ x.at4 + 16384
    completes (.bobFlearn b t t4 e) s fun u =>
      bobThreads s u ∧
      (bad → tableIssued s u b t w 1 ∧ bobOnly s u b t4 [cntKey (.bob b) 12]) ∧
      (¬ bad → known → tableIssued s u b t w 0 ∧ bobOnly s u b t4 [cntKey (.bob b) 12]) ∧
      (¬ bad → ¬ known → tableIssued s u b t w 0 ∧ u.learnFly = s.learnFly ++ [⟨k, port, v, b / 16 / 4⟩] ∧
        { u with now := s.now, reg := s.reg, cnt := s.cnt, bob := s.bob, learnFilt := s.learnFilt,
                 learnFly := s.learnFly, irqLevel := s.irqLevel, msgs := s.msgs, msixPend := s.msixPend } = s)) ∧
  (∀ (s : State) (b t t4 : Nat) (e : BobErr) (w : Nat), issues s b t e w .pcharge →
    let i := gReg s b t (fRs1 w) % 262144
    let r := polCharge (storeErr (advance s t4) (b / 16) (thrOf s b t).pc e) i (gReg s b t (fRs2 w))
    completes (.bobPcharge b t t4 e) s fun u =>
      tableIssued s u b t w (if r.2 then 0 else 1) ∧ polOf u i = polOf r.1 i ∧ bobThreads s u) ∧
  (∀ (s : State) (b t t4 : Nat) (e : BobErr) (w : Nat), issues s b t e w .pread → e ≠ .mem true →
    let i := gReg s b t (fRs1 w) % 262144
    completes (.bobPread b t t4 e) s fun u =>
      tableIssued s u b t w 0 ∧
      lmRead u b (fTlm w) 16 = (words s .pol 1 (2 * i) 2 ++ [(polOf s i).tokens, (polOf s i).last]).flatMap (leBytes 4) ∧
      { u.bob with thr := s.bob.thr, perf := s.bob.perf, lm := s.bob.lm } = s.bob ∧
      bobOnly s u b t4 [cntKey (.bob b) 12, cntKey (.bob b) 15]) ∧
  (∀ (s : State) (b t t4 : Nat) (w : Nat), b < 512 →
    ∀ x ∈ [(Instr.bobInstall b t t4 (.mem true), BobOp.install), (.bobCtxwr b t t4 (.mem true), .ctxwr),
      (.bobPread b t t4 (.mem true), .pread), (.bobCtxrd b t t4 (.mem true), .ctxrd)],
    issues s b t (.mem true) w x.2 → (x.2 = .ctxrd → bobCtx s (b / 16) (gReg s b t (fRs1 w)) ≠ none) →
    completes x.1 s fun u =>
      rd u (.bob b) Fld.PAGE_FENCE_FENCED = 1 ∧ rd u (.bob b) Fld.PAGE_FENCE_CAUSE_CAUSE = 2 ∧
      rd u (.bob b) Fld.PAGE_FENCE_CAUSE_DETAIL = trunc 24 (4 * 2 ^ 8 + t * 2 ^ 14) ∧ u.ctx = s.ctx ∧ u.bob.lm = s.bob.lm)

/-- R314 to R321, R328: an access that meets the rules of its token, its range, its window and its channel becomes an
access in flight with its token ISSUED, a DWR with its bytes copied; a full channel makes the thread wait for it. A
completed DRD has moved its bytes to local memory, a completed DWR to the DRAM, and the token is DONE. DAWAIT waits for
a token and frees it, DATEST reads its state. Readings and choices of the model that it uses: log entries 23, 61, 64,
65, 148. -/
def Obligations.BobbinDram : Prop :=
  (∀ (s : State) (b t t4 : Nat) (e : BobErr) (w : Nat), e = .ok →
    ∀ x ∈ [(Instr.bobDrd b t t4 e, BobOp.drd, false), (Instr.bobDwr b t t4 e, BobOp.dwr, true)],
    issues s b t e w x.2.1 →
    let a := gReg s b t (fArs w)
    let n := 2 ^ (3 + fSize w)
    let addr := bits (word s (.bobh (b / 16)) 4 (2 * (a / 65536))) 18 0 * 65536 + a % 65536
    accessFault s b t w a n x.2.2 = none → windowFault s b a x.2.2 = none →
    completes x.1 s fun u =>
      (2048 ≤ channelLoad s (servedBy s addr) →
        thrOf u b t = { thrOf s b t with wait := .room } ∧ accOf u b = accOf s b) ∧
      (channelLoad s (servedBy s addr) < 2048 →
        accOf u b = accOf s b ++ [{ tok := some ((tokBase t + fTok w) % 128), thread := t, window := a, addr := addr,
                                    lm := fLm w, size := n, pc := (thrOf s b t).pc,
                                    data := if x.2.2 then some (lmRead s b (fLm w) n) else none }] ∧
        (∀ c, c ≠ b → accOf u c = accOf s c) ∧
        thrOf u b t = { thrOf s b t with pc := ((thrOf s b t).pc + 1) % 65536, wait := .run } ∧
        { u.bob with thr := s.bob.thr, perf := s.bob.perf, acc := s.bob.acc } = s.bob ∧
        bobOnly s u b t4 [cntKey (.bob b) 9])) ∧
  (∀ (s : State) (b t t4 w : Nat), t < 4 → (thrOf s b t).wait = .room →
    issues (putThr s b t { thrOf s b t with wait := .run }) b t .ok w .drd →
    let a := gReg s b t (fArs w)
    let n := 2 ^ (3 + fSize w)
    let addr := bits (word s (.bobh (b / 16)) 4 (2 * (a / 65536))) 18 0 * 65536 + a % 65536
    accessFault s b t w a n false = none → windowFault s b a false = none →
    channelLoad s (servedBy s addr) < 2048 →
    completes (.dramIssueAccepted b t t4 .ok) s fun u =>
      accOf u b = accOf s b ++ [{ tok := some ((tokBase t + fTok w) % 128), thread := t, window := a, addr := addr,
                                  lm := fLm w, size := n, pc := (thrOf s b t).pc, data := none }] ∧
      thrOf u b t = { thrOf s b t with pc := ((thrOf s b t).pc + 1) % 65536, wait := .run }) ∧
  (∀ (s : State) (b i k : Nat) (x : BobAcc), (accOf s b)[i]? = some x → x.data = none → x.tok = some k →
    accFree s b i = true → dramBad s x.addr x.size = false → fenced s (.bob b) = false →
    (∀ t ∈ [1, 2, 3], (thrOf s b t).wait ≠ .fin) →
    completes (.drdComplete b i false .ok) s fun u =>
      accOf u b = (accOf s b).eraseIdx i ∧
      lmRead u b x.lm x.size = (dramRead s x.addr x.size).map (· % 256) ∧
      (∀ j, j < 16384 * b + x.lm ∨ 16384 * b + x.lm + x.size ≤ j → tabGet u.bob.lm 0 j = tabGet s.bob.lm 0 j) ∧
      counter u (.bob b) 10 = trunc 64 (counter s (.bob b) 10 + x.size) ∧ u.dram = s.dram ∧
      ((∀ t < 4, (thrOf s b t).wait ≠ .token k) → tabGet u.bob.done false (128 * b + k) = true ∧ u.bob.thr = s.bob.thr) ∧
      (∀ t < 4, (thrOf s b t).wait = .token k → (∀ r < t, (thrOf s b r).wait ≠ .token k) →
        thrOf u b t = { thrOf s b t with wait := .run, pc := ((thrOf s b t).pc + 1) % 65536 })) ∧
  (∀ (s : State) (b i : Nat) (x : BobAcc) (d : List Nat), (accOf s b)[i]? = some x → x.data = some d →
    accFree s b i = true → ddrDead s (servedBy s x.addr) = false → fenced s (.bob b) = false →
    completes (.dwrComplete b i) s fun u =>
      accOf u b = (accOf s b).eraseIdx i ∧ u.dram = (dramWrite s x.addr d).dram ∧ u.bob.lm = s.bob.lm ∧
      counter u (.bob b) 11 = trunc 64 (counter s (.bob b) 11 + x.size) ∧
      (∀ k, x.tok = some k → (∀ t < 4, (thrOf s b t).wait ≠ .token k) →
        tabGet u.bob.done false (128 * b + k) = true ∧ u.bob.thr = s.bob.thr)) ∧
  (∀ (s : State) (b t t4 : Nat) (e : BobErr) (w : Nat), issues s b t e w .dawait → fTok w < tokCount t →
    let k := tokBase t + fTok w
    completes (.bobDawait b t t4 e) s fun u =>
      (tokState s b k = 1 → thrOf u b t = { thrOf s b t with wait := .token k } ∧
        (∀ c r, 4 * c + r ≠ 4 * b + t → thrOf u c r = thrOf s c r) ∧ bobThreads s u ∧ bobOnly s u b t4 []) ∧
      (tokState s b k = 2 → tabGet u.bob.done false (128 * b + k) = false ∧
        (∀ r, gReg u b t r = gReg s b t r) ∧ goesOn s u b t ((thrOf s b t).pc + 1) ∧
        { u.bob with thr := s.bob.thr, perf := s.bob.perf, done := s.bob.done } = s.bob ∧ bobOnly s u b t4 [])) ∧
  (∀ (s : State) (b t t4 : Nat) (e : BobErr) (w : Nat), issues s b t e w .datest → fTok w < tokCount t →
    completes (.bobDatest b t t4 e) s fun u =>
      bobWrites s u b t t4 (fArs w) (tokState s b (tokBase t + fTok w)) ((thrOf s b t).pc + 1) [])

/-- R300 to R304, R320, R323, R324, R329: a free work thread takes the oldest event or frame that may run, alternately,
and starts its handler with g1 to g3 set; END ends an item, a frame without FWD or DROP being discarded and counted, and
ends a run of thread 0; YIELD does so in thread 0 alone; a run that reaches BUDGET overruns; a release takes effect once
no token is ISSUED. Readings and choices of the model that it uses: log entries 50, 58, 60, 66. -/
def Obligations.BobbinThreads : Prop :=
  (∀ (s : State) (b t i : Nat) (ev : SkEvent), 1 ≤ t → t < 4 → bobOn s b = true → stitchRuns s b = false →
    (thrOf s b t).work = .idle → nextEvent s b = some i → (tabGet s.evq [] b)[i]? = some ev →
    nextFrame s b = none ∨ tabGet s.bob.alt false b = true →
    let n := eventHandler s (b / 16) ev
    completes (.workDispatch b t) s fun u =>
      tabGet u.evq [] b = (tabGet s.evq [] b).eraseIdx i ∧ tabGet u.bob.alt false b = false ∧
      (handlerOk (handlerEnt s (b / 16) n) 1 = true →
        (thrOf u b t).work = .event ev ∧ (thrOf u b t).pc = bits (handlerEnt s (b / 16) n) 15 0 ∧
        (thrOf u b t).wait = .run ∧ gReg u b t 1 = 256 * t ∧ gReg u b t 2 = n % 256 ∧ gReg u b t 3 = 2 ∧
        (∀ r, 4 ≤ r → gReg u b t r = gReg s b t r) ∧
        lmRead u b (256 * t) (4 * (eventWords ev).length) = (eventWords ev).flatMap (leBytes 4) ∧
        counter u (.bob b) 1 = trunc 64 (counter s (.bob b) 1 + 1)) ∧
      (handlerOk (handlerEnt s (b / 16) n) 1 = false →
        u.bob.thr = s.bob.thr ∧ rd u (.bob b) Fld.BOB_STICKY_HANDLER_INVALID = 1 ∧
        counter u (.bob b) 8 = trunc 64 (counter s (.bob b) 8 + 1))) ∧
  (∀ (s : State) (b t f : Nat), 1 ≤ t → t < 4 → bobOn s b = true → stitchRuns s b = false →
    (thrOf s b t).work = .idle → nextEvent s b = none ∨ tabGet s.bob.alt false b = false → nextFrame s b = some f →
    let n := frameHandler s f
    completes (.workDispatch b t) s fun u =>
      fqOf u b = (fqOf s b).erase f ∧ tabGet u.bob.alt false b = true ∧
      (handlerOk (handlerEnt s (b / 16) n) 0 = true →
        (thrOf u b t).work = .frame f ∧ (thrOf u b t).pc = bits (handlerEnt s (b / 16) n) 15 0 ∧
        (thrOf u b t).wait = .run ∧ (thrOf u b t).hdr = headerBuf (frm s f) ∧
        gReg u b t 1 = 256 * t ∧ gReg u b t 2 = n % 256 ∧ gReg u b t 3 = 3 ∧
        (∀ r, 4 ≤ r → gReg u b t r = gReg s b t r) ∧ counter u (.bob b) 0 = trunc 64 (counter s (.bob b) 0 + 1)) ∧
      (handlerOk (handlerEnt s (b / 16) n) 0 = false →
        u.bob.thr = s.bob.thr ∧ rd u (.bob b) Fld.BOB_STICKY_HANDLER_INVALID = 1 ∧
        counter u (.bob b) 8 = trunc 64 (counter s (.bob b) 8 + 1))) ∧
  (∀ (s : State) (b t t4 : Nat) (e : BobErr) (w : Nat), issues s b t e w .fin →
    completes (.bobEnd b t t4 e) s fun u =>
      (t = 0 → (thrOf u b 0).work = .idle ∧ (thrOf u b 0).wait = .run ∧ rd u (.bob b) Fld.BOB_STATUS_STITCH_RUN = 0) ∧
      (t ≠ 0 → (∃ a ∈ accOf s b, a.thread = t ∧ a.data = none) → (thrOf u b t).wait = .fin) ∧
      (t ≠ 0 → (∀ a ∈ accOf s b, a.thread = t → a.data ≠ none) → (thrOf u b t).work = .idle ∧ (thrOf u b t).wait = .run ∧
        ∀ i < tokCount t, tokState u b (tokBase t + i) ≠ 2) ∧
      (t ≠ 0 → ∀ f, (thrOf s b t).work = .frame f → rd u (.bob b) Fld.BOB_STICKY_FRAME_UNDISPOSED = 1 ∧
        counter u (.bob b) 7 = trunc 64 (counter s (.bob b) 7 + 1) ∧
        (1 < (frm s f).refs → (frm s f).used = true → (frm u f).refs = (frm s f).refs - 1))) ∧
  (∀ (s : State) (b t t4 : Nat) (e : BobErr) (w : Nat), issues s b t e w .yield →
    completes (.bobYield b t t4 e) s fun u =>
      (t = 0 → (thrOf u b 0).work = .idle ∧ (thrOf u b 0).wait = .run ∧ rd u (.bob b) Fld.BOB_STATUS_STITCH_RUN = 0) ∧
      (t ≠ 0 → (∀ r, gReg u b t r = gReg s b t r) ∧ goesOn s u b t ((thrOf s b t).pc + 1) ∧ bobThreads s u ∧
        bobOnly s u b t4 [])) ∧
  (∀ (s : State) (b : Nat), stitchRuns s b = true → bobOn s b = true →
    completes (.thread0Overrun b) s fun u =>
      thrOf u b 0 = { thrOf s b 0 with work := .idle, wait := .run } ∧ rd u (.bob b) Fld.BOB_STICKY_OVERRUN = 1 ∧
      rd u (.bob b) Fld.BOB_STATUS_STITCH_RUN = 0 ∧ counter u (.bob b) 3 = trunc 64 (counter s (.bob b) 3 + 1) ∧
      tabGet u.bob.ovr 0 b = (if (thrOf s b 0).work = .init then 5 else 1) ∧
      regsKept s u (on (.bob b) [Fld.BOB_STICKY_OVERRUN, Fld.BOB_STATUS_STITCH_RUN]) ∧
      countersKept s u [cntKey (.bob b) 3] ∧ { u.bob with thr := s.bob.thr, ovr := s.bob.ovr } = s.bob) ∧
  (∀ (s : State) (b : Nat), b < 512 → tabGet s.bob.rel false b = true → fenced s (.bob b) = true → tokOut s b = 0 →
    completes (.bobReleaseEffect b) s fun u =>
      rd u (.bob b) Fld.PAGE_FENCE_FENCED = 0 ∧ rd u (.bob b) Fld.PAGE_FENCE_CAUSE_CAUSE = 0 ∧
      rd u (.bob b) Fld.BOB_FAULT_PC_VALID = 0 ∧ tabGet u.bob.rel false b = false ∧
      (∀ t < 4, thrOf u b t = {}) ∧ (∀ a < 1024, tabGet u.bob.lm 0 (16384 * b + a) = 0) ∧
      (∀ a, 1024 ≤ a → a < 16384 → tabGet u.bob.lm 0 (16384 * b + a) = tabGet s.bob.lm 0 (16384 * b + a)))

/-- R290, R291: SEARCH gives the record of the flow named, from the context cache or from its home bucket in DRAM, READ
the record of an index of its own hoop; UPDATE, EVICT, PIN and UNPIN stage a change for a flow that is found, at most
1,024 of them, and DISCARD_STAGED withdraws those staged; while BUSY is 1 another command is discarded with CMD_REFUSED;
the oldest change of the overlay is merged into the context of its flow, and with the last one OVL_BUSY clears. Readings
and choices of the model that it uses: log entries 23, 27, 28, 177, 179. -/
def Obligations.SkeinCommands : Prop :=
  (∀ (s : State) (h : Nat), sknFree s h 1 → completes (.sknSearch h false) s fun u =>
    let g := Page.skn h
    let d := (sknFlow s h).1
    let p := (sknFlow s h).2
    (∀ i, ctxFind s h d p = some i → rd u g Fld.SKN_CMD_STAT_RESULT = 0 ∧ rd u g Fld.SKN_CMD_STAT_WHERE = 1 ∧
      rd u g Fld.SKN_CMD_STAT_LOC = trunc 26 i ∧ (ctxOf s h i).img.digest = d ∧ (ctxOf s h i).img.profile = p ∧
      ∀ k < 32, word u g 4 k = trunc 32 ((recWords (ctxOf s h i).img).getD k 0)) ∧
    (∀ r, ctxFind s h d p = none → (∀ k < 4, dramBad s (128 * homeRecord h d k) 128 = false) →
      skSearch s h d p = .rcd r → rd u g Fld.SKN_CMD_STAT_RESULT = 0 ∧ rd u g Fld.SKN_CMD_STAT_WHERE = 2 ∧
      rd u g Fld.SKN_CMD_STAT_LOC = trunc 26 r ∧ (dramRec s r).valid = true ∧ (dramRec s r).digest = d ∧
      (dramRec s r).profile = p ∧ ∀ k < 32, word u g 4 k = trunc 32 ((recWords (dramRec s r)).getD k 0)) ∧
    (ctxFind s h d p = none → (∀ k < 4, dramBad s (128 * homeRecord h d k) 128 = false ∧
        ¬ ((dramRec s (homeRecord h d k)).valid = true ∧ (dramRec s (homeRecord h d k)).digest = d ∧
          (dramRec s (homeRecord h d k)).profile = p)) →
      rd u g Fld.SKN_CMD_STAT_RESULT = 1 ∧ rd u g Fld.SKN_CMD_STAT_WHERE = 0) ∧
    tabGet u.skOp 0 h = 0 ∧ { u with reg := s.reg, ind := s.ind, skOp := s.skOp } = s ∧
    regsKept s u (on g [Fld.SKN_CMD_STAT_RESULT, Fld.SKN_CMD_STAT_WHERE, Fld.SKN_CMD_STAT_LOC])) ∧
  (∀ (s : State) (h : Nat), sknFree s h 2 → completes (.sknRead h false) s fun u =>
    let g := Page.skn h
    let r := bk s g Fld.SKN_CMD_ARG_INDEX
    (r / 2097152 = h → dramBad s (128 * r) 128 = false → rd u g Fld.SKN_CMD_STAT_RESULT = 0 ∧
      rd u g Fld.SKN_CMD_STAT_WHERE = 2 ∧ rd u g Fld.SKN_CMD_STAT_LOC = trunc 26 r ∧
      ∀ k < 32, word u g 4 k = trunc 32 ((recWords (dramRec s r)).getD k 0)) ∧
    (r / 2097152 = h → dramBad s (128 * r) 128 = true → rd u g Fld.SKN_CMD_STAT_RESULT = 4 ∧ u.ind = s.ind) ∧
    (r / 2097152 ≠ h → rd u g Fld.SKN_CMD_STAT_RESULT = 3 ∧ rd u g Fld.SKN_STICKY_CMD_REFUSED = 1 ∧ u.ind = s.ind) ∧
    tabGet u.skOp 0 h = 0 ∧
    { u with reg := s.reg, ind := s.ind, skOp := s.skOp, irqLevel := s.irqLevel, msgs := s.msgs,
             msixPend := s.msixPend } = s) ∧
  (∀ (s : State) (h : Nat),
    let v := recOfWords (words s (.skn h) 4 0 32)
    ∀ x ∈ [(Instr.sknUpdate h, SkOp.update (bk s (.skn h) Fld.SKN_CMD_MASK_MASK) v, 3), (Instr.sknEvict h, SkOp.evict, 4),
      (Instr.sknPin h, SkOp.pin true, 5), (Instr.sknUnpin h, SkOp.pin false, 6)],
    sknFree s h x.2.2 →
    completes x.1 s fun u =>
      let r := rd u (.skn h) Fld.SKN_CMD_STAT_RESULT
      let f := sknFlow s h
      (skSearch s h f.1 f.2 = .none → r = 1 ∧ u.skStaged = s.skStaged) ∧
      (skSearch s h f.1 f.2 = .err → r = 4 ∧ u.skStaged = s.skStaged) ∧
      (skSearch s h f.1 f.2 ≠ .none → skSearch s h f.1 f.2 ≠ .err → 1024 ≤ sknStaged s h →
        r = 2 ∧ u.skStaged = s.skStaged) ∧
      (skSearch s h f.1 f.2 ≠ .none → skSearch s h f.1 f.2 ≠ .err → sknStaged s h < 1024 →
        r = 0 ∧ tabGet u.skStaged [] h = tabGet s.skStaged [] h ++ [⟨f.1, f.2, x.2.1⟩] ∧
        ∀ k, k ≠ h → tabGet u.skStaged [] k = tabGet s.skStaged [] k) ∧
      tabGet u.skOp 0 h = 0 ∧ { u with reg := s.reg, skStaged := s.skStaged, skOp := s.skOp } = s ∧
      regsKept s u (on (.skn h) [Fld.SKN_CMD_STAT_RESULT])) ∧
  (∀ (s : State) (h : Nat), sknFree s h 7 → completes (.sknDiscardStaged h) s fun u =>
    rd u (.skn h) Fld.SKN_CMD_STAT_RESULT = 0 ∧ tabGet u.skStaged [] h = [] ∧
    (∀ k, k ≠ h → tabGet u.skStaged [] k = tabGet s.skStaged [] k) ∧
    tabGet u.skOp 0 h = 0 ∧ { u with reg := s.reg, skStaged := s.skStaged, skOp := s.skOp } = s ∧
    regsKept s u (on (.skn h) [Fld.SKN_CMD_STAT_RESULT])) ∧
  (∀ (s : State) (h : Nat) (err : Bool), domainOff s (.skn h) = false →
    ∀ x ∈ [(Instr.sknSearch h err, 1), (.sknRead h err, 2), (.sknUpdate h, 3), (.sknEvict h, 4), (.sknPin h, 5),
      (.sknUnpin h, 6), (.sknDiscardStaged h, 7)],
    tabGet s.skOp 0 h ≠ 0 → tabGet s.skOp 0 h ≠ x.2 →
    completes x.1 s fun u =>
      rd u (.skn h) Fld.SKN_STICKY_CMD_REFUSED = 1 ∧ onlyRegsIrq s u (on (.skn h) [Fld.SKN_STICKY_CMD_REFUSED])) ∧
  (∀ (s : State) (h i : Nat) (c : SkChange) (cs : List SkChange), tabGet s.skOvl [] h = c :: cs → c.op ≠ .evict →
    ctxFind s h c.digest c.profile = some i →
    completes (.sknOverlayMerge h) s fun u =>
      tabGet u.skOvl [] h = cs ∧ (ctxOf u h i).img = recChange c.op (ctxOf s h i).img ∧ (ctxOf u h i).dirty = true ∧
      (cs = [] → rd u (.skn h) Fld.SKN_STATUS_OVL_BUSY = 0) ∧ (cs ≠ [] → u.reg = s.reg) ∧
      (∀ j, 32768 * h + i ≠ j → tabGet u.ctx {} j = tabGet s.ctx {} j) ∧
      { u with reg := s.reg, skOvl := s.skOvl, ctx := s.ctx } = s)

/-- R38, R39, R65, R422, R348, R349, R351: a stored frame is looked up as of the epoch at that time; a trapped one goes
to port 1031 in its class, any other where classifier, Filet and Skein send it. Its result puts it behind the frames of
its port and class, or among those to replicate, or discards it. The frames of one input are looked up in the order in
which they entered (R171, R349). Readings and choices of the model that it uses: log entries 17, 38, 44, 72, 73, 190,
191, 195. -/
def Obligations.IngressAndEnqueue : Prop :=
  (∀ (s : State) (f t : Nat), (frm s f).used = true → (frm s f).stage = .lookup → (frm s f).state = 1 →
    domainOff s (.prk (frm s f).hoop) = false → hoopFenced s (frm s f).hoop = false → lookupBehind s (frm s f) = false →
    completes (.ingressLookup f t none []) s fun u =>
      let x := frm s f
      let r := (frm u f).res
      (frm u f).stage = .result ∧ r.epoch = s.epoch % 65536 ∧ r.hoop = x.hoop ∧
      (∀ k, ptpTrap s x.inPort x.bytes r.parsed = some k → r.dest = .port 1031 ∧ r.tclass = k) ∧
      (ptpTrap s x.inPort x.bytes r.parsed = none → r.tclass = r.cls.cls ∧
        r.dest = finalDest x.hoop r.cls r.fil r.sk (selDigest s x.hoop x.inPort r.cls.profile r.parsed)) ∧
      { frm u f with stage := x.stage, res := x.res, len := x.len } = x ∧
      (∀ g, g ≠ f → frm u g = frm s g) ∧
      { u with now := s.now, reg := s.reg, cnt := s.cnt, irqLevel := s.irqLevel, msgs := s.msgs, msixPend := s.msixPend,
               ecc := s.ecc, scan := s.scan, fil := s.fil, learnFilt := s.learnFilt, learnFly := s.learnFly,
               ctx := s.ctx, lru := s.lru, evq := s.evq, rs := s.rs, tm := s.tm, bob := s.bob } = s ∧
      { u.bob with perf := s.bob.perf } = s.bob) ∧
  (∀ (s : State) (f t : Nat) (len : Option Nat) (errs : List MemErr), lookupBehind s (frm s f) = true →
    completes (.ingressLookup f t len errs) s fun u => u = s) ∧
  (∀ (s : State) (f t : Nat), (frm s f).used = true → (frm s f).stage = .result → (frm s f).state < 2 →
    (frm s f).res.cls.mirror = none → redPair s (frm s f).inPort = none →
    placeRoom s (frm s f) 0 = true → (frm s f).rxHeld = true → 1 ≤ (frm s f).refs →
    completes (.enqueue f t) s fun u =>
      let x := frm s f
      let q (n : Nat) : Nat := 8 * n + x.res.tclass
      u.now = max s.now t ∧
      (∀ n, x.res.polDrop = false → x.res.dest = .port n → flushes s n = false → schedOn s = false →
        queueOf u (q n) = queueOf s (q n) ++ [⟨f, none⟩] ∧ (∀ k, k ≠ q n → queueOf u k = queueOf s k) ∧
        (frm u f).stage = .queued ∧ (frm u f).refs = x.refs + (1 - x.state) ∧ (frm u f).rxHeld = decide (x.state = 0)) ∧
      (∀ g, x.res.polDrop = false → x.res.dest = .group g ∨ x.res.dest = .flood g →
        u.rs.repl = s.rs.repl ++ [f] ∧ u.rs.queue = s.rs.queue ∧ (frm u f).stage = .replicate) ∧
      (∀ b n k, x.res.polDrop = false → x.res.dest = .bobbin b n k → fenced s (.bob b) = false →
        (fqOf s b).length < 64 → fwaitOf s b = [] →
        fqOf u b = fqOf s b ++ [f] ∧ u.rs.queue = s.rs.queue ∧ (frm u f).stage = .bobbin b) ∧
      (x.res.polDrop = true ∨ x.res.dest = .none → u.rs.queue = s.rs.queue ∧ u.rs.repl = s.rs.repl ∧
        (x.state = 1 → x.refs = 1 → frm u f = {})) ∧
      { u with now := s.now, reg := s.reg, cnt := s.cnt, irqLevel := s.irqLevel, msgs := s.msgs, msixPend := s.msixPend,
               rs := s.rs, tm := s.tm, bob := s.bob } = s ∧
      { u.bob with perf := s.bob.perf } = s.bob)

/-- R352, R353: the oldest multicast frame of a source is placed on every port of its valid group that takes a copy,
each copy counted, as far as the pool has free entries, and goes on with the ports that are left; an invalid group
discards it. R366, R367: a mirror engine enqueues a copy of the frame that it holds, cut and wrapped as its settings
say, counts it and numbers it; it skips a frame that ended bad, and one while MODE is 0. R350: a frame fed back enters
the lookup of hoop 4p in new cells, with what its first pass rewrote (the model's reading, log entry 33). R359, R361: a
source that waited resumes once its account can take a cell; HOLD clears where its account has come down far enough and
stands otherwise. R370, R371: the end of an audit pass records the pass, counts each finding and records their number,
and where RECLAIM_EN is 0 changes no descriptor, no queue and no cell's state or account. Readings and choices of the
model that it uses: log entries 33, 40, 43, 47, 194. -/
def Obligations.CopiesAndAccounts : Prop :=
  (∀ (s0 : State) (src f : Nat) (errs : List MemErr),
    let s := errs.foldl rsxError s0
    let g := (groupOf (frm s f)).1
    let c := (frm s f).res.tclass
    let ps := (frm s f).copies.getD ((groupMembers s g).filter (takesCopy s (frm s f).inPort g (groupOf (frm s f)).2))
    let n := min ps.length (freeQe s)
    s.rs.repl.find? (fun g => (frm s g).src == src) = some f →
    ((frm s f).copies ≠ none ∨ (groupValid s g = true ∧ (ps = [] ∨ freeQe s ≠ 0)) → (frm s f).state ≠ 2 →
      schedOn s = false → c < 8 → ps.Nodup → (∀ p ∈ ps, flushes s p = false) →
      completes (.mcReplicate src errs) s0 fun u =>
        (∀ k, queueOf u k = if k / 8 ∈ ps.take n ∧ k % 8 = c then queueOf s k ++ [⟨f, none⟩] else queueOf s k) ∧
        counter u .rsx 3 = (if (frm s f).copies = none then trunc 64 (counter s .rsx 3 + 1) else counter s .rsx 3) ∧
        (0 < n → counter u .rsx 4 = trunc 64 (counter s .rsx 4 + n)) ∧
        (n = ps.length → u.rs.repl = s.rs.repl.erase f) ∧
        (n < ps.length → u.rs.repl = s.rs.repl ∧ (frm u f).copies = some (ps.drop n))) ∧
    ((frm s f).copies = none → groupValid s g = false →
      completes (.mcReplicate src errs) s0 fun u =>
        u.rs.queue = s.rs.queue ∧ u.rs.repl = s.rs.repl.erase f ∧ rd u .rsx Fld.RSX_STICKY_GROUP_INVALID = 1 ∧
        counter u .rsx 6 = trunc 64 (counter s .rsx 6 + 1))) ∧
  (∀ (s : State) (k t : Nat) (x : TxSt), txOf s (1040 + k) = some x →
    let b := mirrorBytes s k (frm s x.f).bytes
    let c := cfg s (.mir k) Fld.RSX_MIR_CTRL_CLASS
    let d := cfg s (.mir k) Fld.RSX_MIR_CTRL_DEST
    let y : Machine.Frm := {
      bytes := b, inPort := 1040 + k, arrival := max s.now t, stitch := s.stitch, stage := .queued
      res := { epoch := s.epoch % 65536, dest := .port d, tclass := c } }
    (∀ g, (frm s x.f).state = 1 → cfg s (.mir k) Fld.RSX_MIR_CTRL_MODE ≠ 0 → freeQe s ≠ 0 → g ≠ x.f →
      (openFrame (advance s t) (1040 + k) c y).2 = some g → flushes s d = false → schedOn s = false →
      completes (.mirrorCopy k t) s fun u =>
        txOf u (1040 + k) = none ∧ queueOf u (8 * d + c) = queueOf s (8 * d + c) ++ [⟨g, none⟩] ∧
        (∀ q, q ≠ 8 * d + c → queueOf u q = queueOf s q) ∧
        (frm u g).bytes = b ∧ (frm u g).used = true ∧ (frm u g).refs = 1 ∧ (frm u g).src = 1040 + k ∧
        tabGet u.rs.mirId 0 k = (tabGet s.rs.mirId 0 k + 1) % 65536 ∧
        counter u (.mir k) 1 = trunc 64 (counter s (.mir k) 1 + 1) ∧
        counter u (.mir k) 5 = trunc 64 (counter s (.mir k) 5 + (b.length + 4)) ∧
        (mirrorKeep s k (frm s x.f).bytes.length < (frm s x.f).bytes.length →
          counter u (.mir k) 4 = trunc 64 (counter s (.mir k) 4 + 1)) ∧
        { u with now := s.now, reg := s.reg, cnt := s.cnt, irqLevel := s.irqLevel, msgs := s.msgs,
                 msixPend := s.msixPend, rs := s.rs, tm := s.tm } = s) ∧
    ((frm s x.f).state = 2 ∨ ((frm s x.f).state = 1 ∧ cfg s (.mir k) Fld.RSX_MIR_CTRL_MODE = 0) →
      completes (.mirrorCopy k t) s fun u =>
        txOf u (1040 + k) = none ∧ u.rs.queue = s.rs.queue ∧
        (if (frm s x.f).state = 2 then counter u (.mir k) 3 = trunc 64 (counter s (.mir k) 3 + 1)
        else counter u (.mir k) 2 = trunc 64 (counter s (.mir k) 2 + 1) ∧
          rd u (.mir k) Fld.MIR_STICKY_MIR_SKIP = 1))) ∧
  (∀ (s : State) (p t g : Nat) (x : TxSt), txOf s (1032 + p) = some x → (frm s x.f).state = 1 →
    domainOff s (.prk (4 * p)) = false → g ≠ x.f →
    let y : Machine.Frm := {
      bytes := egressBytes (frm s x.f), inPort := 1032 + p, hoop := 4 * p, arrival := max s.now t, stitch := s.stitch
      stage := .lookup, ald := (frm s x.f).ald, built := (frm s x.f).built }
    (openFrame (advance s t) (1032 + p) x.cls y).2 = some g →
    completes (.recircFeed p t) s fun u =>
      txOf u (1032 + p) = none ∧ (frm u g).cells.length = cellsFor ((egressBytes (frm s x.f)).length + 4) ∧
      { frm u g with cells := [] } = { y with used := true, refs := 1, src := 1032 + p, icls := x.cls, state := 1,
                                              rxHeld := true, serial := s.rs.serial } ∧
      (1 < (frm s x.f).refs → (frm u x.f).refs = (frm s x.f).refs - 1) ∧ u.rs.queue = s.rs.queue ∧
      { u with now := s.now, reg := s.reg, cnt := s.cnt, irqLevel := s.irqLevel, msgs := s.msgs, msixPend := s.msixPend,
               rs := s.rs, tm := s.tm } = s) ∧
  (∀ (s : State) (src c : Nat), completes (.internalSourceResume src c) s fun u =>
    (if tabGet s.rs.wait false src = true ∧ sourceReady s src c = true ∧ (chargeCell s (8 * src + c)).2 = true
      then tabGet u.rs.wait false src = false else tabGet u.rs.wait false src = tabGet s.rs.wait false src) ∧
    (∀ k, k ≠ src → tabGet u.rs.wait false k = tabGet s.rs.wait false k) ∧
    { u with rs := s.rs } = s ∧ { u.rs with wait := s.rs.wait } = s.rs) ∧
  (∀ (s : State), tabRising none s.rs.acct = true → completes .holdEvaluate s fun u =>
    (∀ a, acctOf u a = { acctOf s a with hold := (acctOf s a).hold && !holdClears s a }) ∧
    { u with rs := s.rs } = s ∧ { u.rs with acct := s.rs.acct } = s.rs) ∧
  (∀ (s : State) (n : Nat), s.rs.audit = some n → completes .auditPassEnd s fun u =>
    u.rs.audit = none ∧ u.rs.exempt = [] ∧ rd u .rsx Fld.RSX_AUDIT_STAT_RUNNING = 0 ∧
    rd u .rsx Fld.RSX_STATUS_AUDIT_RUN = 0 ∧ counter u .rsx 13 = trunc 64 (counter s .rsx 13 + 1) ∧
    rd u .rsx Fld.RSX_AUDIT_DONE_STITCH = trunc 64 n ∧
    (∃ m, rd u .rsx Fld.RSX_AUDIT_STAT_LAST_FOUND = min 65535 m ∧
      ((List.range 5).map (fun i => counter u .rsx (15 + i))).sum % 2 ^ 64 =
        (((List.range 5).map (fun i => counter s .rsx (15 + i))).sum + m) % 2 ^ 64) ∧
    u.rs.queue = s.rs.queue ∧
    (cfgB s .rsx Fld.RSX_CTRL_RECLAIM_EN = false → u.rs.frm = s.rs.frm ∧
      ∀ c, (cellOf u c).state = (cellOf s c).state ∧ (cellOf u c).account = (cellOf s c).account))

/-- R377 to R379, R389, R393, R396: a transmit opportunity, and the return of a shaped class's credit to 0, send the
head that the port chooses; POLICER_REFRESH adds to every valid policer the tokens of the time since its last charge, up
to BURST. R385 to R388: where a gate closes on a frame in transmission it is counted, once; a pending gate list comes
into force at its start; a written list's settling ends. Readings and choices of the model that it uses: log entries 40,
143, 192. -/
def Obligations.TransmitPoliceAndGates : Prop :=
  (∀ (s : State) (p t : Nat) (errs : List MemErr), completes (.txOpportunity p t errs) s fun u =>
    takesOpportunity (errs.foldl rsxError (advance s t)) u p) ∧
  (∀ (s : State) (p c t : Nat), shaped s p c = true → 0 ≤ creditAt (settle (advance s t) p) p c (max s.now t) →
    completes (.shaperCreditZero p c t) s fun u => takesOpportunity (settle (advance s t) p) u p) ∧
  (∀ (s : State) (t : Nat), completes (.policerRefresh t) s fun u =>
    (∀ i, polOf u i = if i ∈ polListed s then
        { tokens := min (polDepth s i) ((polOf s i).tokens +
            (trunc 32 (max s.now t / 64) + 2 ^ 32 - (polOf s i).last) % 2 ^ 32 * word s .pol 1 (2 * i + 1) * 64 / 125000)
          last := trunc 32 (max s.now t / 64) }
      else polOf s i) ∧
    u.now = max s.now t ∧ { u with now := s.now, tm := s.tm } = s ∧ { u.tm with pol := s.tm.pol } = s.tm) ∧
  (∀ (s : State) (p t : Nat), p < 1024 → completes (.gateEdge p t) s fun u =>
    (∀ x, txOf s p = some x → x.overrun = false → bit (gatesAt s p (max s.now t)) x.cls = false →
      (txOf u p = some { x with overrun := true } ∧ rd u (.tmg p) Fld.TMG_STICKY_GATE_OVERRUN = 1 ∧
        counter u (.tmg p) (4 * x.cls + 3) = trunc 64 (counter s (.tmg p) (4 * x.cls + 3) + 1))) ∧
    (∀ x, txOf s p = some x → x.overrun = true ∨ bit (gatesAt s p (max s.now t)) x.cls = true → txOf u p = some x) ∧
    ((∀ c < 8, gateOpens s p (max s.now t) c = false) → u.rs.queue = s.rs.queue) ∧
    { u with now := s.now, reg := s.reg, cnt := s.cnt, irqLevel := s.irqLevel, msgs := s.msgs, msixPend := s.msixPend,
             rs := s.rs, tm := s.tm } = s) ∧
  (∀ (s : State) (p t : Nat) (g : GateList), p < 1024 → (tmOf s p).pend = some g → 4 * g.t0 ≤ max s.now t →
    completes (.gateListStart p t) s fun u =>
      (tmOf u p).gl = some g ∧ (tmOf u p).pend = none ∧
      counter u (.tmg p) 34 = trunc 64 (counter s (.tmg p) 34 + 1) ∧
      (∀ k < 1024, k ≠ p → tmOf u k = tmOf s k)) ∧
  (∀ (s : State) (p : Nat), completes (.glSyncDone p) s fun u =>
    rd u (.tmg p) Fld.TMG_STATUS_GL_SYNC = 0 ∧ onlyRegs s u (on (.tmg p) [Fld.TMG_STATUS_GL_SYNC]))

/-- R406 to R409, R412, R416: at a comparison every channel counts the edges of its input, each one period long under
the common rate and its trim; Sampler time becomes the voted time of the channels in the vote, never decreasing; each
channel's offset and input show, and the trim of each voter moves against its offset; while LOCKED the common rate keeps
within SLEW_PPB of the rate that would hold the offset, and in another state it stands. A channel whose input is lost is
fenced unless it is the last in the vote; a rejoining channel that has agreed long enough votes again; a hoop that
misses four refreshes in a row is fenced. R422, R423, R418: the PTP frame that port 1031 serves next is taken out and
counted, and what the firmware makes of it shows in the page of its domain; a PTP message goes to its port's queue with
a stamp to be kept, without a lookup. Readings and choices of the model that it uses: log entries 75, 76, 78, 79, 86,
139, 146, 176, 201. -/
def Obligations.SamplerVoteAndPtp : Prop :=
  (∀ (s : State) (edges : List (Nat × Nat)) (devs : List Int) (hold : Int) (ok aon ppb : Nat),
    completes (.voteCompare edges devs hold ok aon ppb) s fun u =>
      let times := chTimes s edges
      (∀ i < 3, chTime u i = chTime s i + (edges.getD i (0, 0)).1 *
        ((if rd s (.ch i) Fld.SMP_CH_STAT_OSC_MHZ = 25 then (160 : Int) else 400)
          * (1024000000000 + signed 32 (rd s .tod Fld.SMP_FREQ_FREQ)
            + signed 32 (rd s (.ch i) Fld.SMP_CH_TRIM_TRIM))).toNat) ∧
      (∀ i < 3, times.getD i 0 = chTime u i / 1024000000000 + (edges.getD i (0, 0)).2) ∧
      (∀ v, voted ((voters s).map (fun i => times.getD i 0)) = some v → u.now = max s.now v) ∧
      (∀ a b c, voters s = [0, 1, 2] → times = [a, b, c] → a ≤ b → b ≤ c → u.now = max s.now b) ∧
      (∀ i < 3, rd u (.ch i) Fld.SMP_CH_OFFSET_OFFSET = satSigned 32 ((times.getD i 0 : Int) - u.now) ∧
        rd u (.ch i) Fld.SMP_CH_STAT_CLK_OK = (if bit ok i then 1 else 0)) ∧
      (∀ i ∈ voters u, rd u (.ch i) Fld.SMP_CH_TRIM_TRIM =
        satSigned 32 (chTrim s i + trimFor (chOffset s i) - trimFor (chOffset u i))) ∧
      (servo s = 2 → ∃ d : Nat, d ≤ 1024 * cfg s .tod Fld.SMP_SERVO_CFG_SLEW_PPB ∧
        rd u .tod Fld.SMP_FREQ_FREQ = satSigned 32 (hold + (srcOffset s).sign * d)) ∧
      (servo s ≠ 2 → rd u .tod Fld.SMP_FREQ_FREQ = rd s .tod Fld.SMP_FREQ_FREQ) ∧
      (aon < 2 ^ 64 → rd u .tod Fld.SMP_LEDGER_LEDGER = max (rd s .tod Fld.SMP_LEDGER_LEDGER) aon) ∧
      rd u .tod Fld.SMP_AON_PPB_PPB = trunc 32 ppb ∧
      { u with now := s.now, reg := s.reg, cnt := s.cnt, fenceLog := s.fenceLog, fresh := s.fresh, smp := s.smp,
               irqLevel := s.irqLevel, msgs := s.msgs, msixPend := s.msixPend } = s) ∧
  (∀ (s : State) (i : Nat), i < 3 → completes (.clockLost i) s fun u =>
    rd u (.ch i) Fld.SMP_CH_STAT_CLK_OK = 0 ∧ rd u (.ch i) Fld.CH_STICKY_CLK_LOST = 1 ∧
    (fenced s (.ch i) = false → voters s ≠ [i] → fenced u (.ch i) = true ∧
      rd u (.ch i) Fld.PAGE_FENCE_CAUSE_CAUSE = 4 ∧ rd u (.ch i) Fld.PAGE_FENCE_CAUSE_DETAIL = 1 ∧
      rd u (.ch i) Fld.SMP_CH_STAT_IN_VOTE = 0 ∧ rd u .tod Fld.TOD_STICKY_CH_FENCED = 1) ∧
    (fenced s (.ch i) = true ∨ voters s = [i] → fenced u (.ch i) = fenced s (.ch i) ∧ u.smp = s.smp ∧
      onlyRegsIrq s u (on (.ch i) [Fld.SMP_CH_STAT_CLK_OK, Fld.CH_STICKY_CLK_LOST]))) ∧
  (∀ (s : State) (i : Nat), i < 3 → rdB s (.ch i) Fld.SMP_CH_STAT_REJOIN = true → 1000000 ≤ tabGet s.smp.rejoin 0 i →
    completes (.channelRejoin i) s fun u =>
      rd u (.ch i) Fld.SMP_CH_STAT_REJOIN = 0 ∧ chVoting u i = !fenced s (.ch i) ∧
      (fenced s (.ch i) = false → rd u (.ch i) Fld.SMP_CH_STAT_IN_VOTE = 1) ∧ tabGet u.smp.rejoin 0 i = 0 ∧
      { u with reg := s.reg, smp := s.smp } = s) ∧
  (∀ (s : State) (t : Nat) (missed : List Nat), completes (.replicaRefresh t missed) s fun u =>
    ∀ h < 32,
      tabGet u.smp.miss 0 h = (if h ∈ missed ∧ hoopAsleep s h = false then tabGet s.smp.miss 0 h + 1 else 0) ∧
      (h ∈ missed → hoopAsleep s h = false → 3 ≤ tabGet s.smp.miss 0 h → hoopFenced u h = true) ∧
      (h ∉ missed ∨ hoopAsleep s h = true ∨ tabGet s.smp.miss 0 h < 3 → hoopFenced u h = hoopFenced s h)) ∧
  (∀ (s : State) (j c t f : Nat) (n : PtpNews),
    let x := retag (takeStamps (advance s t) j) 1031
    j < 2 → s.smp.fwHold = false → chooseClass x 1031 = some c → readyHead x 1031 c = some f →
    ptpPage s (frm s f).inPort (frm s f).bytes (frm s f).res.parsed ≠ some (1 - j) →
    completes (.ptpMessageRx j c t n) s fun u =>
      queueOf u (8 * 1031 + c) = (queueOf s (8 * 1031 + c)).eraseP (fun e => e.f == f) ∧
      (∀ q, q ≠ 8 * 1031 + c → queueOf u q = queueOf s q) ∧
      counter u (.tmg 1031) (4 * c) = trunc 64 (counter s (.tmg 1031) (4 * c) + 1) ∧
      (ptpPage s (frm s f).inPort (frm s f).bytes (frm s f).res.parsed = none → u.smp = s.smp) ∧
      (ptpPage s (frm s f).inPort (frm s f).bytes (frm s f).res.parsed = some j →
        rd u (.ptp j) Fld.SMP_PTP_GM_GM = trunc 64 n.gm ∧
        (rd s (.ptp j) Fld.SMP_PTP_GM_GM ≠ trunc 64 n.gm → rd u (.ptp j) Fld.PTP_STICKY_GM_CHANGED = 1) ∧
        (1 ≤ n.state → n.state ≤ 4 → domState u j = n.state) ∧
        (∀ o, n.offset = some o → rd u (.ptp j) Fld.SMP_PTP_OFFSET_OFFSET = unsigned 64 o)) ∧
      { u with now := s.now, reg := s.reg, cnt := s.cnt, rs := s.rs, tm := s.tm, smp := s.smp, irqLevel := s.irqLevel,
               msgs := s.msgs, msixPend := s.msixPend } = s) ∧
  (∀ (s o : State) (j n kind t f : Nat) (b : List Nat), cfgB s (.ptp j) Fld.SMP_PTP_CFG_EN = true →
    bit (word s (.ptp j) 1 n) 0 = true → ptpConforms s j n kind b = true →
    s.smp.fwHold = false → 60 ≤ b.length → b.length ≤ 9212 → freeQe s ≠ 0 →
    let c := cfg s (.ptp j) Fld.SMP_PTP_CFG_TRAP_CLASS
    let y : Machine.Frm := {
      bytes := b, inPort := 1031, arrival := max s.now t, stitch := s.stitch, stage := .queued
      stamp := some (.pillow j kind), res := { epoch := s.epoch % 65536, dest := .port n, tclass := c } }
    openFrame (takeStamps (advance s t) j) 1031 c y = (o, some f) →
    completes (.ptpMessageSend j n kind t b) s fun u =>
      u.rs = (handOver (enqPort o n c f) f).rs ∧ u.now = max s.now t ∧
      (flushes s n = false → schedOn s = false → queueOf u (8 * n + c) = queueOf s (8 * n + c) ++ [⟨f, none⟩] ∧
        (frm u f).bytes = b ∧ (frm u f).stamp = some (.pillow j kind)) ∧
      { u with now := s.now, reg := s.reg, cnt := s.cnt, rs := s.rs, tm := s.tm, irqLevel := s.irqLevel,
               msgs := s.msgs, msixPend := s.msixPend } = s)

/-- R410, R411, R413, R414, R424, R425 and Table 13.1: the servo steps time once by the last offset when it acquires and
locks, from PTP or from the beacons of a manager; it loses its source to the other domain, when AUTO_SWITCH is 1 and
that domain is LOCKED, or to HOLDOVER, and while acquiring to FREE; it locks again, switches on request, reverts to the
primary, settles and starts again from FREE; HOLDOVER and FREE keep the rate at its average over the last 10 s;
TRACEABLE falls with TRACE_LOST; U changes at a leap. Readings and choices of the model that it uses: log entries 76,
80, 81, 84, 146. -/
def Obligations.SamplerServo : Prop :=
  (∀ (s : State) (t src : Nat), src = 1 ∨ src = 2 → 8 ≤ s.smp.meas → s.smp.fwHold = false → aldFollows s = false →
    aldMember s = false → servo s = 1 → source s = src →
    completes (.servoAcquire t) s fun u =>
      let d := signed 64 (rd s (.ptp (src - 1)) Fld.SMP_PTP_OFFSET_OFFSET)
      servo u = 2 ∧ source u = src ∧ domState u (src - 1) = 3 ∧ u.now = ((max s.now t : Nat) + d).toNat ∧
      rd u .tod Fld.SMP_STEP_SEQ_STEP_SEQ = trunc 16 (rd s .tod Fld.SMP_STEP_SEQ_STEP_SEQ + 1) ∧
      rd u .tod Fld.SMP_LAST_STEP_STEP = unsigned 64 d ∧ rd u .tod Fld.TOD_STICKY_STEPPED = 1 ∧
      u.stitch = u.now / 4 / periodNs s ∧ u.smp.meas = 0 ∧ u.act = s.act ∧ u.rs = s.rs ∧ u.bob = s.bob ∧
      u.epoch = s.epoch ∧ u.cnt = s.cnt) ∧
  (∀ (s : State) (t : Nat), aldFollows s = true → servo s ≤ 1 → 8 ≤ s.smp.meas → s.smp.fwHold = false →
    completes (.servoAcquire t) s fun u =>
      servo u = 2 ∧ source u = 3 ∧ u.now = ((max s.now t : Nat) + s.smp.off3).toNat ∧
      rd u .tod Fld.SMP_STEP_SEQ_STEP_SEQ = trunc 16 (rd s .tod Fld.SMP_STEP_SEQ_STEP_SEQ + 1) ∧
      rd u .tod Fld.SMP_LAST_STEP_STEP = unsigned 64 s.smp.off3 ∧ rd u .tod Fld.TOD_STICKY_STEPPED = 1 ∧
      (aldMember s = true → u.stitch = s.stitch) ∧ (aldMember s = false → u.stitch = u.now / 4 / periodNs s) ∧
      u.smp.meas = 0 ∧ u.act = s.act ∧ u.rs = s.rs ∧ u.bob = s.bob ∧ u.epoch = s.epoch ∧ u.cnt = s.cnt) ∧
  (∀ (s : State) (t src : Nat), src = 1 ∨ src = 2 → servo s = 2 → source s = src → domState s (src - 1) ≠ 0 →
    completes (.sourceLost src t) s fun u =>
      domState u (src - 1) = 4 ∧
      (domState s (src - 1) = 3 → rd u (.ptp (src - 1)) Fld.PTP_STICKY_LOCK_LOST = 1) ∧
      (cfgB s .tod Fld.SMP_TOD_CTRL_AUTO_SWITCH = true → canSwitch s (3 - src) = true →
        servo u = 2 ∧ source u = 3 - src ∧ rd u .tod Fld.TOD_STICKY_SWITCHED = 1) ∧
      (cfgB s .tod Fld.SMP_TOD_CTRL_AUTO_SWITCH = false ∨ canSwitch s (3 - src) = false →
        servo u = 3 ∧ source u = 0 ∧ rd u .tod Fld.TOD_STICKY_HOLDOVER = 1 ∧
        rd u .tod Fld.SMP_FREQ_FREQ = satSigned 32 (freqMean (advance s t)) ∧
        u.smp.holdAt = if traceable s = true then some (max s.now t) else none) ∧
      { u with now := s.now, reg := s.reg, smp := s.smp, irqLevel := s.irqLevel, msgs := s.msgs,
               msixPend := s.msixPend } = s) ∧
  (∀ (s : State) (t src : Nat), src = 1 ∨ src = 2 → servo s = 1 → source s = src → domState s (src - 1) ≠ 0 →
    completes (.sourceLost src t) s fun u =>
      domState u (src - 1) = 4 ∧ servo u = 0 ∧ source u = 0 ∧ u.smp.meas = 0 ∧ u.now = max s.now t) ∧
  (∀ (s : State) (t : Nat), servo s = 2 → source s = 3 → completes (.sourceLost 3 t) s fun u =>
    servo u = 3 ∧ source u = 0 ∧ rd u .tod Fld.TOD_STICKY_HOLDOVER = 1 ∧
    rd u .tod Fld.SMP_FREQ_FREQ = satSigned 32 (freqMean (advance s t)) ∧
    u.smp.holdAt = (if traceable s = true then some (max s.now t) else none) ∧
    { u with now := s.now, reg := s.reg, smp := s.smp, irqLevel := s.irqLevel, msgs := s.msgs,
             msixPend := s.msixPend } = s) ∧
  (∀ (s : State) (t src : Nat), servo s = 3 ∨ servo s = 4 → s.smp.fwHold = false → canSwitch s src = true →
    completes (.sourceRegained src t) s fun u =>
      servo u = 2 ∧ source u = src ∧ u.now = max s.now t ∧ u.smp.holdAt = none ∧
      (s.smp.active = 3 - src → rd u .tod Fld.TOD_STICKY_SWITCHED = 1) ∧
      { u with now := s.now, reg := s.reg, smp := s.smp, irqLevel := s.irqLevel, msgs := s.msgs,
               msixPend := s.msixPend } = s) ∧
  (∀ (s : State) (t : Nat), servo s = 3 ∨ servo s = 4 → s.smp.fwHold = false → aldFollows s = true →
    completes (.sourceRegained 3 t) s fun u =>
      servo u = 2 ∧ source u = 3 ∧ u.now = max s.now t ∧ u.smp.holdAt = none ∧
      { u with now := s.now, reg := s.reg, smp := s.smp, irqLevel := s.irqLevel, msgs := s.msgs,
               msixPend := s.msixPend } = s) ∧
  (∀ (s : State) (t : Nat), completes (.holdoverTraceExpiry t) s fun u =>
    u.now = max s.now t ∧ traceable u = traceNow (advance s t) ∧
    (traceable s = true → traceable u = false → rd u .tod Fld.TOD_STICKY_TRACE_LOST = 1) ∧
    { u with now := s.now, reg := s.reg, irqLevel := s.irqLevel, msgs := s.msgs, msixPend := s.msixPend } = s ∧
    regsKept s u (on .tod [Fld.SMP_TOD_STAT_STATUS, Fld.TOD_STICKY_TRACE_LOST])) ∧
  (∀ (s : State) (t : Nat), servo s = 2 → source s ≠ 3 → canSwitch s (otherSrc (source s)) = true →
    completes (.switchReq t) s fun u =>
      servo u = 2 ∧ source u = otherSrc (source s) ∧ u.now = max s.now t ∧ rd u .tod Fld.TOD_STICKY_SWITCHED = 1 ∧
      status u 4 1 = 1 ∧ { u with now := s.now, reg := s.reg, smp := s.smp, irqLevel := s.irqLevel, msgs := s.msgs,
                                  msixPend := s.msixPend } = s) ∧
  (∀ (s : State) (t a : Nat), cfgB s .tod Fld.SMP_TOD_CTRL_AUTO_REVERT = true → servo s = 2 → source s = 2 →
    (domOf s 0).lockAt = some a → a + cfg s .tod Fld.SMP_REVERT_PRIM_HOLD_S * 4000000000 ≤ max s.now t →
    canSwitch s 1 = true →
    completes (.autoRevert t) s fun u =>
      servo u = 2 ∧ source u = 1 ∧ rd u .tod Fld.TOD_STICKY_SWITCHED = 1 ∧ status u 4 1 = 1) ∧
  (∀ (s : State) (off : Int), status s 4 1 = 1 → off.natAbs < 4 → source s = 1 ∨ source s = 2 →
    completes (.switchSettled off) s fun u =>
      status u 4 1 = 0 ∧ rd u (.ptp (source s - 1)) Fld.SMP_PTP_OFFSET_OFFSET = unsigned 64 off ∧
      onlyRegs s u (on .tod [Fld.SMP_TOD_STAT_STATUS] ++ on (.ptp (source s - 1)) [Fld.SMP_PTP_OFFSET_OFFSET])) ∧
  (∀ (s : State) (t : Nat), completes (.reacq t) s fun u =>
    servo u = 0 ∧ source u = 0 ∧ status u 4 1 = 0 ∧ traceable u = false ∧ u.smp.meas = 0 ∧ u.now = max s.now t ∧
    (servo s = 2 → rd u .tod Fld.SMP_FREQ_FREQ = satSigned 32 (freqMean (advance s t))) ∧
    (servo s ≠ 2 → rd u .tod Fld.SMP_FREQ_FREQ = rd s .tod Fld.SMP_FREQ_FREQ) ∧
    (traceable s = true → rd u .tod Fld.TOD_STICKY_TRACE_LOST = 1) ∧
    { u with now := s.now, reg := s.reg, smp := s.smp, irqLevel := s.irqLevel, msgs := s.msgs,
             msixPend := s.msixPend } = s) ∧
  (∀ (s : State) (t c : Nat), s.smp.leapAt = some c → c * 4000000000 ≤ max s.now t →
    completes (.leapApply t) s fun u =>
      rd u .tod Fld.SMP_UTC_OFFSET =
        unsigned 16 (utcOffset s + (if rdB s .tod Fld.SMP_UTC_LEAP61 then 1 else -1)) ∧
      rd u .tod Fld.SMP_UTC_LEAP61 = 0 ∧ rd u .tod Fld.SMP_UTC_LEAP59 = 0 ∧
      rd u .tod Fld.TOD_STICKY_LEAP_APPLIED = 1 ∧ u.leapLast = some c ∧ u.smp.leapAt = none ∧ servo u = servo s ∧
      { u with now := s.now, reg := s.reg, smp := s.smp, leapLast := s.leapLast, irqLevel := s.irqLevel,
               msgs := s.msgs, msixPend := s.msixPend } = s)

/-- R404, R421, R426 to R429, R437: LATCH takes Sampler time and counts; the value of a captured edge, with its input's
delay taken off, waits to cross, and the ninth of its input is lost and reported; as it crosses it enters the FIFO of 64
in the order of its stamp, or finds it full; an output starts its pulse OUT_ADJ before an edge of its entry, so that the
edge stands behind the board delay, and ends it after its width, and in D3 starts none; an IRIG-B second starts a frame
of 100 symbols with its markers in place; HIGH starts again from the level, at once or when the hoop runs again.
Readings and choices of the model that it uses: log entries 87, 88, 90, 202, 208. -/
def Obligations.SamplerStamps : Prop :=
  (∀ (s : State) (t : Nat), completes (.latch t) s fun u =>
    let v := max s.now t
    u.now = v ∧ rd u .tod Fld.SMP_LATCH_NS_QUARTER = v % 4 ∧ rd u .tod Fld.SMP_LATCH_NS_NS = v / 4 % 1000000000 ∧
    rd u .tod Fld.SMP_LATCH_SEC_SEC = trunc 48 (v / 4 / 1000000000) ∧
    rd u .tod Fld.SMP_LATCH_SEC_HI_LATCH_SEQ = trunc 16 (rd s .tod Fld.SMP_LATCH_SEC_HI_LATCH_SEQ + 1) ∧
    { u with now := s.now, reg := s.reg } = s ∧ regsKept s u (on .tod [Fld.SMP_LATCH_NS_QUARTER, Fld.SMP_LATCH_NS_NS,
      Fld.SMP_LATCH_SEC_SEC, Fld.SMP_LATCH_SEC_HI_LATCH_SEQ])) ∧
  (∀ (s : State) (i t : Nat) (rising : Bool),
    let on := bit (if rising then cfg s .cap Fld.SMP_CAP_RISE_RISE else cfg s .cap Fld.SMP_CAP_FALL_FALL) i
    completes (.captureEdge i t rising) s fun u =>
      u.now = max s.now t ∧ u.smp.cap = s.smp.cap ∧
      (on = false → { u with now := s.now } = s) ∧
      (on = true → u.smp.capSeq = (s.smp.capSeq + 1) % 65536) ∧
      (on = true → (s.smp.capWait.filter (fun e => e.input == i)).length < 8 →
        u.smp.capWait = s.smp.capWait ++ [{
          seq := s.smp.capSeq, edge := rising, input := i
          time := ((t : Int) - signed 16 (bits (word s .cap 2 i) 15 0)).toNat }] ∧
        { u with now := s.now, smp := s.smp } = s) ∧
      (on = true → 8 ≤ (s.smp.capWait.filter (fun e => e.input == i)).length → u.smp.capWait = s.smp.capWait ∧
        rd u .cap Fld.PAGE_HDR_STICKY_XING_SAT = 1 ∧ rd u .cap Fld.CAP_STICKY_CAP_LOST = 1)) ∧
  (∀ (s : State) (a : Nat) (e : CapEnt) (es : List CapEnt), pageAt s a = some .cap → s.smp.capWait = e :: es →
    completes (.crossingDeliver a) s fun u =>
      u.smp.capWait = es ∧
      (s.smp.cap.length < 64 →
        (u.smp.cap.map (fun x => (x.time, x.input, x.edge))).Perm
          ((e.time, e.input, e.edge) :: s.smp.cap.map (fun x => (x.time, x.input, x.edge))) ∧
        u.smp.cap.map (·.seq) = s.smp.cap.map (·.seq) ++ [e.seq] ∧
        rd u .cap Fld.SMP_CAP_LEVEL_LEVEL = s.smp.cap.length + 1) ∧
      (64 ≤ s.smp.cap.length → u.smp.cap = s.smp.cap ∧ rd u .cap Fld.CAP_STICKY_CAP_OVF = 1)) ∧
  (∀ (s : State) (i t e w : Nat), (e : Int) = t + signed 16 (bits (pulseWord s i 5) 15 0) → e % 4 = 0 →
    (∀ l, (pulseOf s i).last = some l → l < t) → s.pwr.d3 ≠ .asleep →
    (pulseMode s i = 1 ∧ pulseStart s i ≤ e / 4 ∧ 0 < pulseWord s i 2 ∧
        (e / 4 - pulseStart s i) % pulseWord s i 2 = 0 ∧ w = pulseWord s i 1 ∨
      pulseMode s i = 2 ∧ e / 4 = pulseStart s i ∧ w = pulseWord s i 1 ∨
      pulseMode s i = 3 ∧ 0 < bits (pulseWord s i 0) 31 16 ∧ w = pulseWord s i 1 ∧
        (e = s.bndAt ∧ s.stitch % bits (pulseWord s i 0) 31 16 = 0 ∨
          e = s.nextBnd ∧ (s.stitch + 1) % bits (pulseWord s i 0) 31 16 = 0) ∨
      pulseMode s i = 4 ∧ e / 4 % 10000000 = 0 ∧ 0 < e / 4 % 1000000000 / 10000000 ∧
        ∃ y, (pulseOf s i).irig[e / 4 % 1000000000 / 10000000]? = some y ∧
          w = if y = 0 then 2000000 else if y = 1 then 5000000 else 8000000) →
    completes (.pulseEdge i t) s fun u =>
      pulseOf u i = { pulseOf s i with last := some t, fin := some (t + 4 * w) } ∧
      pulseLevel u i = !bit (pulseWord s i 0) 3 ∧ (∀ k, k ≠ i → pulseOf u k = pulseOf s k) ∧
      { u with now := s.now, smp := s.smp } = s) ∧
  (∀ (s : State) (i t : Nat), s.pwr.d3 = .asleep →
    completes (.pulseEdge i t) s (fun u => { u with now := s.now } = s) ∧
    completes (.irigBSecond i t) s (fun u => { u with now := s.now } = s)) ∧
  (∀ (s : State) (i t e : Nat), (pulseOf s i).fin = some e → e ≤ t →
    completes (.pulseWidthEnd i t) s fun u =>
      pulseOf u i = { pulseOf s i with fin := none } ∧ pulseLevel u i = bit (pulseWord s i 0) 3 ∧
      (∀ k, k ≠ i → pulseOf u k = pulseOf s k) ∧ { u with now := s.now, smp := s.smp } = s) ∧
  (∀ (s : State) (i t e : Nat), (e : Int) = t + signed 16 (bits (pulseWord s i 5) 15 0) → pulseMode s i = 4 →
    e % 4000000000 = 0 → (∀ l, (pulseOf s i).last = some l → l < t) →
    s.pwr.d3 ≠ .asleep →
    completes (.irigBSecond i t) s fun u =>
      (pulseOf u i).last = some t ∧ (pulseOf u i).fin = some (t + 32000000) ∧ (pulseOf u i).irig.length = 100 ∧
      (∀ k < 100, (pulseOf u i).irig.getD k 0 = 2 ↔ k = 0 ∨ k % 10 = 9) ∧
      (∀ k, k ≠ i → pulseOf u k = pulseOf s k) ∧ { u with now := s.now, smp := s.smp } = s) ∧
  (∀ (s : State) (h : Nat), completes (.highClr h) s fun u =>
    (domainOff s (.ts h) = false → rd u (.ts h) Fld.HOP_TS_STAT_HIGH = trunc 10 (rd s (.ts h) Fld.HOP_TS_STAT_LEVEL) ∧
      onlyRegs s u (on (.ts h) [Fld.HOP_TS_STAT_HIGH])) ∧
    (domainOff s (.ts h) = true → eventsOf (xingOf s (.ts h)) < 256 →
      xingOf u (.ts h) = xingOf s (.ts h) ++ [.event (fieldKey (.ts h) Fld.HOP_TS_CTRL_HIGH_CLR)] ∧
      { u with xing := s.xing } = s))

/-- R129, R176, R444 to R450, R474: a PROBE goes out no earlier than its interval allows, and it and its answer carry
their stamps; a cell waits for the end of the frame that its port sends; an answered exchange within 50 ns gives the
DELAY as the mean of the last eight, another is not used and three such in a row fence the link; what comes in passes
the descrambler, which is synchronised after 58 bits, and its codewords count; a link frame is checked in the order of
R446, and only one that passes is counted and taken; HELLO gives the peer. Readings and choices of the model that it
uses: log entries 92, 93, 94, 95, 189, 206. -/
def Obligations.AladotraLinks : Prop :=
  (∀ (s : State) (n t : Nat), 1 ≤ lstate s n → lstate s n ≤ 5 →
    (∀ q, (linkOf s n).probeAt = some q →
      q + (if lstate s n = 1 then 1 else cfg s .ald Fld.ALD_TIMERS_PROBE_DIV) ≤ s.stitch) →
    completes (.probeSend n t) s fun u =>
      let id := ((linkOf s n).probeId + 1) % 65536
      (linkOf u n).probe = some (id, adjust t (asym s n)) ∧ (linkOf u n).probeId = id ∧ sentCell s u n 2 ∧
      (linkOf u n).probeAt = some s.stitch ∧ (txOf s n = none → be16 (linkOf u n).out 16 = id) ∧ u.now = max s.now t ∧
      (∀ k, k ≠ n → linkOf u k = linkOf s k) ∧ { u with now := s.now, cnt := s.cnt, ald := s.ald } = s ∧
      { u.ald with link := s.ald.link } = s.ald ∧ countersKept s u [cntKey (.mac n) 35]) ∧
  (∀ (s : State) (n t t2 src : Nat) (b : List Nat), cellHeld s n 2 = some (2, b, t2, src) → 2 ≤ b.length → 1 ≤ lstate s n →
    lstate s n ≤ 5 →
    completes (.probeRx n t) s fun u =>
      tookCell s u n 2 ∧ sentCell s u n 3 ∧ (txOf s n = none → be16 (linkOf u n).out 16 = be16 b 0) ∧
      (∀ k, k ≠ n → linkOf u k = linkOf s k) ∧ { u with now := s.now, cnt := s.cnt, ald := s.ald } = s) ∧
  (∀ (s : State) (n t t1 t4 id src : Nat) (b : List Nat), n < 1024 → cellHeld s n 3 = some (3, b, t4, src) →
    (linkOf s n).probe = some (id, t1) → be16 b 0 = id →
    let v : Int := ((t4 : Int) - t1) - ((readTime b 12 : Int) - readTime b 2)
    let x := linkOf s n
    let far := x.ex ≠ [] ∧ 400 < (v + 2 * asym s n - 2 * linkDelay s n).natAbs
    completes (.probeRespRx n t) s fun u =>
      tookCell s u n 3 ∧ (linkOf u n).probe = none ∧
      (¬ far → (linkOf u n).ex = (x.ex ++ [v]).drop (x.ex.length - 7) ∧ (linkOf u n).badEx = 0 ∧
        rd u (.mac n) Fld.MAC_ALD_DELAY_DELAY =
          trunc 32 ((linkOf u n).ex.foldl (· + ·) 0 / (2 * (linkOf u n).ex.length : Nat) + asym s n).toNat) ∧
      (far → (linkOf u n).ex = x.ex ∧ (linkOf u n).badEx = x.badEx + 1 ∧
        rd u (.mac n) Fld.MAC_STICKY_DELAY_JUMP = 1 ∧ linkDelay u n = linkDelay s n ∧
        (x.badEx < 2 → fenced u (.mac n) = fenced s (.mac n)) ∧
        (2 ≤ x.badEx → fenced s (.mac n) = false → fenced u (.mac n) = true ∧ lstate u n = 6 ∧
          rd u (.mac n) Fld.PAGE_FENCE_CAUSE_CAUSE = 6 ∧ rd u (.mac n) Fld.PAGE_FENCE_CAUSE_DETAIL = 2))) ∧
  (∀ (s : State) (n t : Nat) (pre line fec : List Nat) (overrun : Bool), n < 1024 → isAld s n = true →
    1 ≤ lstate s n → lstate s n ≤ 5 →
    let x := (linkOf s n).dsc
    completes (.aldLinkFrameRx n t pre line overrun fec) s fun u =>
      (∀ i < 4, counter u (.mac n) (21 + i) =
        if rsFec s n = true then trunc 64 (counter s (.mac n) (21 + i) + fec.getD i 0) else counter s (.mac n) (21 + i)) ∧
      (linkOf u n).dsc =
        (min 58 (min 58 (x.1 + 8 * pre.length) + 8 * line.length), (unscramble (unscramble x.2 pre).2 line).2) ∧
      (x.1 + 8 * pre.length < 58 → (linkOf u n).inbox = (linkOf s n).inbox ∧ (linkOf u n).rxSeq = (linkOf s n).rxSeq ∧
        u.rs = s.rs ∧ u.reg = s.reg)) ∧
  (∀ (s : State) (n t : Nat) (pre line fec : List Nat) (overrun : Bool), n < 1024 → isAld s n = true →
    1 ≤ lstate s n → lstate s n ≤ 5 → 58 ≤ (linkOf s n).dsc.1 + 8 * pre.length →
    let b := (unscramble (unscramble (linkOf s n).dsc.2 pre).2 line).1
    completes (.aldLinkFrameRx n t pre line overrun fec) s fun u =>
      let good := be16 b 14 = crc16 (b.take 14)
      let alien := be16 b 12 ≠ sysId s % 65536
      let type := byteAt b 0 / 16
      let len := be16 b 8
      (¬ good → counter u (.mac n) 37 = trunc 64 (counter s (.mac n) 37 + 1) ∧ rd u (.mac n) Fld.MAC_STICKY_HCRC_ERR = 1 ∧
        (linkOf u n).inbox = (linkOf s n).inbox ∧ counter u (.mac n) 34 = counter s (.mac n) 34 ∧
        counter u (.mac n) 36 = counter s (.mac n) 36) ∧
      (good → (linkOf u n).rxSeq = some (be16 b 10)) ∧
      (good → alien → rd u (.mac n) Fld.MAC_STICKY_SYSID_MISMATCH = 1) ∧
      (good → alien → lstate s n ≠ 1 → (linkOf u n).inbox = (linkOf s n).inbox ∧ u.rs = s.rs ∧
        countersKept s u ((List.range 4).map (fun i => cntKey (.mac n) (21 + i)))) ∧
      (good → ¬ alien → ¬ (type = 2 ∧ len = 48) → ¬ (type = 1 ∧ 64 ≤ len ∧ len ≤ 16384) →
        (linkOf u n).inbox = (linkOf s n).inbox ∧ u.rs = s.rs) ∧
      (good → ¬ alien → type = 2 ∧ len = 48 ∨ type = 1 ∧ 64 ≤ len ∧ len ≤ 16384 ∧ be16 b 2 / 64 ≠ ownMember s →
        counter u (.mac n) 41 = if (linkOf s n).rxSeq.any (fun q => (q + 1) % 65536 != be16 b 10) then
          trunc 64 (counter s (.mac n) 41 + 1) else counter s (.mac n) 41) ∧
      (good → ¬ alien → type = 1 → 64 ≤ len → len ≤ 16384 → be16 b 2 / 64 = ownMember s →
        counter u (.mac n) 40 = trunc 64 (counter s (.mac n) 40 + 1) ∧ rd u (.mac n) Fld.MAC_STICKY_LOOP_DROP = 1 ∧
        u.rs = s.rs) ∧
      (good → ¬ alien → type = 1 → 64 ≤ len → len ≤ 16384 → be16 b 2 / 64 ≠ ownMember s → 3 ≤ lstate s n →
        counter u (.mac n) 34 = trunc 64 (counter s (.mac n) 34 + 1)) ∧
      (good → ¬ alien → type = 2 → len = 48 → 2 ≤ lstate s n → 1 ≤ be16 b 2 % 64 → be16 b 2 % 64 ≤ 13 →
        beNat (slice (slice b 16 48) 44 4) = crc32c ((slice b 16 48).take 44) →
        (linkOf u n).inbox = (linkOf s n).inbox ++
          [(be16 b 2 % 64, slice b 16 48, adjust t (asym s n), be16 b 2 / 64)] ∧
        counter u (.mac n) 36 = trunc 64 (counter s (.mac n) 36 + 1))) ∧
  (∀ (s : State) (n sys proto uid peer : Nat) (pair : Bool), n < 1024 → takesCell s n 4 →
    completes (.helloRx n sys proto uid peer pair) s fun u =>
      tookCell s u n 4 ∧ (linkOf u n).hello = some (sys, proto, uid, peer) ∧ (linkOf u n).peerPair = pair ∧
      rd u (.mac n) Fld.MAC_ALD_PEER_VALID = 1 ∧ rd u (.mac n) Fld.MAC_ALD_PEER_PORT = trunc 11 peer ∧
      (∀ h, (linkOf s n).hello = some h → h.2.2.1 ≠ uid → rd u (.mac n) Fld.MAC_STICKY_PEER_CHANGED = 1) ∧
      (2 ≤ lstate s n → lstate s n ≤ 5 → sys ≠ sysId s → lstate u n = 1) ∧
      (lstate s n = 1 → sys = sysId s → (linkOf s n).ex ≠ [] → lstate u n = 2))

/-- R440, R451 to R456, R465, R466, R469: a beacon is recorded and its content held; where no beacon of its system comes
for 1 s a capable device becomes active manager, and the lower of two gives up; a joining device asks, the manager
admits it with a number and a join stitch, and the device takes them; a standby that misses the content takes over,
other members learn the new manager; a handover is announced and learned. Readings and choices of the model that it
uses: log entries 97, 100, 101, 104, 108, 203, 204, 206, 209. -/
def Obligations.AladotraManagers : Prop :=
  (∀ (s : State) (n t rx src : Nat) (body : List Nat) (lower : Bool) (copy : Option AldCopy), n < 1024 →
    cellHeld s n 1 = some (1, body, rx, src) → 2 ≤ lstate s n → lstate s n ≤ 5 →
    completes (.beaconRx n t lower copy) s fun u =>
      let b := readBeacon body
      tookCell s u n 1 ∧ (linkOf u n).beacon = some b ∧ (linkOf u n).beaconAt = s.stitch ∧
      counter u .ald 1 = trunc 64 (counter s .ald 1 + 1) ∧
      (isManager s = true → b.active ≠ ownMember s ∨ b.depth = 0 → lower = true →
        mstate u = 1 ∧ mgrPos u = 3 ∧ rd u .ald Fld.ALD_STICKY_MGR_CONFLICT = 1 ∧ u.ald.pend = [] ∧ u.ald.member = []) ∧
      (isManager s = false → parentPort s = some n → u.ald.fresh = s.ald.fresh ++ [b] ∧
        rd u .ald Fld.ALD_MGRS_ACTIVE = trunc 10 b.active)) ∧
  (∀ (s : State) (t : Nat), s.ald.capable = true → cfgB s .ald Fld.ALD_CTRL_EN = true → mstate s = 1 ∨ mstate s = 6 →
    s.ald.alone + 4000000000 ≤ t →
    completes (.managerElection t) s fun u =>
      mstate u = 4 ∧ mgrPos u = 1 ∧ parentPort u = none ∧ rd u .ald Fld.ALD_MGRS_ACT_VALID = 1 ∧
      rd u .ald Fld.ALD_MGRS_ACTIVE = ownMember u ∧ rd u .ald Fld.ALD_MGRS_SB_VALID = 0 ∧ u.ald.firstBeacon = true ∧
      ((memberOf s 0).state = 0 → ownMember u = 0)) ∧
  (∀ (s : State) (t p : Nat), mstate s = 2 → servo s = 2 → source s = 3 → s.smp.off3.natAbs ≤ 80 → s.smp.fwHold = false →
    parentPort s = some p →
    completes (.joinReqSend t) s fun u =>
      sentCell s u p 5 ∧ { u with now := s.now, cnt := s.cnt, ald := s.ald, fresh := s.fresh } = s) ∧
  (∀ (s : State) (n uid proto lastc prio : Nat) (capable : Bool), takesCell s n 5 → isManager s = true →
    let m := memberNumber s uid
    let x := memberOf s m
    let no := proto ≠ Config.proto ∨ (x.uid ≠ uid ∧ 1024 ≤ s.ald.member.length) ∨
      (x.uid = uid ∧ (x.state = 2 ∨ x.state = 3 ∨ x.state = 5))
    completes (.joinReq n uid proto lastc capable prio) s fun u =>
      (no → u.ald.member = s.ald.member ∧ counter u .ald 4 = counter s .ald 4) ∧
      (¬ no → memberOf u m = { x with uid := uid, capable := capable, prio := prio, lastCid := lastc, state := 1,
                                      change := (secondBoundary s (s.stitch + sysLead s) s.now).1, seen := s.stitch } ∧
        (∀ k, k ≠ m → memberOf u k = memberOf s k) ∧ counter u .ald 4 = trunc 64 (counter s .ald 4 + 1))) ∧
  (∀ (s : State) (n member sj : Nat) (refused : Bool) (b : Beacon), takesCell s n 6 → mstate s = 2 →
    (linkOf s n).beacon = some b →
    completes (.joinGrant n (Config.devUid % 2 ^ 64) refused member sj) s fun u =>
      tookCell s u n 6 ∧
      (refused = true → rd u .ald Fld.ALD_STICKY_JOIN_REFUSED = 1 ∧ u.ald.joinAt = s.ald.joinAt) ∧
      (refused = false → u.ald.joinAt = some (sj, managerTime b sj) ∧ ownMember u = trunc 10 member)) ∧
  (∀ (s : State) (t : Nat), mgrPos s = 2 →
    let d := match (pairLinks s).head? with | some n => linkDelay s n | none => 0
    (s.bndAt : Int) - ((s.stitch : Int) - (newestContent s + 1 : Nat)) * (4 * periodNs s : Nat)
      + (d + 1024 + 4 * cfg s .ald Fld.ALD_MGR_CFG_MISS_TOL : Nat) < t →
    completes (.mgrLost t) s fun u =>
      u.ald.lost = true ∧ rd u .ald Fld.ALD_STICKY_MGR_LOST = 1 ∧ { u.ald with lost := s.ald.lost } = s.ald ∧
      { u with now := s.now, reg := s.reg, ald := s.ald, irqLevel := s.irqLevel, msgs := s.msgs,
               msixPend := s.msixPend } = s) ∧
  (∀ (s : State) (t : Nat), mgrPos s = 2 → s.ald.lost = true → filIdle s = true →
    completes (.takeoverActive t) s fun u =>
      mgrPos u = 1 ∧ mstate u = 4 ∧ parentPort u = none ∧ rd u .ald Fld.ALD_MGRS_ACTIVE = trunc 10 (ownMember s) ∧
      u.ald.lost = false ∧ u.ald.firstBeacon = true ∧ rd u .ald Fld.ALD_STICKY_TAKEOVER = 1 ∧
      counter u .ald 12 = trunc 64 (counter s .ald 12 + 1)) ∧
  (∀ (s : State) (n member : Nat), takesCell s n 11 → isManager s = false → rd s .ald Fld.ALD_MGRS_ACTIVE ≠ member →
    completes (.takeover n member) s fun u =>
      tookCell s u n 11 ∧ rd u .ald Fld.ALD_MGRS_ACTIVE = trunc 10 member) ∧
  (∀ (s : State) (t : Nat), 0 < periodNs s → periodNs s ≤ 1000000000 → isManager s = true →
    rdB s .ald Fld.ALD_MGRS_SB_VALID = true →
    (memberOf s (rd s .ald Fld.ALD_MGRS_STANDBY)).state = 3 → cfgB s .ald Fld.ALD_CTRL_REVERT_EN = true →
    (memberOf s (rd s .ald Fld.ALD_MGRS_STANDBY)).prio * 2 ^ 64 + (memberOf s (rd s .ald Fld.ALD_MGRS_STANDBY)).uid
      < cfg s .ald Fld.ALD_CTRL_MGR_PRIO * 2 ^ 64 + Config.devUid % 2 ^ 64 →
    s.ald.handAt = none → s.ald.standbyAt + cfg s .ald Fld.ALD_MGR_CFG_REVERT_S * 4000000000 ≤ t →
    completes (.handoverStart t) s fun u =>
      (∃ sh, u.ald.handAt = some sh ∧ s.stitch + sysLead s ≤ sh) ∧ u.ald.handTo = rd s .ald Fld.ALD_MGRS_STANDBY) ∧
  (∀ (s : State) (n dst sh : Nat), takesCell s n 12 →
    completes (.handover n dst sh) s fun u => u.ald.handAt = some sh ∧ u.ald.handTo = dst)

/-- R448, R457, R458: STATUS goes up to the active manager, no earlier than STATUS_DIV lets it, which records the member
and takes one that falls silent as absent; a member asks to leave, the manager names the leave stitch and the member takes it. Readings and choices of the
model that it uses: log entries 95, 100, 204, 206. -/
def Obligations.AladotraMembers : Prop :=
  (∀ (s : State) (p : Nat), aldMember s = true → isManager s = false → s.smp.fwHold = false → parentPort s = some p →
    (∀ q, s.ald.statusAt = some q → q + cfg s .ald Fld.ALD_TIMERS_STATUS_DIV ≤ s.stitch) →
    completes .statusSend s fun u =>
      sentCell s u p 7 ∧ u.ald.statusAt = some s.stitch ∧ { u with cnt := s.cnt, ald := s.ald, fresh := s.fresh } = s) ∧
  (∀ (s : State) (n member st lag depth parent lastc prio : Nat), takesCell s n 7 → isManager s = true →
    (memberOf s member).state ≠ 0 → (memberOf s member).state ≠ 4 →
    completes (.statusRx n member st lag depth parent lastc prio) s fun u =>
      let x := memberOf s member
      memberOf u member = { x with lag := lag, depth := depth, parent := parent, lastCid := lastc, seen := s.stitch,
                                   prio := prio, state := if x.state = 2 ∧ st = 4 then 3
                                                          else if x.state = 3 ∧ st = 3 then 2 else x.state } ∧
      (∀ k, k ≠ member → memberOf u k = memberOf s k) ∧ rd u .ald Fld.ALD_TREE_MAXLAG = trunc 8 (maxLagNow u)) ∧
  (∀ (s : State) (m : Nat), isManager s = true → m ≠ ownMember s →
    (memberOf s m).state = 2 ∨ (memberOf s m).state = 3 ∨ (memberOf s m).state = 5 →
    (memberOf s m).seen + cfg s .ald Fld.ALD_TIMERS_ABSENT * cfg s .ald Fld.ALD_TIMERS_STATUS_DIV < s.stitch →
    completes (.memberAbsent m) s fun u =>
      memberOf u m = { memberOf s m with state := 4 } ∧ (∀ k, k ≠ m → memberOf u k = memberOf s k) ∧
      { u with reg := s.reg, ald := s.ald } = s) ∧
  (∀ (s : State) (p : Nat), mstate s = 3 ∨ mstate s = 4 → isManager s = false → parentPort s = some p →
    completes .leaveReq s fun u =>
      mstate u = 5 ∧ sentCell s u p 13 ∧ { u with reg := s.reg, cnt := s.cnt, ald := s.ald, fresh := s.fresh } = s ∧
      regsKept s u (on .ald [Fld.ALD_STAT_MSTATE])) ∧
  (∀ (s : State) (n member : Nat), takesCell s n 13 → isManager s = true → (memberOf s member).state ≠ 0 →
    completes (.leave n member none) s fun u =>
      memberOf u member = { memberOf s member with
        state := 5, change := (secondBoundary s (s.stitch + sysLead s) s.now).1 } ∧
      (∀ k, k ≠ member → memberOf u k = memberOf s k)) ∧
  (∀ (s : State) (n v : Nat), takesCell s n 13 → mstate s = 5 →
    completes (.leave n (ownMember s) (some v)) s fun u =>
      tookCell s u n 13 ∧ u.ald.leaveAt = some v ∧ { u with ald := s.ald } = s)

/-- R459 to R461, R463, R464: the active manager refuses a request with its REASON or issues it under the next CID and
takes it itself; a member, also a leaving one, takes a commit, stages its records and acknowledges; software
acknowledges with SC_ACK; the manager records acknowledgements and refusals; a round of resynchronisation is requested
for SYNC_GROUP at the stitch named. Readings and choices of the model that it uses: log entries 104, 204, 206. -/
def Obligations.AladotraCommits : Prop :=
  (∀ (s : State), s.smp.fwHold = false → filIdle s = true →
    let target := bk s .ald Fld.ALD_SC_TARGET_LO_TARGET + 2 ^ 32 * bk s .ald Fld.ALD_SC_TARGET_HI_TARGET
    let groups := rd s .ald Fld.ALD_SC_REQ_GROUPS
    let why := scReason s target groups
    completes .scRequest s fun u =>
      counter u .ald 6 = trunc 64 (counter s .ald 6 + 1) ∧ u.ald.records = [] ∧ u.ald.badRecord = false ∧
      (why ≠ 0 → rd u .ald Fld.ALD_SC_STAT_STATE = 4 ∧ rd u .ald Fld.ALD_SC_STAT_REASON = why ∧
        u.ald.pend = s.ald.pend ∧ u.ald.nextCid = s.ald.nextCid) ∧
      (why = 0 → rd u .ald Fld.ALD_SC_STAT_STATE = 1 ∧ rd u .ald Fld.ALD_SC_STAT_CID = trunc 16 s.ald.nextCid ∧
        u.ald.nextCid = (s.ald.nextCid + 1) % 65536 ∧
        (∃ c ∈ u.ald.pend, c.cid = s.ald.nextCid ∧ c.target = target ∧ c.groups = groups ∧ c.records = s.ald.records) ∧
        counter u .ald 11 = trunc 64 (counter s .ald 11 + s.ald.records.length))) ∧
  (∀ (s : State) (n : Nat) (c : SysCommit), filIdle s = true → takesCell s n 8 → parentPort s = some n →
    isManager s = false → mstate s = 3 ∨ mstate s = 4 ∨ mstate s = 5 →
    completes (.scDist n c) s fun u =>
      ∃ x ∈ u.ald.pend, x.cid = c.cid ∧ x.target = c.target ∧ x.groups = c.groups ∧ x.records = c.records ∧ x.seen = false ∧
        (x.staged = false → rd u .ald Fld.ALD_STICKY_SYNC_FAIL = 1 ∧ ownMember s ∈ x.refusals) ∧
        (x.staged = true → cfgB s .ald Fld.ALD_CTRL_ACK_AUTO = true → ownMember s ∈ x.acks)) ∧
  (∀ (s : State) (c : SysCommit), c ∈ s.ald.pend → c.cid = rd s .ald Fld.ALD_SC_ACK_CID → c.staged = true →
    c.acked = false →
    completes .scAckWrite s fun u =>
      (∃ x ∈ u.ald.pend, x = { c with acks := c.acks ++ [ownMember s], acked := true }) ∧
      (∀ x ∈ s.ald.pend, x.cid ≠ c.cid → x ∈ u.ald.pend) ∧
      (∀ p, isManager s = false → parentPort s = some p → sentCell s u p 9)) ∧
  (∀ (s : State) (n member cid : Nat) (refuse : Bool), takesCell s n 9 → isManager s = true →
    completes (.scAck n member cid refuse) s fun u =>
      tookCell s u n 9 ∧
      u.ald.pend = s.ald.pend.map (fun c => if c.cid ≠ cid then c
        else if refuse then { c with refusals := c.refusals ++ [member] } else { c with acks := c.acks ++ [member] }) ∧
      (refuse = true → rd u .ald Fld.ALD_SC_STAT_REASON = 8 ∧ rd u .ald Fld.ALD_SC_STAT_CID = trunc 16 cid)) ∧
  (∀ (s : State) (n cid sa : Nat) (records : List (List Nat)) (last : Bool), filIdle s = true → takesCell s n 10 →
    mstate s = 3 →
    completes (.tsync n (ownMember s) records last cid sa) s fun u =>
      (tabGet u.groups {} (cfg s .ald Fld.ALD_CTRL_SYNC_GROUP)).req = some (.targeted sa) ∧
      (tabGet u.groups {} (cfg s .ald Fld.ALD_CTRL_SYNC_GROUP)).state = 2 ∧
      u.ald.syncCid = (if last then some cid else none) ∧
      u.ald.sync = (if last then [] else s.ald.sync ++ records.map (fun r => r.getD 1 0 + 2 ^ 32 * r.getD 2 0)))

/-- R480, R485 to R492, R506, R515: an enable turns a pair on or is refused; a doorbell makes the engine read its entry,
and arms its interrupt; an owned entry that ends a well-formed chain makes a send, one without OWN stops the engine, a
malformed one, or one that cannot be read, stops the ring and fences the function once no send is before it; a send
whose turn among the rings of its port it is and whose bytes are read enters the data plane and is counted, frame by
frame where it is cut, in the pipeline of its hoop or direct on its port, and into a fenced hoop it fails; its
completion gives its entries back with the outcome of its stamp, waits for that, or fences the function where a write
fails; an armed source fires when its time has passed. Readings and choices of the model that it uses: log entries 110,
111, 112, 114, 115, 122, 190, 191, 205. -/
def Obligations.HostSends : Prop :=
  (∀ (s : State) (f n : Nat) (hi : Bool), n < 32 →
    let q := 32 * b2n hi + n
    qpOn s f q = false →
    completes (.qpEnable f hi (2 ^ n)) s fun u =>
      (qpMayEnable s f q = true → qpOn u f q = true ∧ txEng u f q = { old := (txEng s f q).old } ∧ rxEng u f q = {} ∧
        irqSrc u f q false = { armed := true } ∧ irqSrc u f q true = { armed := true } ∧
        (∀ r < 64, r ≠ q → qpOn u f r = qpOn s f r) ∧ { u with reg := s.reg, ndl := s.ndl } = s ∧
        regsKept s u (on (.ndlf f) [Fld.NDL_QP_ON_ON])) ∧
      (qpMayEnable s f q = false → rd u (.ndlf f) Fld.NDLF_STICKY_CFG_REFUSED = 1 ∧ qpOn u f q = false ∧
        onlyRegsIrq s u (on (.ndlf f) [Fld.NDLF_STICKY_CFG_REFUSED]))) ∧
  (∀ (s : State) (f q w : Nat), q < 64 → qpOn s f q = true → fnHalted s f = false → (txEng s f q).bad = none →
    completes (.txDoorbell f q w) s fun u =>
      let x := txEng s f q
      txEng u f q = (if x.reading then { x with again := true } else { x with reading := true }) ∧
      (bit w 31 = false → { u with ndl := s.ndl } = s ∧ { u.ndl with tx := s.ndl.tx } = s.ndl) ∧
      (bit w 31 = true → (irqSrc s f q false).count < modCnt s f q →
        irqSrc u f q false = { irqSrc s f q false with armed := true }) ∧
      (bit w 31 = true → modCnt s f q ≤ (irqSrc s f q false).count →
        irqSrc u f q false = {} ∧ counter u (.ndlf f) 7 = trunc 64 (counter s (.ndlf f) 7 + 1))) ∧
  (∀ (s : State) (f q : Nat) (ws : List Nat), qpOn s f q = true → fnHalted s f = false → ringParked s f q false = false →
    (txEng s f q).reading = true → ((txEng s f q).chain ≠ [] ∨ acctHeld s (txAccount s f q) = false) →
    completes (.txEntryFetched f q ws none) s fun u =>
      let x := txEng s f q
      let e : ChainEnt := ⟨x.next, ws.getD 0 0 + ws.getD 1 0 * 2 ^ 32, bits (ws.getD 2 0) 16 0, ws.getD 7 0⟩
      let c := x.chain ++ [e]
      let first := if x.chain = [] then ws else x.first
      let fin := !bit e.w7 28
      (bit (ws.getD 7 0) 31 = false → txEng u f q = { x with reading := x.again, again := false } ∧
        { u with ndl := s.ndl } = s) ∧
      (bit (ws.getD 7 0) 31 = true → sendReason s f first c fin = none → fin = true →
        txEng u f q = { x with next := (x.next + 1) % ringSize s f q false, again := false, chain := [], first := [],
                               no := x.no + 1, sends := x.sends ++ [mkSend s f q first c x.no] } ∧
        { u with ndl := s.ndl } = s) ∧
      (bit (ws.getD 7 0) 31 = true → sendReason s f first c fin = none → fin = false →
        txEng u f q = { x with next := (x.next + 1) % ringSize s f q false, again := false, chain := c, first := first } ∧
        { u with ndl := s.ndl } = s) ∧
      (∀ r, f < 64 → bit (ws.getD 7 0) 31 = true → sendReason s f first c fin = some r →
        (txEng u f q).bad = some ⟨r, if r = 2 then e.idx else (c.head?.map (·.idx)).getD e.idx, 0⟩ ∧
        (txEng u f q).sends = x.sends ∧
        (x.sends = [] → rd u (.ndlf f) Fld.PAGE_FENCE_FENCED = 1 ∧ rd u (.ndlf f) Fld.PAGE_FENCE_CAUSE_CAUSE = 3 ∧
          rd u (.ndlf f) Fld.PAGE_FENCE_CAUSE_DETAIL = trunc 24 (r * 2 ^ 8 + q * 2 ^ 14) ∧
          rd u (.ndlf f) Fld.NDL_FN_FAULT_VALID = 1))) ∧
  (∀ (s : State) (f q a : Nat) (ws : List Nat), f < 64 → qpOn s f q = true → fnHalted s f = false →
    ringParked s f q false = false → (txEng s f q).reading = true →
    ((txEng s f q).chain ≠ [] ∨ acctHeld s (txAccount s f q) = false) →
    completes (.txEntryFetched f q ws (some a)) s fun u =>
      (txEng u f q).bad = some ⟨8, (txEng s f q).next, a⟩ ∧ (txEng u f q).sends = (txEng s f q).sends ∧
      ((txEng s f q).sends = [] → rd u (.ndlf f) Fld.PAGE_FENCE_FENCED = 1 ∧
        rd u (.ndlf f) Fld.PAGE_FENCE_CAUSE_DETAIL = trunc 24 (8 * 2 ^ 8 + q * 2 ^ 14) ∧
        rd u (.ndlf f) Fld.NDL_FN_FAULT_ADDR_ADDR = trunc 64 a)) ∧
  (∀ (s o : State) (f q t h g : Nat) (b : List Nat) (x : Send), f < 64 → (txEng s f q).old = [] →
    nextSend (txEng s f q) = some x → x.bytes = none → x.frames = 0 → fnHalted s f = false →
    ringParked s f q false = false → rrTurn s x.port (64 * f + q) = true →
    b.length = chainLen x.ents → bits (x.first.getD 7 0) 30 29 = 0 → x.hoop = some h →
    hoopFenced s h = false → domainOff s (.prk h) = false →
    let y : Machine.Frm := {
      bytes := b, inPort := x.port, hoop := h, arrival := max s.now t, stitch := s.stitch, stage := .lookup }
    openFrame (advance s t) x.port x.cls y = (o, some g) →
    completes (.sendEnter f q t b none) s fun u =>
      u.rs = o.rs ∧ (frm u g).bytes = b ∧ (frm u g).stage = .lookup ∧ (frm u g).hoop = h ∧
      (txEng u f q).sends = (txEng s f q).sends.map (fun z => if z.no = x.no then
        { x with frames := 1, entered := true } else z) ∧
      counter u (.ndlf f) 0 = trunc 64 (counter s (.ndlf f) 0 + 1) ∧
      counter u (.ndlf f) 1 = trunc 64 (counter s (.ndlf f) 1 + 1) ∧
      counter u (.ndlf f) 2 = trunc 64 (counter s (.ndlf f) 2 + b.length)) ∧
  (∀ (s o : State) (f q t g : Nat) (b : List Nat) (x : Send), f < 64 → (txEng s f q).old = [] →
    nextSend (txEng s f q) = some x → x.bytes = none → x.frames = 0 → fnHalted s f = false →
    ringParked s f q false = false → rrTurn s x.port (64 * f + q) = true →
    b.length = chainLen x.ents → bits (x.first.getD 7 0) 30 29 = 0 → x.hoop = none →
    let y : Machine.Frm := {
      bytes := b, inPort := x.port, src := x.port, arrival := max s.now t, stitch := s.stitch, stage := .queued
      res := { epoch := s.epoch % 65536, dest := .port (bits (x.first.getD 5 0) 10 0), tclass := x.cls }
      stamp := if bit (x.first.getD 7 0) 26 then some (.host f q x.no) else none, serial := s.rs.serial }
    placeRoom (advance s t) y 0 = true → lookupBehind (advance s t) y = false →
    openFrame (advance s t) x.port x.cls y = (o, some g) →
    completes (.sendEnter f q t b none) s fun u =>
      u.rs = (handOver (enqPort o (bits (x.first.getD 5 0) 10 0) x.cls g) g).rs ∧
      (txEng u f q).sends = (txEng s f q).sends.map (fun z => if z.no = x.no then
        { x with frames := 1, entered := true } else z) ∧
      counter u (.ndlf f) 0 = trunc 64 (counter s (.ndlf f) 0 + 1) ∧
      counter u (.ndlf f) 1 = trunc 64 (counter s (.ndlf f) 1 + 1) ∧
      counter u (.ndlf f) 2 = trunc 64 (counter s (.ndlf f) 2 + b.length)) ∧
  (∀ (s : State) (f q t : Nat) (b : List Nat) (x : Send), f < 64 → (txEng s f q).old = [] →
    nextSend (txEng s f q) = some x → x.bytes = none → x.frames = 0 → fnHalted s f = false →
    ringParked s f q false = false → rrTurn s x.port (64 * f + q) = true →
    b.length = chainLen x.ents → bits (x.first.getD 7 0) 30 29 = 1 →
    cutStackOk (cutReq x.first) b = true → (∀ h, x.hoop = some h → hoopFenced s h = false) →
    completes (.sendEnter f q t b none) s fun u =>
      let n := cutCount (cutReq x.first) (b.length - (cutReq x.first).hdr)
      ∃ z ∈ (txEng u f q).sends, z.no = x.no ∧ z.frames ≤ n ∧ (z.entered = true ↔ z.frames = n) ∧
        z.bytes = (if z.frames = n then none else some b) ∧
        counter u (.ndlf f) 1 = trunc 64 (counter s (.ndlf f) 1 + z.frames) ∧
        counter u (.ndlf f) 0 = if z.frames = n then trunc 64 (counter s (.ndlf f) 0 + 1) else counter s (.ndlf f) 0) ∧
  (∀ (s : State) (f q t h : Nat) (b : List Nat) (x : Send), (txEng s f q).old = [] → nextSend (txEng s f q) = some x →
    x.bytes = none → fnHalted s f = false → ringParked s f q false = false → rrTurn s x.port (64 * f + q) = true →
    b.length = chainLen x.ents →
    (bits (x.first.getD 7 0) 30 29 = 1 → cutStackOk (cutReq x.first) b = true) → x.hoop = some h →
    hoopFenced s h = true →
    completes (.sendEnter f q t b none) s fun u =>
      (txEng u f q).sends = (txEng s f q).sends.map (fun z => if z.no = x.no then
        { x with fail := true, entered := true } else z) ∧ { u with now := s.now, ndl := s.ndl } = s) ∧
  (∀ (s : State) (f q t : Nat) (x : Send) (xs : List Send), (txEng s f q).sends = x :: xs → fnHalted s f = false →
    x.entered = true → bit (x.first.getD 7 0) 26 = false ∨ x.fail = true →
    completes (.txCompletion f q t none) s fun u =>
      (txEng u f q).sends = xs ∧ u.ndl.out = completionWrites s f q x 0 (if x.fail then 3 else 0) ∧
      u.now = max s.now t ∧
      ((irqSrc s f q false).armed = false → (irqSrc u f q false).count = (irqSrc s f q false).count + 1)) ∧
  (∀ (s : State) (f q t : Nat) (x : Send) (xs : List Send), (txEng s f q).sends = x :: xs → fnHalted s f = false →
    x.entered = true → bit (x.first.getD 7 0) 26 = true → x.fail = false →
    let kept := (tabGet s.rs.tsf [] (bits (x.first.getD 5 0) 10 0 / 32)).find? (fun e => e.owner == .host f q x.no)
    completes (.txCompletion f q t none) s fun u =>
      (∀ e, kept = some e → (txEng u f q).sends = xs ∧ u.ndl.out = completionWrites s f q x (e.time / 4 % 2 ^ 32) 1 ∧
        tabGet u.rs.tsf [] (bits (x.first.getD 5 0) 10 0 / 32) =
          (tabGet s.rs.tsf [] (bits (x.first.getD 5 0) 10 0 / 32)).eraseP (fun e => e.owner == .host f q x.no)) ∧
      (kept = none → .host f q x.no ∈ s.rs.tsLost → (txEng u f q).sends = xs ∧
        u.ndl.out = completionWrites s f q x 0 2 ∧ rd u (.ndlf f) Fld.NDLF_STICKY_TS_LOST = 1 ∧
        counter u (.ndlf f) 5 = trunc 64 (counter s (.ndlf f) 5 + 1)) ∧
      (kept = none → .host f q x.no ∉ s.rs.tsLost → .host f q x.no ∈ s.rs.tsGone → (txEng u f q).sends = xs ∧
        u.ndl.out = completionWrites s f q x 0 3) ∧
      (kept = none → .host f q x.no ∉ s.rs.tsLost → .host f q x.no ∉ s.rs.tsGone → u = s)) ∧
  (∀ (s : State) (f q t a : Nat) (x : Send) (xs : List Send), f < 64 → (txEng s f q).sends = x :: xs →
    fnHalted s f = false → x.entered = true → bit (x.first.getD 7 0) 26 = false ∨ x.fail = true →
    completes (.txCompletion f q t (some a)) s fun u =>
      rd u (.ndlf f) Fld.PAGE_FENCE_FENCED = 1 ∧ rd u (.ndlf f) Fld.PAGE_FENCE_CAUSE_CAUSE = 3 ∧
      rd u (.ndlf f) Fld.PAGE_FENCE_CAUSE_DETAIL = trunc 24 (8 * 2 ^ 8 + q * 2 ^ 14) ∧
      rd u (.ndlf f) Fld.NDL_FN_FAULT_ADDR_ADDR = trunc 64 a ∧ u.ndl = s.ndl) ∧
  (∀ (s : State) (f q t a : Nat) (rx : Bool), (irqSrc s f q rx).armed = true → modUs s f q ≠ 0 →
    (irqSrc s f q rx).first = some a → 0 < (irqSrc s f q rx).count → a + modUs s f q * 4000 ≤ max s.now t →
    s.ndl.down = false →
    completes (.modTimerExpiry f q rx t) s fun u =>
      irqSrc u f q rx = {} ∧ counter u (.ndlf f) 7 = trunc 64 (counter s (.ndlf f) 7 + 1) ∧ u.now = max s.now t ∧
      u.reg = s.reg)

/-- R350, R377, R485, R492, R495 to R501: a receive doorbell lets a ring that was found full go on; the frame that Table
12.1 chooses is taken up and counted, and one mapped to rings with owned entries and a buffer is delivered: its bytes
and its entry are written to each, the rings go on and the queue gives it up; a delivery that had begun ends the same
way; without a map entry or a pool that fits, the frame is discarded and counted; a failing write fences the function; a
free returns a handle to its pool's store up to the quota, a shared one at its last free. Readings and choices of the
model that it uses: log entries 111, 118, 121, 193. -/
def Obligations.HostReceive : Prop :=
  (∀ (s : State) (f q w : Nat), qpOn s f q = true → fnHalted s f = false →
    completes (.rxDoorbell f q w) s fun u =>
      rxEng u f q = { rxEng s f q with full := false } ∧
      (bit w 31 = false → { u with ndl := s.ndl } = s ∧ { u.ndl with rx := s.ndl.rx } = s.ndl) ∧
      (bit w 31 = true → (irqSrc s f q true).count < modCnt s f q →
        irqSrc u f q true = { irqSrc s f q true with armed := true })) ∧
  (∀ (s : State) (k c t g p i : Nat) (is : List Nat) (own2 : Bool),
    let m := 8 * k + c
    let y := cpuTake (advance s t) k c
    let w := word s .ndl 1 m
    let f := bits w 29 24
    let q := bits w 21 16 + (frm s g).res.sk.digest % 2 ^ 32 % 2 ^ bits w 14 12
    let qs := q :: (if bit w 11 then [bits w 5 0] else [])
    let buf := if bit w 11 then (nextShare y f).map (fun id => p * 2 ^ 29 + i + 2 ^ 28 + id * 2 ^ 16)
      else some (p * 2 ^ 29 + i)
    k < 7 → c < 8 → cpuHead y m = some g → (rxWait y m).held = none → s.ndl.down = false → bit w 31 = true →
    qs.Nodup → fenced s (.ndlf f) = false →
    (∀ r ∈ qs, qpOn s f r = true ∧ ringParked s f r true = false ∧ (rxEng s f r).full = false) →
    (bit w 11 = true → own2 = true) → poolFor s f (frmLen (frm s g)) = some p → poolStore y f p = i :: is →
    ∀ b, buf = some b →
    completes (.rxDelivery k c t true own2 none) s fun u =>
      u.ndl.out = rxWrites s (frm s g) m ⟨f, qs, b⟩ ∧ poolStore u f p = is ∧
      (∀ r ∈ qs, rxEng u f r = { rxEng s f r with next := ((rxEng s f r).next + 1) % ringSize s f r true }) ∧
      (∀ id, bit w 11 = true → nextShare y f = some id → shareCount u (shareBase s f + id) = 2) ∧
      queueOf u (8 * 1024 + m) = (queueOf s (8 * 1024 + m)).eraseP (fun e => e.f == g) ∧ (rxWait u m) = {} ∧
      (cpuHead s m = none → counter u (.tmg (1024 + k)) (4 * c) = trunc 64 (counter s (.tmg (1024 + k)) (4 * c) + 1)) ∧
      (cpuHead s m ≠ none → counter u (.tmg (1024 + k)) (4 * c) = counter s (.tmg (1024 + k)) (4 * c)) ∧
      counter u (.ndlf f) 3 = trunc 64 (counter s (.ndlf f) 3 + 1) ∧
      counter u (.ndlf f) 4 = trunc 64 (counter s (.ndlf f) 4 + frmLen (frm s g))) ∧
  (∀ (s : State) (k c t f : Nat), k < 7 → c < 8 → cpuHead s (8 * k + c) = none → s.ndl.down = false →
    rxWait s (8 * k + c) = {} → chooseClass (retag (advance s t) (1024 + k)) (1024 + k) = some c →
    readyHead (retag (advance s t) (1024 + k)) (1024 + k) c = some f →
    cpuHead (cpuTake (advance s t) k c) (8 * k + c) = some f) ∧
  (∀ (s : State) (k c t g : Nat) (d : Deliv) (own own2 : Bool), k < 7 → c < 8 → cpuHead s (8 * k + c) = some g →
    (rxWait s (8 * k + c)).held = some d → fnHalted s d.f = false → d.qs.Nodup →
    (∀ r ∈ d.qs, ringParked s d.f r true = false) →
    completes (.rxDelivery k c t own own2 none) s fun u =>
      u.ndl.out = rxWrites s (frm s g) (8 * k + c) d ∧ rxWait u (8 * k + c) = {} ∧
      (∀ r ∈ d.qs, rxEng u d.f r = { rxEng s d.f r with next := ((rxEng s d.f r).next + 1) % ringSize s d.f r true }) ∧
      queueOf u (8 * 1024 + (8 * k + c)) = (queueOf s (8 * 1024 + (8 * k + c))).eraseP (fun e => e.f == g) ∧
      counter u (.ndlf d.f) 3 = trunc 64 (counter s (.ndlf d.f) 3 + 1)) ∧
  (∀ (s : State) (k c t g a : Nat) (d : Deliv) (own own2 : Bool), k < 7 → c < 8 → cpuHead s (8 * k + c) = some g →
    d.f < 64 → (rxWait s (8 * k + c)).held = some d → fnHalted s d.f = false →
    (∀ r ∈ d.qs, ringParked s d.f r true = false) →
    completes (.rxDelivery k c t own own2 (some a)) s fun u =>
      rd u (.ndlf d.f) Fld.PAGE_FENCE_FENCED = 1 ∧ rd u (.ndlf d.f) Fld.PAGE_FENCE_CAUSE_CAUSE = 3 ∧
      rd u (.ndlf d.f) Fld.PAGE_FENCE_CAUSE_DETAIL = trunc 24 (8 * 2 ^ 8 + d.qs.headD 0 * 2 ^ 14 + 2 ^ 20) ∧
      u.rs = s.rs ∧ u.ndl = s.ndl) ∧
  (∀ (s : State) (k c t g : Nat) (own own2 : Bool), k < 7 → c < 8 →
    let m := 8 * k + c
    let w := word s .ndl 1 m
    let f := bits w 29 24
    cpuHead s m = some g → (rxWait s m).held = none → s.ndl.down = false →
    completes (.rxDelivery k c t own own2 none) s fun u =>
      (bit w 31 = false → rd u .ndl Fld.NDL_STICKY_RX_NOMAP = 1 ∧ counter u .ndl 0 = trunc 64 (counter s .ndl 0 + 1) ∧
        queueOf u (8 * 1024 + m) = (queueOf s (8 * 1024 + m)).eraseP (fun e => e.f == g) ∧ u.ndl.out = s.ndl.out) ∧
      (bit w 31 = true → fenced s (.ndlf f) = false →
        (∀ r ∈ rxPairs w (frm s g), qpOn s f r = true ∧ ringParked s f r true = false) →
        poolFor s f (frmLen (frm s g)) = none →
        rd u .ndl Fld.NDL_STICKY_RX_NOFIT = 1 ∧ counter u .ndl 1 = trunc 64 (counter s .ndl 1 + 1) ∧
        queueOf u (8 * 1024 + m) = (queueOf s (8 * 1024 + m)).eraseP (fun e => e.f == g) ∧ u.ndl.out = s.ndl.out)) ∧
  (∀ (s : State) (f w : Nat),
    let p := bits w 31 29
    let i := bits w 15 0
    completes (.flsFree f w) s fun u =>
      (bit w 28 = false → (poolStore s f p).length < quota s f p →
        poolStore u f p = i :: poolStore s f p ∧ { u with ndl := s.ndl } = s) ∧
      (bit w 28 = false → quota s f p ≤ (poolStore s f p).length →
        poolStore u f p = poolStore s f p ∧ rd u (.flsf f) Fld.FLSF_STICKY_FREE_OVER = 1) ∧
      (bit w 28 = true → shareQuota s f = 0 → u = s) ∧
      (bit w 28 = true → shareQuota s f ≠ 0 →
        let n := shareBase s f + bits w 27 16 % shareQuota s f
        (shareCount s n = 0 → u = s) ∧
        (2 ≤ shareCount s n → shareCount u n = shareCount s n - 1 ∧ u.ndl.store = s.ndl.store) ∧
        (shareCount s n = 1 → (poolStore s f p).length < quota s f p →
          shareCount u n = 0 ∧ poolStore u f p = i :: poolStore s f p) ∧
        (shareCount s n = 1 → quota s f p ≤ (poolStore s f p).length →
          shareCount u n = 0 ∧ poolStore u f p = poolStore s f p ∧ rd u (.flsf f) Fld.FLSF_STICKY_FREE_OVER = 1)))

/-- R494, R503 to R505, R507: a translation that a ring cannot get parks it with a page request while its allocation
lasts, or fences the function without PRI; a response resumes the ring, with the request of a ring that waits for its
turn, or fences; an invalidation is counted; at a surprise-down the queues halt, and the link's return leaves every
function as after a reset. Readings and choices of the model that it uses: log entry 120. -/
def Obligations.HostTranslations : Prop :=
  (∀ (s : State) (f q m addr alloc : Nat) (pri : Bool), f < 64 → qpOn s f q = true → fnHalted s f = false →
    ringParked s f q false = false →
    (txEng s f q).reading = true ∨ (∃ x, nextSend (txEng s f q) = some x ∧ x.bytes = none) →
    completes (.atsTranslationComplete f q m addr alloc false false pri) s fun u =>
      let send := decide (priOut s f < alloc) && decide (priAll s < 512)
      (pri = true → u.ndl.park = s.ndl.park ++ [⟨f, q, false, send, addr⟩] ∧ ringParked u f q false = true ∧
        rd u (.ndlf f) Fld.NDLF_STICKY_PARKED = 1 ∧
        counter u .ndl 5 = (if send then trunc 64 (counter s .ndl 5 + 1) else counter s .ndl 5)) ∧
      (pri = false → (txEng u f q).bad = some ⟨9, ringAt s f q false, addr⟩ ∧
        ((txEng s f q).sends = [] → rd u (.ndlf f) Fld.PAGE_FENCE_FENCED = 1 ∧
          rd u (.ndlf f) Fld.NDL_FN_FAULT_ADDR_ADDR = trunc 64 addr))) ∧
  (∀ (s : State) (f q m addr alloc : Nat) (pri : Bool), f < 64 → qpOn s f q = true → fnHalted s f = false →
    ringParked s f q true = false →
    (∃ d, (rxWait (rxBegin s m true true) m).held = some d ∧ d.f = f ∧ q ∈ d.qs) →
    completes (.atsTranslationComplete f q m addr alloc true false pri) s fun u =>
      (pri = true → u.ndl.park =
          s.ndl.park ++ [⟨f, q, true, decide (priOut s f < alloc) && decide (priAll s < 512), addr⟩] ∧
        ringParked u f q true = true ∧ rd u (.ndlf f) Fld.NDLF_STICKY_PARKED = 1) ∧
      (pri = false → rd u (.ndlf f) Fld.PAGE_FENCE_FENCED = 1 ∧ rd u (.ndlf f) Fld.NDL_FN_FAULT_DIR = 1 ∧
        rd u (.ndlf f) Fld.NDL_FN_FAULT_ADDR_ADDR = trunc 64 addr)) ∧
  (∀ (s : State) (f q m addr alloc : Nat) (rx pri : Bool),
    completes (.atsTranslationComplete f q m addr alloc rx true pri) s fun u => u = s) ∧
  (∀ (s : State) (f q : Nat) (rx : Bool) (p : Park), f < 64 →
    s.ndl.park.find? (fun x => x.f == f && x.q == q && x.rx == rx && x.sent) = some p →
    (∀ x ∈ s.ndl.park, x.f = f → x.sent = true) →
    completes (.pageRequestResponse f q rx true) s fun u =>
      u.ndl.park = s.ndl.park.erase p ∧ { u with ndl := s.ndl } = s ∧ { u.ndl with park := s.ndl.park } = s.ndl) ∧
  (∀ (s : State) (f q : Nat) (rx : Bool) (p w : Park), f < 64 → fenced s (.ndlf f) = false →
    s.ndl.park.find? (fun x => x.f == f && x.q == q && x.rx == rx && x.sent) = some p →
    (s.ndl.park.erase p).find? (fun x => x.f == f && !x.sent) = some w →
    completes (.pageRequestResponse f q rx true) s fun u =>
      u.ndl.park = (s.ndl.park.erase p).map (fun x => if x = w then { x with sent := true } else x) ∧
      counter u .ndl 5 = trunc 64 (counter s .ndl 5 + 1) ∧ { u with ndl := s.ndl, cnt := s.cnt } = s) ∧
  (∀ (s : State) (f q : Nat) (p : Park), f < 64 →
    s.ndl.park.find? (fun x => x.f == f && x.q == q && x.rx == false && x.sent) = some p →
    completes (.pageRequestResponse f q false false) s fun u =>
      counter u .ndl 6 = trunc 64 (counter s .ndl 6 + 1) ∧ (txEng u f q).bad = some ⟨9, ringAt s f q false, p.addr⟩ ∧
      (fenced s (.ndlf f) = false → (txEng s f q).sends = [] → rd u (.ndlf f) Fld.PAGE_FENCE_FENCED = 1 ∧
        rd u (.ndlf f) Fld.NDL_FN_FAULT_DIR = 0)) ∧
  (∀ (s : State) (f q : Nat) (p : Park), f < 64 → fenced s (.ndlf f) = false →
    s.ndl.park.find? (fun x => x.f == f && x.q == q && x.rx == true && x.sent) = some p →
    completes (.pageRequestResponse f q true false) s fun u =>
      u.ndl.park = s.ndl.park.erase p ∧ counter u .ndl 6 = trunc 64 (counter s .ndl 6 + 1) ∧
      rd u (.ndlf f) Fld.PAGE_FENCE_FENCED = 1 ∧ rd u (.ndlf f) Fld.PAGE_FENCE_CAUSE_CAUSE = 3 ∧
      rd u (.ndlf f) Fld.PAGE_FENCE_CAUSE_DETAIL = trunc 24 (9 * 2 ^ 8 + q * 2 ^ 14 + 2 ^ 20) ∧
      rd u (.ndlf f) Fld.NDL_FN_FAULT_DIR = 1) ∧
  (∀ (s : State), s.ndl.down = false →
    completes .atsInvalidate s fun u =>
      counter u .ndl 4 = trunc 64 (counter s .ndl 4 + 1) ∧ countersKept s u [cntKey .ndl 4] ∧ { u with cnt := s.cnt } = s) ∧
  (∀ (s : State), s.ndl.down = false →
    completes .surpriseDown s fun u =>
      (s.pwr.d3 = .ready → u.pwr.d3 = .asleep) ∧
      (s.pwr.d3 ≠ .ready → u.ndl.down = true ∧ u.ndl.park = [] ∧ (∀ m, (rxWait u m).held = none) ∧
        rd u .ndl Fld.NDL_STICKY_SURPRISE_DOWN = 1 ∧ counter u .ndl 3 = trunc 64 (counter s .ndl 3 + 1) ∧
        u.ndl.tx = s.ndl.tx ∧ u.ndl.rx = s.ndl.rx ∧ u.ndl.store = s.ndl.store ∧
        { u with reg := s.reg, cnt := s.cnt, ndl := s.ndl, irqLevel := s.irqLevel, msgs := s.msgs,
                 msixPend := s.msixPend } = s)) ∧
  (∀ (s : State), s.ndl.down = true →
    completes .pcieLinkReturn s fun u =>
      u.ndl.down = false ∧ u.ndl.out = s.ndl.out ∧ u.now = s.now ∧
      (∀ f < 64, ∀ q < 64, qpOn u f q = false ∧ (txEng u f q).sends = [] ∧ rxEng u f q = {} ∧
        (∀ rx, irqSrc u f q rx = {})) ∧
      (∀ f < 64, fenced u (.ndlf f) = false ∧ ∀ p < 8, poolStore u f p = []))

/-- R532 to R534 and Table 17.2: the acknowledgement switches the clock to the level of the sequence and ends it, and
the sequence of a level that applied meanwhile starts at once; a request that has waited for AVS_TIMEOUT_US is sent
again at the first timeout, the second ends the sequence with the clock where it stands, sets AVS_FAIL and counts
AVS_RETRIES, and the sequence of another level starts. Readings and choices of the model that it uses: log entry 151. -/
def Obligations.PowerLevels : Prop :=
  (∀ (s : State) (p : Nat) (q : LevelSeq), p < 8 → q.target < 4 → levelEff s p < 4 → levelSeq s p = some q →
    completes (.avsAck p) s fun u =>
      (levelEff s p = q.target → levelSeq u p = none ∧ levelCur u p = q.target ∧ vSet u p = vSet s p ∧
        bit (rd u .pwr Fld.PWR_LEVEL_STAT_BUSY) p = false ∧
        counter u .pwr 0 = (if levelCur s p = q.target then counter s .pwr 0 else trunc 64 (counter s .pwr 0 + 1))) ∧
      (levelEff s p ≠ q.target → levelSeq u p = some { target := levelEff s p, since := s.now } ∧
        levelCur u p = max q.target (levelEff s p) ∧ vSet u p = levelMv p (levelEff s p) ∧
        bit (rd u .pwr Fld.PWR_LEVEL_STAT_BUSY) p = true) ∧
      (∀ k < 8, k ≠ p → levelSeq u k = levelSeq s k ∧ vSet u k = vSet s k) ∧
      { u with reg := s.reg, cnt := s.cnt, pwr := s.pwr } = s ∧
      { u.pwr with seq := s.pwr.seq, vset := s.pwr.vset } = s.pwr ∧ countersKept s u [cntKey .pwr 0] ∧
      regsKept s u (on .pwr [Fld.PWR_LEVEL_STAT_BUSY, Fld.PWR_LEVEL_STAT_CUR p])) ∧
  (∀ (s : State) (p t : Nat) (q : LevelSeq), p < 8 → levelSeq s p = some q →
    max s.now t < q.since + 4000 * cfg s .pwr Fld.PWR_CFG_AVS_TIMEOUT_US →
    completes (.avsTimeout p t) s fun u => u.now = max s.now t ∧ { u with now := s.now } = s) ∧
  (∀ (s : State) (p t : Nat) (q : LevelSeq), p < 8 → levelSeq s p = some q → q.resent = false →
    q.since + 4000 * cfg s .pwr Fld.PWR_CFG_AVS_TIMEOUT_US ≤ max s.now t →
    completes (.avsTimeout p t) s fun u =>
      u.now = max s.now t ∧ levelSeq u p = some { q with since := u.now, resent := true } ∧
      (∀ k, k ≠ p → levelSeq u k = levelSeq s k) ∧
      { u with now := s.now, reg := s.reg, pwr := s.pwr } = s ∧ { u.pwr with seq := s.pwr.seq } = s.pwr ∧
      regsKept s u (on .pwr [Fld.PWR_LEVEL_STAT_BUSY])) ∧
  (∀ (s : State) (p t : Nat) (q : LevelSeq), p < 8 → levelSeq s p = some q → q.resent = true → levelEff s p = q.target →
    q.since + 4000 * cfg s .pwr Fld.PWR_CFG_AVS_TIMEOUT_US ≤ max s.now t →
    completes (.avsTimeout p t) s fun u =>
      u.now = max s.now t ∧ levelSeq u p = none ∧ levelCur u p = levelCur s p ∧ bit (rd u .pwr Fld.PWR_LEVEL_STAT_BUSY) p = false ∧
      rd u .pwr Fld.PWR_STICKY_AVS_FAIL = 1 ∧ counter u .pwr 1 = trunc 64 (counter s .pwr 1 + 1) ∧
      (∀ k, k ≠ p → levelSeq u k = levelSeq s k) ∧ countersKept s u [cntKey .pwr 1] ∧
      { u with now := s.now, reg := s.reg, cnt := s.cnt, pwr := s.pwr, irqLevel := s.irqLevel, msgs := s.msgs,
               msixPend := s.msixPend } = s ∧
      { u.pwr with seq := s.pwr.seq } = s.pwr ∧
      regsKept s u (on .pwr [Fld.PWR_LEVEL_STAT_BUSY, Fld.PWR_STICKY_AVS_FAIL])) ∧
  (∀ (s : State) (p t : Nat) (q : LevelSeq), p < 8 → levelSeq s p = some q → q.resent = true → levelEff s p ≠ q.target →
    levelEff s p < 4 → levelCur s p < 4 → q.since + 4000 * cfg s .pwr Fld.PWR_CFG_AVS_TIMEOUT_US ≤ max s.now t →
    completes (.avsTimeout p t) s fun u =>
      u.now = max s.now t ∧ levelSeq u p = some { target := levelEff s p, since := u.now } ∧
      levelCur u p = max (levelCur s p) (levelEff s p) ∧
      vSet u p = levelMv p (levelEff s p) ∧ rd u .pwr Fld.PWR_STICKY_AVS_FAIL = 1 ∧
      counter u .pwr 1 = trunc 64 (counter s .pwr 1 + 1) ∧ (∀ k < 8, k ≠ p → levelSeq u k = levelSeq s k)) ∧
  (∀ (s : State) (p t : Nat), levelSeq s p = none →
    completes (.avsAck p) s (· = s) ∧
    completes (.avsTimeout p t) s fun u => u.now = max s.now t ∧ { u with now := s.now } = s)

/-- R530, R536, R537: a scan shows temperatures and voltages; a condition that begins lowers its panels by one level,
down to P3; 10 ms later one that still holds lowers again; after 100 ms well within the limits the panel rises by a
step, and after 100 ms 5 degrees below TJ_HOT it returns to its requested level; the end of the deskew range lowers the
panel. Readings and choices of the model that it uses: log entries 151, 152, 153. -/
def Obligations.PowerThrottles : Prop :=
  (∀ (s : State) (t : Nat) (temps : List Int) (volts : List Nat), s.pwr.supply = .on →
    completes (.sensorScan t temps volts) s fun u =>
      let m := { s with pwr := { s.pwr with temp := u.pwr.temp, vmeas := u.pwr.vmeas } }
      let cs := u.pwr.hot
      u.now = max s.now t ∧
      (∀ i < 10, tileTemp u i = temps.getD i 0 ∧ tabGet u.pwr.vmeas 0 i = trunc 16 (volts.getD i 0)) ∧
      (∀ k < 16, ((k, 0) ∈ cs ↔
        120 < (temps.getD (pairTiles k).1 0 - temps.getD (pairTiles k).2 0).natAbs)) ∧
      (∀ k < 16, ((k, 1) ∈ cs ↔ 30 < pairMv m k)) ∧
      (∀ p < 8, ((p, 2) ∈ cs ↔ (8 * cfg s .pwr Fld.PWR_CFG_TJ_HOT : Nat) < temps.getD p 0)) ∧
      (∀ p < 8,
        let ks := kindsFor m (cs.filter (fun c => !s.pwr.hot.contains c)) p
        (ks = [] ∨ 3 ≤ levelEff s p → levelEff u p = levelEff s p ∧ levelCur u p = levelCur s p ∧ vSet u p = vSet s p) ∧
        (ks ≠ [] → levelEff s p < 3 → levelEff u p = levelEff s p + 1 ∧
          bit (rd u .pwr Fld.PWR_LEVEL_STAT_THROTTLE) p = true ∧ (thrOfPanel u p).loweredAt = u.now ∧
          (∀ k ∈ ks, rd u .pwr (limitBit k) = 1)) ∧
        (2 ∈ ks → rd u .pwr Fld.PWR_STICKY_TJ_HOT = 1)) ∧
      { u with now := s.now, reg := s.reg, cnt := s.cnt, pwr := s.pwr, irqLevel := s.irqLevel, msgs := s.msgs,
               msixPend := s.msixPend } = s) ∧
  (∀ (s : State) (p t : Nat), p < 8 →
    completes (.throttleStep p t) s fun u =>
      let due := (kindsFor s (conditions s) p ≠ [] ∨ tabGet s.pwr.skewEnd false p = true) ∧
        (thrOfPanel s p).loweredAt + 40000000 ≤ max s.now t ∧ levelEff s p < 3
      u.now = max s.now t ∧
      (due → levelEff u p = levelEff s p + 1 ∧ bit (rd u .pwr Fld.PWR_LEVEL_STAT_THROTTLE) p = true ∧
        (thrOfPanel u p).loweredAt = u.now ∧ counter u .pwr 2 = trunc 64 (counter s .pwr 2 + 1) ∧
        (levelSeq s p = none → levelCur s p ≤ levelEff s p → levelCur u p = levelEff s p + 1 ∧
          vSet u p = levelMv p (levelEff s p + 1))) ∧
      (¬ due → { u with now := s.now } = s) ∧ (∀ k, k ≠ p → thrOfPanel u k = thrOfPanel s k) ∧
      { u with now := s.now, reg := s.reg, cnt := s.cnt, pwr := s.pwr, irqLevel := s.irqLevel, msgs := s.msgs,
               msixPend := s.msixPend } = s) ∧
  (∀ (s : State) (p t : Nat), p < 8 →
    completes (.throttleRecover p t) s fun u =>
      let x := thrOfPanel s p
      let v := max s.now t
      let req := cfg s .pwr (Fld.PWR_LEVEL_REQ p)
      let step := x.calmAt ≠ 0 ∧ x.calmAt + 400000000 ≤ v + 1 ∧ tabGet s.pwr.skewEnd false p = false ∧
        x.stepAt + 400000000 ≤ v ∧ x.loweredAt + 400000000 ≤ v ∧ x.pair ≠ 0
      let cool := x.coolAt ≠ 0 ∧ x.coolAt + 400000000 ≤ v + 1
      u.now = v ∧
      (step → x.tj = 0 → levelEff u p = max req (x.pair - 1)) ∧
      (step → x.tj = 0 → x.pair - 1 ≤ req → bit (rd u .pwr Fld.PWR_LEVEL_STAT_THROTTLE) p = false) ∧
      (cool → x.pair = 0 → levelEff u p = req ∧ bit (rd u .pwr Fld.PWR_LEVEL_STAT_THROTTLE) p = false) ∧
      (¬ step → ¬ cool → thrOfPanel u p = x ∧ levelCur u p = levelCur s p ∧ vSet u p = vSet s p) ∧
      (∀ k, k ≠ p → thrOfPanel u k = thrOfPanel s k) ∧ u.act = s.act ∧
      { u with now := s.now, reg := s.reg, cnt := s.cnt, pwr := s.pwr } = s) ∧
  (∀ (s : State) (p w t : Nat) (limit : Bool), p < 8 → w < 256 →
    completes (.d2dDeskew p w limit t) s fun u =>
      let was := tabGet s.pwr.skewEnd false p
      u.now = max s.now t ∧ rd u (.pnl p) Fld.PNL_D2D_STAT_SKEW = w ∧ tabGet u.pwr.skewEnd false p = limit ∧
      counter u (.pnl p) 5 = (if rd s (.pnl p) Fld.PNL_D2D_STAT_SKEW = w then counter s (.pnl p) 5
        else trunc 64 (counter s (.pnl p) 5 + 1)) ∧
      (limit = true → was = false → rd u (.pnl p) Fld.PNL_STICKY_DESKEW_LIMIT = 1 ∧
        (levelEff s p < 3 → levelEff u p = levelEff s p + 1)) ∧
      (limit = false ∨ was = true → levelEff u p = levelEff s p ∧
        regsKept s u (on (.pnl p) [Fld.PNL_D2D_STAT_SKEW]) ∧ { u.pwr with skewEnd := s.pwr.skewEnd } = s.pwr) ∧
      { u with now := s.now, reg := s.reg, cnt := s.cnt, pwr := s.pwr, irqLevel := s.irqLevel, msgs := s.msgs,
               msixPend := s.msixPend } = s)

/-- R539, R541, R543, R544 and Table 17.3: an H1 entry starts when its conditions hold, an H2 entry after H2_IDLE_MS or
on H2_REQ takes the ports of the hoop down first; the blocks answer one at a time, the last one completes the entry, and
a refusal or a timeout ends it: the hoop runs, and the attempt is recorded. In H2 every detector takes the receive map
of its lane (R172). Readings and choices of the model that it uses: log entries 154, 155, 157, 185. -/
def Obligations.HoopEntries : Prop :=
  (∀ (s : State) (h t : Nat), h < 32 →
    completes (.h1EntryAttempt h t) s fun u =>
      let idle := cfg s (.hop h) Fld.HOP_PWR_CTRL_IDLE_US
      let go := entryMayStart s h = true ∧ hoopState s h = 0 ∧ idle ≠ 0 ∧ hoopWork s h = false ∧ hoopFrames s h = false ∧
        hoopQueued s h = false ∧ hoopMoves s h = false ∧ tabGet s.pwr.idleFrom 0 h + 4000 * idle ≤ max s.now t
      u.now = max s.now t ∧
      (go → hoopState u h = 3 ∧ hoopEntry u h = some { h2 := false } ∧ (∀ k, k ≠ h → hoopEntry u k = hoopEntry s k)) ∧
      (¬ go → { u with now := s.now } = s) ∧ { u with now := s.now, reg := s.reg, pwr := s.pwr } = s ∧
      { u.pwr with entry := s.pwr.entry } = s.pwr ∧ regsKept s u (on (.hop h) [Fld.HOP_PWR_STAT_STATE])) ∧
  (∀ (s : State) (h t : Nat), h < 32 →
    completes (.h2IdleEntry h t) s fun u =>
      let ms := cfg s (.hop h) Fld.HOP_PWR_CTRL_H2_IDLE_MS
      let go := entryMayStart s h = true ∧ hoopState s h = 1 ∧ cfgB s (.hop h) Fld.HOP_PWR_CTRL_H2_EN = true ∧ ms ≠ 0 ∧
        tabGet s.pwr.h1At 0 h + 4000000 * ms ≤ max s.now t
      u.now = max s.now t ∧
      (go → hoopState u h = 3 ∧ hoopEntry u h = some { h2 := true } ∧ (∀ n, n / 32 = h → linkUp u n = false)) ∧
      (¬ go → { u with now := s.now } = s) ∧
      { u with now := s.now, reg := s.reg, cnt := s.cnt, rs := s.rs, tm := s.tm, pwr := s.pwr, irqLevel := s.irqLevel,
               msgs := s.msgs, msixPend := s.msixPend } = s) ∧
  (∀ (s : State) (h : Nat), h < 32 →
    completes (.h2Req h) s fun u =>
      let off := cfgB s (.hop h) Fld.HOP_PWR_CTRL_H2_EN = false ∨ hoopFenced s h = true ∨ 2 ≤ hoopState s h
      (off → u = s) ∧
      (¬ off → s.closed = true → tabGet u.pwr.want false h = true ∧ { u with pwr := s.pwr } = s ∧
        { u.pwr with want := s.pwr.want } = s.pwr) ∧
      (¬ off → s.closed = false → s.pwr.d3 = .awake → s.pwr.supply = .on →
        hoopState u h = 3 ∧ hoopEntry u h = some { h2 := true } ∧ (∀ n, n / 32 = h → linkUp u n = false)) ∧
      { u with reg := s.reg, cnt := s.cnt, rs := s.rs, tm := s.tm, pwr := s.pwr, irqLevel := s.irqLevel, msgs := s.msgs,
               msixPend := s.msixPend } = s) ∧
  (∀ (s : State) (h t : Nat) (e : HoopEntry), h < 32 → hoopEntry s h = some e →
    completes (.handshakeAnswer h t) s fun u =>
      let v := max s.now t
      let last := if e.h2 then 5 else 3
      u.now = v ∧
      (hoopRefuses s h e.agreed = false → e.agreed ≠ last →
        hoopEntry u h = some { e with agreed := e.agreed + 1 } ∧ { u with now := s.now, pwr := s.pwr } = s ∧
        { u.pwr with entry := s.pwr.entry } = s.pwr) ∧
      (hoopRefuses s h e.agreed = false → e.agreed = last → hoopEntry u h = none ∧
        hoopState u h = (if e.h2 then 2 else 1) ∧
        counter u (.hop h) (if e.h2 then 1 else 0) = trunc 64 (counter s (.hop h) (if e.h2 then 1 else 0) + 1) ∧
        (e.h2 = true → rd u (.hop h) Fld.HOP_PWR_STAT_PAD_HELD = 1 ∧
          (∀ l, l / 32 = h → laneLpm u l = 2 ∧ rd u (.lan l) Fld.LAN_STATUS_SIGNAL = 0 ∧
            detOf u l = { detOf s l with
              phys := rd s (.lan l) Fld.LAN_STATUS_PHYS_RX, inv := rdB s (.lan l) Fld.LAN_STATUS_EFF_RX_INV })) ∧
        (e.h2 = true → (∀ n, n / 32 = h → (tmOf u n).cred = [] ∧ (tmOf u n).tag = [] ∧ (tmOf u n).f = [] ∧
            (pauseOf u n).timer = []) ∧
          (∀ n, n / 32 ≠ h → tmOf u n = tmOf s n ∧ pauseOf u n = pauseOf s n)) ∧
        (e.h2 = false → tabGet u.pwr.h1At 0 h = v ∧ regsKept s u (on (.hop h) [Fld.HOP_PWR_STAT_STATE]) ∧
          u.lane = s.lane ∧ u.tm = s.tm) ∧
        { u with now := s.now, reg := s.reg, cnt := s.cnt, lane := s.lane, scan := s.scan, tm := s.tm, pwr := s.pwr } = s) ∧
      (hoopRefuses s h e.agreed = true → nothingHeld s h → hoopEntry u h = none ∧ hoopState u h = 0 ∧
        rd u (.hop h) Fld.HOP_PWR_STAT_LAST_REFUSER = e.agreed + 1 ∧
        rd u (.hop h) Fld.HOP_PWR_CNT_REFUSALS = sat 65535 (rd s (.hop h) Fld.HOP_PWR_CNT_REFUSALS + 1) ∧
        rd u (.hop h) Fld.HOP_PWR_CNT_ABORTS = (if e.agreed = 0 then rd s (.hop h) Fld.HOP_PWR_CNT_ABORTS
          else sat 65535 (rd s (.hop h) Fld.HOP_PWR_CNT_ABORTS + 1)) ∧
        rd u (.hop h) Fld.HOP_STICKY_ENTRY_ABORT = 1 ∧ tabGet u.pwr.idleFrom 0 h = v ∧
        { u with now := s.now, reg := s.reg, lane := s.lane, scan := s.scan, pwr := s.pwr, irqLevel := s.irqLevel,
                 msgs := s.msgs, msixPend := s.msixPend } = s)) ∧
  (∀ (s : State) (h : Nat) (e : HoopEntry), h < 32 → hoopEntry s h = some e → nothingHeld s h →
    completes (.handshakeTimeout h) s fun u =>
      hoopEntry u h = none ∧ hoopState u h = 0 ∧ rd u (.hop h) Fld.HOP_PWR_STAT_LAST_REFUSER = 15 ∧
      rd u (.hop h) Fld.HOP_STICKY_ENTRY_ABORT = 1 ∧
      rd u (.hop h) Fld.HOP_PWR_CNT_REFUSALS = sat 65535 (rd s (.hop h) Fld.HOP_PWR_CNT_REFUSALS + 1) ∧
      { u with reg := s.reg, lane := s.lane, scan := s.scan, pwr := s.pwr, irqLevel := s.irqLevel, msgs := s.msgs,
               msixPend := s.msixPend } = s) ∧
  (∀ (s : State) (h : Nat), h < 32 → hoopEntry s h = none → completes (.handshakeTimeout h) s (· = s))

/-- R59, R122, R540, R542, R554: a wake source brings a hoop out of H1 at once, starts it out of H2, and ends an
attempt, but a fenced hoop stays down; in H2 its island comes up, what its shells hold reaches its blocks, its due
commits apply, and its lanes start when its pads are released; a hoop that does not come up is fenced with DETAIL 4 and
stays down. Readings and choices of the model that it uses: log entries 156, 177. -/
def Obligations.HoopWakes : Prop :=
  (∀ (s : State) (h : Nat), h < 32 → nothingHeld s h →
    completes (.wakeReq h) s fun u =>
      (hoopState s h = 1 → hoopFenced s h = false → hoopState u h = 0 ∧ rd u (.hop h) Fld.HOP_PWR_STAT_LAST_WAKE = 1 ∧
        tabGet u.pwr.idleFrom 0 h = s.now ∧ { u with reg := s.reg, scan := s.scan, pwr := s.pwr } = s ∧
        { u.pwr with idleFrom := s.pwr.idleFrom } = s.pwr) ∧
      (hoopState s h = 2 → hoopFenced s h = false → hoopState u h = 4 ∧ rd u (.hop h) Fld.HOP_PWR_STAT_LAST_WAKE = 1 ∧
        onlyRegs s u (on (.hop h) [Fld.HOP_PWR_STAT_STATE, Fld.HOP_PWR_STAT_LAST_WAKE])) ∧
      (∀ e, hoopState s h = 3 → hoopEntry s h = some e → hoopEntry u h = none ∧ hoopState u h = 0 ∧
        rd u (.hop h) Fld.HOP_PWR_STAT_LAST_REFUSER = 12 ∧ rd u (.hop h) Fld.HOP_STICKY_ENTRY_ABORT = 1) ∧
      (hoopState s h = 1 ∨ hoopState s h = 2 → hoopFenced s h = true → u = s) ∧
      (hoopState s h = 0 ∨ hoopState s h = 4 → u = s)) ∧
  (∀ (s : State) (h t : Nat) (queued : Bool), h < 32 → nothingHeld s h →
    completes (.hoopH1Wake h queued t) s fun u =>
      u.now = max s.now t ∧
      (hoopState s h = 1 → hoopFenced s h = false → hoopState u h = 0 ∧
        rd u (.hop h) Fld.HOP_PWR_STAT_LAST_WAKE = (if queued then 3 else 2) ∧ tabGet u.pwr.idleFrom 0 h = u.now ∧
        { u with now := s.now, reg := s.reg, scan := s.scan, pwr := s.pwr } = s ∧
        regsKept s u (on (.hop h) [Fld.HOP_PWR_STAT_STATE, Fld.HOP_PWR_STAT_LAST_WAKE])) ∧
      (∀ e, hoopState s h = 3 → hoopEntry s h = some e → hoopEntry u h = none ∧ hoopState u h = 0 ∧
        rd u (.hop h) Fld.HOP_PWR_STAT_LAST_REFUSER = 12 ∧ rd u (.hop h) Fld.HOP_STICKY_ENTRY_ABORT = 1) ∧
      (hoopState s h = 0 ∨ hoopState s h = 2 ∨ hoopState s h = 4 → { u with now := s.now } = s)) ∧
  (∀ (s : State) (h : Nat) (p : Page) (k v : Nat) (f : Field), h < 32 → p = .skn h ∨ p = .prk h →
    tabGet s.xing [] (pageBase p) = [.value k v] → fieldAt p k = some f →
    nothingHeld { s with xing := tabErase s.xing (pageBase p) } h → hoopState s h = 1 → hoopFenced s h = false →
    completes (.wakeReq h) s fun u =>
      hoopState u h = 0 ∧ xingOf u p = [] ∧ bk u p f = trunc f.width v) ∧
  (∀ (s : State) (h t : Nat), h < 32 → hoopState s h = 4 → hoopFenced s h = false →
    completes (.h2PowerUpDone h t) s fun u =>
      u.now = max s.now t ∧ hoopState u h = 0 ∧ tabGet u.pwr.idleFrom 0 h = u.now ∧
      (∀ k, k / 16 = h → tabFind u.sleepDue k = none) ∧
      (tabRising none s.lat = true → ∀ p ∈ shadowPages, pageHoop p = some h →
        tabGet s.sleepDue 0 (16 * h + pageGroup s p) ≠ 0 →
        ∀ k, keyBase k = pageBase p → tabFind u.act k = tabFind s.lat k) ∧
      (nothingHeld s h →
        { u with now := s.now, reg := s.reg, lane := s.lane, scan := s.scan, pwr := s.pwr } = s ∧
        (rdB s (.hop h) Fld.HOP_PWR_STAT_PAD_HELD = true → ∀ l, l / 32 = h → laneLpm u l = 2) ∧
        (rdB s (.hop h) Fld.HOP_PWR_STAT_PAD_HELD = false → ∀ l, l / 32 = h →
          laneLpm u l = (if laneRate s l = 0 ∨ cfg s (.lan l) Fld.LAN_POWER_LPM = 2 then 2 else 0)))) ∧
  (∀ (s : State) (h : Nat), h < 32 → hoopState s h = 4 → hoopFenced s h = false → hoopEntry s h = none →
    completes (.h2PowerUpTimeout h) s fun u =>
      hoopState u h = 2 ∧ hoopFenced u h = true ∧ rd u (.hop h) Fld.PAGE_FENCE_CAUSE_CAUSE = 1 ∧
      rd u (.hop h) Fld.PAGE_FENCE_CAUSE_DETAIL = 4 ∧ u.act = s.act ∧ u.now = s.now ∧
      (s.fenceLog.length < 256 → u.fenceLog = s.fenceLog ++ [⟨false, 1, pageSlot (.hop h), 4, s.stitch⟩])) ∧
  (∀ (s : State) (h : Nat), h < 32 → completes (.hoopPadRelease h) s fun u =>
    (rdB s (.hop h) Fld.HOP_PWR_STAT_PAD_HELD = false → u = s) ∧
    rdB u (.hop h) Fld.HOP_PWR_STAT_PAD_HELD = false ∧
    (rdB s (.hop h) Fld.HOP_PWR_STAT_PAD_HELD = true → hoopState s h = 0 → hoopFenced s h = false → ∀ l, l / 32 = h →
      laneLpm u l = (if laneRate s l = 0 ∨ cfg s (.lan l) Fld.LAN_POWER_LPM = 2 then 2 else 0)) ∧
    (hoopState s h ≠ 0 ∨ hoopFenced s h = true → onlyRegs s u (on (.hop h) [Fld.HOP_PWR_STAT_PAD_HELD])) ∧
    { u with reg := s.reg, lane := s.lane } = s)

/-- R428, R430, R543 to R545 and Tables 17.4, 17.5: with D3_ARM a move of function 0 to D3hot starts the handshake; its
blocks agree one by one, each hoop entering H2 where its own blocks agree, the Sampler records its time, and the last
makes the device ready; a refusal or a timeout leaves it awake and is recorded; PME_Turn_Off then puts it into D3, with
0.65 V on every panel, its pads held and its pulse outputs stopped. Readings and choices of the model that it uses: log
entries 151, 155, 157, 185, 202. -/
def Obligations.DeviceSleep : Prop :=
  (∀ (s : State) (pme : Bool) (t : Nat), completes (.d3hotEntry pme t) s fun u =>
    let go := rdB s .pwr Fld.PWR_D3_CTRL_D3_ARM = true ∧ s.pwr.d3 = .awake ∧ s.pwr.supply = .on
    u.now = max s.now t ∧ (go → u.pwr = { s.pwr with d3 := .entering 0 0, pmeEn := pme, d3Hoops := [] }) ∧
    (¬ go → u.pwr = s.pwr) ∧ { u with now := s.now, pwr := s.pwr } = s) ∧
  (∀ (s : State) (k j t : Nat), s.pwr.d3 = .entering k j → k < 7 → k ≠ 2 →
    completes (.handshakeAnswer 32 t) s fun u =>
      (d3Refuses s k = false → u.now = max s.now t ∧ { u with now := s.now, pwr := s.pwr } = s ∧
        u.pwr = { s.pwr with
          d3 := if k = 6 then .ready else .entering (k + 1) 0
          slept := if k = 5 then some (max s.now t, rd s .tod Fld.SMP_LEDGER_LEDGER, s.stitch) else s.pwr.slept }) ∧
      (d3Refuses s k = true → u.pwr.d3 = .awake ∧ rd u .pwr Fld.PWR_D3_STAT_REFUSER = k + 1 ∧
        rd u .pwr Fld.PWR_STICKY_D3_ABORT = 1 ∧ counter u .pwr 5 = trunc 64 (counter s .pwr 5 + 1) ∧
        u.pwr.pmes = s.pwr.pmes + (if s.pwr.pmeEn then 1 else 0) ∧
        { u with now := s.now, reg := s.reg, cnt := s.cnt, pwr := s.pwr, irqLevel := s.irqLevel, msgs := s.msgs,
                 msixPend := s.msixPend } = s)) ∧
  (∀ (s : State) (j t : Nat), s.pwr.d3 = .entering 2 j → j < 32 →
    completes (.handshakeAnswer 32 t) s fun u =>
      (hoopState s j = 2 → u.pwr = { s.pwr with d3 := if j = 31 then .entering 3 0 else .entering 2 (j + 1) } ∧
        { u with now := s.now, pwr := s.pwr } = s) ∧
      (hoopState s j ≠ 2 → hoopFenced s j = true → u.pwr.d3 = .awake ∧ rd u .pwr Fld.PWR_D3_STAT_REFUSER = 3 ∧
        rd u .pwr Fld.PWR_D3_STAT_HOOP = j) ∧
      (hoopState s j ≠ 2 → hoopFenced s j = false →
        let x := portsDown (putEntry (advance s t) j none) j
        ((∀ k < 4, hoopRefuses x j k = false) → hoopState u j = 2 ∧ rd u (.hop j) Fld.HOP_PWR_STAT_PAD_HELD = 1 ∧
          counter u (.hop j) 1 = trunc 64 (counter s (.hop j) 1 + 1) ∧ tabGet u.pwr.d3Hoops false j = true ∧
          u.pwr.d3 = (if j = 31 then .entering 3 0 else .entering 2 (j + 1))) ∧
        (∀ k < 4, hoopRefuses x j k = true → (∀ i < k, hoopRefuses x j i = false) → nothingHeld s j →
          hoopState u j = 0 ∧ rd u (.hop j) Fld.HOP_PWR_STAT_LAST_REFUSER = k + 1 ∧ u.pwr.d3 = .awake ∧
          rd u .pwr Fld.PWR_D3_STAT_REFUSER = 3 ∧ rd u .pwr Fld.PWR_D3_STAT_HOOP = j))) ∧
  (∀ (s : State) (k j : Nat), s.pwr.d3 = .entering k j →
    completes (.handshakeTimeout 32) s fun u =>
      u.pwr.d3 = .awake ∧ rd u .pwr Fld.PWR_D3_STAT_REFUSER = 15 ∧ rd u .pwr Fld.PWR_STICKY_D3_ABORT = 1 ∧
      (∀ h < 32, h ∈ tabKeys s.pwr.d3Hoops → hoopState u h = 4) ∧
      { u with reg := s.reg, cnt := s.cnt, pwr := s.pwr, irqLevel := s.irqLevel, msgs := s.msgs,
               msixPend := s.msixPend } = s) ∧
  (∀ (s : State), completes .pmeTurnOff s fun u =>
    (s.pwr.d3 ≠ .ready → u = s) ∧
    (s.pwr.d3 = .ready → u.pwr.d3 = .asleep ∧ (∀ p < 8, vSet u p = 650) ∧ rd u .pwr Fld.PWR_PAD_STAT_PAD_HELD = 1 ∧
      counter u .pwr 4 = trunc 64 (counter s .pwr 4 + 1) ∧ (∀ i, (pulseOf u i).fin = none ∧ (pulseOf u i).irig = []) ∧
      { u with reg := s.reg, cnt := s.cnt, smp := s.smp, pwr := s.pwr } = s ∧ { u.smp with pulse := s.smp.pulse } = s.smp ∧
      { u.pwr with d3 := s.pwr.d3, seq := s.pwr.seq, vset := s.pwr.vset } = s.pwr ∧
      regsKept s u (on .pwr [Fld.PWR_LEVEL_STAT_BUSY, Fld.PWR_PAD_STAT_PAD_HELD])))

/-- R547 to R549, R431, R78, R172, R174 and Table 17.6: PERST# always wakes the device and the other sources do where
they are enabled; the wake records its source, restores Sampler time and the stitch count from the ledger and leaves the
pads held until PAD_RELEASE, with which the hoops leave H2; a source ends a handshake that runs. The first wake pattern
at an enabled port of a hoop in H2 wakes the hoop, and in D3, or while the device's pads are held, it is a source of the
device; later ones are discarded. Readings and choices of the model that it uses: log entries 141, 157, 185, 186. -/
def Obligations.DeviceWakes : Prop :=
  (∀ (s : State) (ledger : Nat), s.pwr.railLost = false → s.pwr.d3 = .asleep ∨ s.pwr.d3 = .ready →
    completes (.perstDeassert ledger) s fun u =>
      wokeBy s u 1 0 ledger ∧ u.pwr.perst = false ∧ u.pwr.wakeLow = false) ∧
  (∀ (s : State) (ledger : Nat), s.pwr.d3 = .awake → rdB s .pwr Fld.PWR_PAD_STAT_PAD_HELD = false →
    completes (.perstDeassert ledger) s fun u => u = { s with pwr := { s.pwr with perst := false, wakeLow := false } }) ∧
  (∀ (s : State) (ledger k j : Nat), s.pwr.d3 = .entering k j →
    completes (.perstDeassert ledger) s fun u =>
      u.pwr.d3 = .awake ∧ rd u .pwr Fld.PWR_D3_STAT_REFUSER = 12 ∧ rd u .pwr Fld.PWR_STICKY_D3_ABORT = 1) ∧
  (∀ (s : State) (k addr ledger : Nat), k < 2 → addr < 128 → s.pwr.railLost = false →
    completes (.smbusWakeMatch k addr ledger) s fun u =>
      let hit := bit (rd s .pwr Fld.PWR_WAKE_EN_EN) k = true ∧
        addr = rd s .pwr (if k = 0 then Fld.PWR_SMB_WAKE_ADDR0 else Fld.PWR_SMB_WAKE_ADDR1) ∧
        (s.pwr.d3 = .asleep ∨ s.pwr.d3 = .ready)
      (hit → wokeBy s u (2 + k) addr ledger ∧ u.pwr.wakeLow = true) ∧
      (¬ hit → u = s)) ∧
  (∀ (s : State) (pin ledger : Nat), pin < 2048 → s.pwr.railLost = false →
    completes (.gpioWake pin ledger) s fun u =>
      let on := bit (rd s .pwr Fld.PWR_WAKE_EN_EN) 3 = true ∧ bit (rd s .pwr Fld.PWR_GPIO_WAKE_MASK) pin = true
      (on → s.pwr.d3 = .asleep ∨ s.pwr.d3 = .ready → wokeBy s u 5 pin ledger ∧ u.pwr.wakeLow = true) ∧ (¬ on → u = s)) ∧
  (∀ (s : State) (ledger : Nat), s.pwr.railLost = false →
    completes (.wakeTimer ledger) s fun u =>
      let on := rdB s .pwr Fld.PWR_WAKE_EN_TIMER_EN = true ∧ rdB s .pwr Fld.PWR_D3_CTRL_WAKE_AT_EN = true ∧
        bk s .pwr Fld.PWR_WAKE_AT_LO_AT + 2 ^ 32 * bk s .pwr Fld.PWR_WAKE_AT_HI_AT ≤ ledger
      (on → s.pwr.d3 = .asleep ∨ s.pwr.d3 = .ready → wokeBy s u 6 0 ledger ∧ u.pwr.wakeLow = true) ∧ (¬ on → u = s)) ∧
  (∀ (s : State), completes .devicePadRelease s fun u =>
    let go := rdB s .pwr Fld.PWR_PAD_STAT_PAD_HELD = true ∧ s.pwr.d3 = .awake
    (¬ go → u = s) ∧
    (go → rdB u .pwr Fld.PWR_PAD_STAT_PAD_HELD = false ∧
      (∀ h < 32, hoopState u h = if hoopState s h = 2 ∧ hoopFenced s h = false then 4 else hoopState s h) ∧
      onlyRegs s u (on .pwr [Fld.PWR_PAD_STAT_PAD_HELD] ++
        (List.range 32).flatMap (fun h => on (.hop h) [Fld.HOP_PWR_STAT_STATE])))) ∧
  (∀ (s : State) (n ledger : Nat) (b : List Nat), n < 1024 → s.pwr.railLost = false →
    completes (.wakePatternMatch n b ledger) s fun u =>
      let h := n / 32
      let hit := hoopState s h = 2 ∧ wakeKind s n b ≠ 0 ∧ wakeEn s n = true ∧ (detOf s n).matched = false ∧
        hoopFenced s h = false
      let asleep := s.pwr.d3 = .asleep ∨ s.pwr.d3 = .ready
      let held := rdB s .pwr Fld.PWR_PAD_STAT_PAD_HELD = true
      let en := bit (rd s .pwr Fld.PWR_WAKE_EN_EN) 2 = true
      (¬ hit → u = s) ∧
      (hit → rd u (.mac n) Fld.MAC_WAKE_STAT_LAST_KIND = wakeKind s n b ∧ rd u (.mac n) Fld.MAC_STICKY_WAKE = 1) ∧
      (hit → ¬ asleep → ¬ held → hoopState u h = 4 ∧ rd u (.hop h) Fld.HOP_PWR_STAT_LAST_WAKE = 4 ∧
        detOf u n = { detOf s n with matched := true } ∧ { u.pwr with det := s.pwr.det } = s.pwr ∧
        onlyRegsIrq s { u with pwr := s.pwr } (on (.mac n) [Fld.MAC_WAKE_STAT_LAST_KIND, Fld.MAC_STICKY_WAKE] ++
          on (.hop h) [Fld.HOP_PWR_STAT_STATE, Fld.HOP_PWR_STAT_LAST_WAKE])) ∧
      (hit → asleep ∨ held → ¬ en → hoopState u h = 2 ∧ detOf u n = { detOf s n with matched := true } ∧
        { u.pwr with det := s.pwr.det } = s.pwr ∧
        onlyRegsIrq s { u with pwr := s.pwr } (on (.mac n) [Fld.MAC_WAKE_STAT_LAST_KIND, Fld.MAC_STICKY_WAKE])) ∧
      (hit → asleep → en → wokeBy s u 4 n ledger ∧ u.pwr.wakeLow = true) ∧
      (hit → s.pwr.d3 = .awake → held → en → bit (rd u .pwr Fld.PWR_WAKE_SRC_SEEN) 3 = true ∧ hoopState u h = 2 ∧
        u.pwr.d3 = .awake))

/-- R517 to R519, Table 16.3: too many correctable errors in a second fence a DDR channel only while the spare is free,
a failure of its PHY fences it in any case; the free spare takes the channel over, with a copy or wholly poisoned; a
line that the copier passes and cannot read is poisoned, and the copy ends at the last line. R529, R530: a transfer that
fails its CRC is counted and replayed; the sixteenth consecutive failed replay retrains the port and fences the panel's
hoops with DETAIL 5; the training ends with TRAINED set, counted, and reported after a failure. Readings and choices of
the model that it uses: log entries 147, 148. -/
def Obligations.ChannelsAndPorts : Prop :=
  (∀ (s : State) (c n : Nat), c < 32 →
    completes (.ceRateCheck c n) s fun u =>
      let g := Page.ddr c
      let lim := cfg s g Fld.DDR_ERR_CFG_CE_LIMIT
      let high := lim ≠ 0 ∧ lim < n
      rd u g Fld.DDR_ERR_STAT_CE_SEC = sat 65535 n ∧
      (¬ high → onlyRegs s u (on g [Fld.DDR_ERR_STAT_CE_SEC])) ∧
      (high → rd u g Fld.DDR_STICKY_CE_HIGH = 1 ∧
        (fenced s g = false → rd s .err Fld.ERR_DDR_SPARE_STATE = 0 →
          fenced u g = true ∧ rd u g Fld.PAGE_FENCE_CAUSE_CAUSE = 5 ∧ rd u g Fld.PAGE_FENCE_CAUSE_DETAIL = 3 ∧
          rd u .err Fld.ERR_DDR_SPARE_STATE = 1 ∧ rd u .err Fld.ERR_DDR_SPARE_CHANNEL = c ∧
          rd u g Fld.DDR_STATUS_REMAPPED = 1 ∧ rd u g Fld.DDR_STATUS_COPYING = 1 ∧
          rd u .err Fld.ERR_STICKY_SPARE_USED = 1 ∧ u.spareBlank = false) ∧
        (fenced s g = false → rd s .err Fld.ERR_DDR_SPARE_STATE ≠ 0 →
          fenced u g = false ∧ rd u .err Fld.ERR_STICKY_NO_SPARE = 1 ∧
          counter u .err 9 = trunc 64 (counter s .err 9 + 1) ∧ u.fenceLog = s.fenceLog ∧ u.spareBlank = s.spareBlank)) ∧
      { u with reg := s.reg, cnt := s.cnt, fenceLog := s.fenceLog, spareBlank := s.spareBlank, irqLevel := s.irqLevel,
               msgs := s.msgs, msixPend := s.msixPend } = s) ∧
  (∀ (s : State) (c : Nat), c < 32 →
    completes (.ddrPhyFailure c) s fun u =>
      let g := Page.ddr c
      (fenced s g = true → u = s) ∧
      (fenced s g = false → fenced u g = true ∧ rd u g Fld.PAGE_FENCE_CAUSE_CAUSE = 5 ∧
        rd u g Fld.PAGE_FENCE_CAUSE_DETAIL = 1 ∧ counter u .err 4 = trunc 64 (counter s .err 4 + 1) ∧
        (s.fenceLog.length < 256 → u.fenceLog = s.fenceLog ++ [⟨false, 5, pageSlot g, 1, s.stitch⟩]) ∧
        (rd s .err Fld.ERR_DDR_SPARE_STATE = 0 → rd u .err Fld.ERR_DDR_SPARE_STATE = 2 ∧
          rd u .err Fld.ERR_DDR_SPARE_CHANNEL = c ∧ rd u g Fld.DDR_STATUS_REMAPPED = 1 ∧
          rd u g Fld.DDR_STATUS_COPYING = 0 ∧ u.spareBlank = true ∧ rd u .err Fld.ERR_STICKY_SPARE_USED = 1) ∧
        (rd s .err Fld.ERR_DDR_SPARE_STATE ≠ 0 → rd u g Fld.DDR_STATUS_REMAPPED = rd s g Fld.DDR_STATUS_REMAPPED ∧
          rd u .err Fld.ERR_DDR_SPARE_CHANNEL = rd s .err Fld.ERR_DDR_SPARE_CHANNEL ∧ u.spareBlank = s.spareBlank)) ∧
      { u with reg := s.reg, cnt := s.cnt, fenceLog := s.fenceLog, spareBlank := s.spareBlank, irqLevel := s.irqLevel,
               msgs := s.msgs, msixPend := s.msixPend } = s) ∧
  (∀ (s : State) (lines : Nat) (bad : List Nat), rd s .err Fld.ERR_DDR_SPARE_CHANNEL < 32 →
    completes (.spareCopyDone lines bad) s fun u =>
      let c := rd s .err Fld.ERR_DDR_SPARE_CHANNEL
      let was := rd s .err Fld.ERR_DDR_COPY_LINES
      let upto := max was (min lines 4194304)
      (rd s .err Fld.ERR_DDR_SPARE_STATE ≠ 1 → u = s) ∧
      (rd s .err Fld.ERR_DDR_SPARE_STATE = 1 → was ≤ 4194304 →
        rd u .err Fld.ERR_DDR_COPY_LINES = upto ∧
        (4194304 ≤ lines → rd u .err Fld.ERR_DDR_SPARE_STATE = 2 ∧ rd u (.ddr c) Fld.DDR_STATUS_COPYING = 0) ∧
        (upto < 4194304 → rd u .err Fld.ERR_DDR_SPARE_STATE = 1 ∧
          rd u (.ddr c) Fld.DDR_STATUS_COPYING = rd s (.ddr c) Fld.DDR_STATUS_COPYING) ∧
        (∀ k ∈ bad, was ≤ k → k < upto → ∀ i < 8, poisoned u (8 * (32 * k + c) + i) = true) ∧
        (∀ a, (∀ k ∈ bad, was ≤ k → k < upto → a / 8 ≠ 32 * k + c) → poisoned u a = poisoned s a)) ∧
      { u with reg := s.reg, cnt := s.cnt, fenceLog := s.fenceLog, poison := s.poison, irqLevel := s.irqLevel,
               msgs := s.msgs, msixPend := s.msixPend } = s) ∧
  (∀ (s : State) (p : Nat) (again : Bool), p < 8 →
    completes (.d2dCrcFail p again) s fun u =>
      let g := Page.pnl p
      let r := if again then replayRun s p + 1 else 0
      (rdB s g Fld.PNL_D2D_STAT_TRAINING = true → u = s) ∧
      (rdB s g Fld.PNL_D2D_STAT_TRAINING = false → counter u g 2 = trunc 64 (counter s g 2 + 1)) ∧
      (rdB s g Fld.PNL_D2D_STAT_TRAINING = false → r < 16 → replayRun u p = r ∧
        rd u g Fld.PNL_D2D_STAT_MAX_RUN = max (rd s g Fld.PNL_D2D_STAT_MAX_RUN) r ∧
        counter u g 3 = trunc 64 (counter s g 3 + 1) ∧ counter u .err 8 = trunc 64 (counter s .err 8 + 1) ∧
        rd u g Fld.PNL_STICKY_REPLAY = 1 ∧ (∀ k, k ≠ p → replayRun u k = replayRun s k) ∧
        countersKept s u [cntKey g 2, cntKey g 3, cntKey .err 8] ∧
        regsKept s u (on g [Fld.PNL_D2D_STAT_MAX_RUN, Fld.PNL_STICKY_REPLAY]) ∧
        { u with reg := s.reg, cnt := s.cnt, pwr := s.pwr, irqLevel := s.irqLevel, msgs := s.msgs,
                 msixPend := s.msixPend } = s) ∧
      (rdB s g Fld.PNL_D2D_STAT_TRAINING = false → 16 ≤ r → replayRun u p = 0 ∧
        rd u g Fld.PNL_D2D_STAT_TRAINED = 0 ∧ rd u g Fld.PNL_D2D_STAT_TRAINING = 1 ∧
        (∀ i < 4, hoopFenced u (4 * p + i) = true ∧ (hoopFenced s (4 * p + i) = false →
          rd u (.hop (4 * p + i)) Fld.PAGE_FENCE_CAUSE_CAUSE = 1 ∧
          rd u (.hop (4 * p + i)) Fld.PAGE_FENCE_CAUSE_DETAIL = 5)) ∧
        (∀ h < 32, h / 4 ≠ p → hoopFenced u h = hoopFenced s h))) ∧
  (∀ (s : State) (p : Nat), p < 8 →
    completes (.d2dRetrainDone p) s fun u =>
      let g := Page.pnl p
      (rdB s g Fld.PNL_D2D_STAT_TRAINED = true → u = s) ∧
      (rdB s g Fld.PNL_D2D_STAT_TRAINED = false → rd u g Fld.PNL_D2D_STAT_TRAINED = 1 ∧
        rd u g Fld.PNL_D2D_STAT_TRAINING = 0 ∧
        rd u g Fld.PNL_D2D_TRAINS_TRAINS = sat 65535 (rd s g Fld.PNL_D2D_TRAINS_TRAINS + 1) ∧
        (rdB s g Fld.PNL_D2D_STAT_TRAINING = true → rd u g Fld.PNL_STICKY_RETRAINED = 1 ∧
          counter u g 4 = trunc 64 (counter s g 4 + 1)) ∧
        (rdB s g Fld.PNL_D2D_STAT_TRAINING = false → u.cnt = s.cnt ∧
          rd u g Fld.PNL_STICKY_RETRAINED = rd s g Fld.PNL_STICKY_RETRAINED)) ∧
      { u with reg := s.reg, cnt := s.cnt, irqLevel := s.irqLevel, msgs := s.msgs, msixPend := s.msixPend } = s ∧
      regsKept s u (on g [Fld.PNL_D2D_STAT_TRAINED, Fld.PNL_D2D_STAT_TRAINING, Fld.PNL_D2D_TRAINS_TRAINS,
        Fld.PNL_STICKY_RETRAINED]))

/-- R523, R522: a firmware restart sets FW_RESTART and holds the servo, which leaves LOCKED for HOLDOVER, until it is
done; vector 0 sends its message when the OR of its conditions rises, and again on IRQ0_REARM while the OR is 1; a
masked vector pends. -/
def Obligations.FirmwareAndVector0 : Prop :=
  (∀ (s : State), completes .fwRestart s fun u =>
    rd u .glb Fld.GLB_STICKY_FW_RESTART = 1 ∧ u.smp.fwHold = true ∧
    (servo s = 2 → servo u = 3 ∧ source u = 0 ∧ rd u .tod Fld.TOD_STICKY_HOLDOVER = 1) ∧
    (servo s ≠ 2 → u.smp = { s.smp with fwHold := true } ∧ regsKept s u (on .glb [Fld.GLB_STICKY_FW_RESTART]) ∧
      (tabGet s.irqLevel false 0 = false → irq0Cond u 0 = true →
        (tabGet s.msixMask false 0 = true → tabGet u.msgs 0 0 = tabGet s.msgs 0 0 + 1 ∧ u.msixPend = s.msixPend) ∧
        (tabGet s.msixMask false 0 = false → tabGet u.msixPend false 0 = true ∧ u.msgs = s.msgs)) ∧
      (tabGet s.irqLevel false 0 = true ∨ irq0Cond u 0 = false → u.msgs = s.msgs ∧ u.msixPend = s.msixPend) ∧
      tabGet u.irqLevel false 0 = irq0Cond u 0) ∧
    { u with reg := s.reg, smp := s.smp, irqLevel := s.irqLevel, msgs := s.msgs, msixPend := s.msixPend } = s) ∧
  (∀ (s : State), completes .fwRestartDone s (· = { s with smp := { s.smp with fwHold := false } })) ∧
  (∀ (s : State) (f : Nat), completes (.irq0Rearm f) s fun u =>
    (irq0Cond s f = false → u = s) ∧
    (irq0Cond s f = true → tabGet s.msixMask false (128 * f) = true →
      tabGet u.msgs 0 (128 * f) = tabGet s.msgs 0 (128 * f) + 1 ∧ { u with msgs := s.msgs } = s ∧
      (∀ k, k ≠ 128 * f → tabGet u.msgs 0 k = tabGet s.msgs 0 k)) ∧
    (irq0Cond s f = true → tabGet s.msixMask false (128 * f) = false →
      tabGet u.msixPend false (128 * f) = true ∧ { u with msixPend := s.msixPend } = s))

/-- R512 to R515, R329, R409, R474: FENCE_REQ fences the unit of its page with the cause of Table 16.1 and the reason
for software, and changes nothing of a unit that is fenced; RELEASE starts the reset of a hoop, asks for that of a
bobbin, and ends the fence of a channel and of a link; written to a unit that is not fenced it is discarded; the shell
of a page whose domain is off holds either (R122). R514, R515, Table 17.8: the reset of a released hoop ends its fence
and those of its bobbins, brings its pages but for the lanes and the pad state to their reset values, clears what the
hoop held, and starts its lanes unless their pads are held. Readings and choices of the model that it uses: log entries
78, 149, 162, 177. -/
def Obligations.SoftwareFences : Prop :=
  (∀ (s : State) (a h : Nat), pageOf a = some (.hop h) → shellHolds s (.hop h) = false →
    h < 32 → hoopFenced s h = false → hoopEntry s h = none →
    completes (.fenceReq a) s fun u =>
      hoopFenced u h = true ∧ rd u (.hop h) Fld.PAGE_FENCE_CAUSE_CAUSE = 1 ∧
      rd u (.hop h) Fld.PAGE_FENCE_CAUSE_DETAIL = 6 ∧ hoopState u h = hoopState s h ∧
      counter u .err 0 = trunc 64 (counter s .err 0 + 1) ∧
      (∀ n, n / 32 = h → linkUp u n = false ∧ rxOf u n = none) ∧
      (∀ l, l / 32 = h → laneLpm u l = 2) ∧ (∀ k, k / 32768 = h → tabGet u.ctx {} k = {}) ∧
      (∀ b, b / 16 = h → tabGet u.evq [] b = [] ∧ ∀ t < 4, (thrOf u b t).work = .idle) ∧
      tabGet u.rs.tsf [] h = [] ∧ u.fil = s.fil ∧ u.dram = s.dram ∧ u.act = s.act) ∧
  (∀ (s : State) (a b : Nat), pageOf a = some (.bob b) → shellHolds s (.bob b) = false → b < 512 → fenced s (.bob b) = false →
    hoopFenced s (b / 16) = false →
    completes (.fenceReq a) s fun u =>
      fenced u (.bob b) = true ∧ rd u (.bob b) Fld.PAGE_FENCE_CAUSE_CAUSE = 2 ∧
      rd u (.bob b) Fld.PAGE_FENCE_CAUSE_DETAIL / 256 % 64 = 13 ∧ (∀ t < 4, (thrOf u b t).work = .idle) ∧
      fqOf u b = [] ∧ tabGet u.evq [] b = []) ∧
  (∀ (s : State) (a f : Nat), pageOf a = some (.ndlf f) → shellHolds s (.ndlf f) = false → f < 64 → fenced s (.ndlf f) = false →
    completes (.fenceReq a) s fun u =>
      fenced u (.ndlf f) = true ∧ rd u (.ndlf f) Fld.PAGE_FENCE_CAUSE_CAUSE = 3 ∧
      rd u (.ndlf f) Fld.PAGE_FENCE_CAUSE_DETAIL = 2560 ∧ u.ndl = s.ndl ∧ u.rs = s.rs) ∧
  (∀ (s : State) (a i : Nat), pageOf a = some (.ch i) → shellHolds s (.ch i) = false → i < 3 → fenced s (.ch i) = false →
    completes (.fenceReq a) s fun u =>
      (voters s = [i] → u = s) ∧
      (voters s ≠ [i] → fenced u (.ch i) = true ∧ rd u (.ch i) Fld.PAGE_FENCE_CAUSE_CAUSE = 4 ∧
        rd u (.ch i) Fld.PAGE_FENCE_CAUSE_DETAIL = 3 ∧ chVoting u i = false)) ∧
  (∀ (s : State) (a n : Nat), pageOf a = some (.mac n) → shellHolds s (.mac n) = false → n < 1024 → fenced s (.mac n) = false →
    hoopFenced s (n / 32) = false →
    completes (.fenceReq a) s fun u =>
      (isAld s n = false → u = s) ∧
      (isAld s n = true → fenced u (.mac n) = true ∧ rd u (.mac n) Fld.PAGE_FENCE_CAUSE_CAUSE = 6 ∧
        rd u (.mac n) Fld.PAGE_FENCE_CAUSE_DETAIL = 3 ∧ lstate u n = 6)) ∧
  (∀ (s : State) (a : Nat) (p : Page), pageOf a = some p → shellHolds s p = false → fenced s p = true →
    completes (.fenceReq a) s (· = s)) ∧
  (∀ (s : State) (a : Nat) (p : Page), pageOf a = some p → shellHolds s p = false → fenced s p = false →
    completes (.fenceRelease a) s (· = s)) ∧
  (∀ (s : State) (a h : Nat), pageOf a = some (.hop h) → shellHolds s (.hop h) = false → h < 32 → hoopFenced s h = true →
    completes (.fenceRelease a) s fun u =>
      let waits := rd s (.hop h) Fld.PAGE_FENCE_CAUSE_DETAIL = 5 ∧ rdB s (.pnl (h / 4)) Fld.PNL_D2D_STAT_TRAINED = false
      (waits → u = s) ∧
      (¬ waits → tabGet u.pwr.reset false h = true ∧ { u with pwr := s.pwr } = s ∧
        { u.pwr with reset := s.pwr.reset } = s.pwr)) ∧
  (∀ (s : State) (a b : Nat), pageOf a = some (.bob b) → shellHolds s (.bob b) = false → b < 512 → fenced s (.bob b) = true →
    completes (.fenceRelease a) s fun u =>
      tabGet u.bob.rel false b = true ∧ { u with bob := s.bob } = s) ∧
  (∀ (s : State) (a : Nat) (p : Page), pageOf a = some p → shellHolds s p = true → noCrossing p = false →
    eventsOf (xingOf s p) < 256 →
    completes (.fenceReq a) s (fun u =>
      xingOf u p = xingOf s p ++ [.event (fieldKey p Fld.PAGE_FENCE_FENCE_REQ)] ∧ { u with xing := s.xing } = s) ∧
    completes (.fenceRelease a) s (fun u =>
      xingOf u p = xingOf s p ++ [.event (fieldKey p Fld.PAGE_FENCE_RELEASE)] ∧ { u with xing := s.xing } = s)) ∧
  (∀ (s : State) (a i : Nat), pageOf a = some (.ch i) → shellHolds s (.ch i) = false → i < 3 → fenced s (.ch i) = true →
    completes (.fenceRelease a) s fun u =>
      (rdB s (.ch i) Fld.SMP_CH_STAT_CLK_OK = false → u = s) ∧
      (rdB s (.ch i) Fld.SMP_CH_STAT_CLK_OK = true → fenced u (.ch i) = false ∧
        rd u (.ch i) Fld.PAGE_FENCE_CAUSE_CAUSE = 0 ∧ rd u (.ch i) Fld.SMP_CH_STAT_REJOIN = 1 ∧ chVoting u i = false)) ∧
  (∀ (s : State) (a n : Nat), pageOf a = some (.mac n) → shellHolds s (.mac n) = false → n < 1024 → fenced s (.mac n) = true →
    hoopFenced s (n / 32) = false →
    completes (.fenceRelease a) s fun u =>
      fenced u (.mac n) = false ∧ rd u (.mac n) Fld.PAGE_FENCE_CAUSE_CAUSE = 0 ∧
      lstate u n = (if rdB s (.mac n) Fld.MAC_STATUS_PCS_LOCK then 1 else 0) ∧ linkOf u n = {} ∧
      counter u .err 6 = trunc 64 (counter s .err 6 + 1)) ∧
  (∀ (s : State) (h : Nat), tabGet s.pwr.reset false h = false ∨ hoopFenced s h = false →
    completes (.hoopResetDone h) s (· = s)) ∧
  (∀ (s : State) (h : Nat), h < 32 → tabGet s.pwr.reset false h = true → hoopFenced s h = true →
    tabGet s.sleepDue 0 (16 * h) = 0 →
    completes (.hoopResetDone h) s fun u =>
      hoopFenced u h = false ∧ rd u (.hop h) Fld.PAGE_FENCE_CAUSE_CAUSE = 0 ∧ hoopState u h = 0 ∧
      rd u (.hop h) Fld.HOP_PWR_STAT_PAD_HELD = rd s (.hop h) Fld.HOP_PWR_STAT_PAD_HELD ∧
      (∀ b, b / 16 = h → fenced u (.bob b) = false ∧ ∀ t < 4, thrOf u b t = {}) ∧
      (∀ p ∈ hoopPages h, (∀ l, p ≠ .lan l) → p ≠ .hop h → ∀ k, keyBase k = pageBase p →
        tabFind u.reg k = none ∧ tabFind u.act k = none ∧ tabFind u.shd k = none) ∧
      (∀ k, k / 32768 = h → tabGet u.ctx {} k = {}) ∧ tabGet u.skStaged [] h = [] ∧ tabGet u.learnFilt [] h = [] ∧
      (∀ n, n / 32 = h → linkOf u n = {}) ∧ tabGet u.pwr.reset false h = false ∧ hoopEntry u h = none ∧
      (∀ l, l / 32 = h → laneLpm u l = 2 ∧ laneRate u l = 0 ∧ rd u (.lan l) Fld.LAN_STATUS_CDR_LOCK = 0) ∧
      u.fil = s.fil ∧ u.dram = s.dram ∧ u.now = s.now ∧ u.stitch = s.stitch ∧ u.mor = s.mor)

/-- R48, R538, R550, R551, R566, R568 and Table 17.8: a cold and a warm reset bring the whole device to its reset state
but for the fuses, and a warm one the always-on domain; the boot tries copy A, then copy B, and fixes the role; a
thermal trip holds the device in warm reset until it has cooled; READY follows when firmware has booted, and the shells
whose blocks are on deliver what they held (R122). R566, R582: a loss of power leaves each bit of the change in hand
burned or not, ends everything but the fuses and the flash, and keeps the device down until its rails are up again; in
D3 a rail that falls shows at the wake. Readings and choices of the model that it uses: log entries 158, 159, 161, 164,
171, 177. -/
def Obligations.ResetsAndPowerLoss : Prop :=
  (∀ (s : State) (b : BootPins), completes (.coldReset b) s fun u =>
    { u with reg := [], irqLevel := [], msgs := [], msixPend := [], laneFuse := [], ald := {}, mor := {}, fresh := 0 } =
      { State.reset with pending := s.pending, mor := {}, pwr := { State.reset.pwr with perst := s.pwr.perst } } ∧
    rd u .glb Fld.GLB_RESET_CAUSE_CAUSE = 1 ∧ bootedFrom s u b) ∧
  (∀ (s : State) (b : BootPins), s.pwr.supply = .on → s.pwr.railLost = false →
    completes (.warmReset b) s fun u =>
      (s.mor.req.isSome = true → u = { s with mor := { s.mor with resetDue := some b } }) ∧
      (s.mor.req = none →
        { u with reg := [], blk := [], irqLevel := [], msgs := [], msixPend := [], laneFuse := [], ald := {}, mor := {},
                 fresh := 0 } =
          { State.reset with
            pending := s.pending
            mor := {}
            pwr := { State.reset.pwr with perst := s.pwr.perst, temp := s.pwr.temp, vmeas := s.pwr.vmeas } } ∧
        rd u .glb Fld.GLB_RESET_CAUSE_CAUSE = 2 ∧ bootedFrom s u b ∧ keptOn s u)) ∧
  (∀ (s : State) (b : BootPins), s.pwr.supply = .tripped →
    completes (.warmReset b) s fun u =>
      (∀ i < 10, 840 ≤ tileTemp s i → u = s) ∧
      ((∀ i < 10, tileTemp s i < 840) → u.pwr.supply = .on ∧ u.pwr.tripLow = false ∧
        rd u .glb Fld.GLB_RESET_CAUSE_CAUSE = 3 ∧ bootedFrom s u b ∧ keptOn s u)) ∧
  (∀ (s : State) (b : BootPins), s.pwr.supply = .off → completes (.warmReset b) s (· = s)) ∧
  (∀ (s : State), completes .thermalTrip s fun u =>
    let trip := s.pwr.supply = .on ∧ ∃ i < 10, 920 ≤ tileTemp s i
    (¬ trip → u = s) ∧
    (trip → u.pwr.supply = .tripped ∧ u.pwr.tripLow = true ∧ rd u .glb Fld.GLB_RESET_CAUSE_CAUSE = 3 ∧
      rd u .glb Fld.GLB_STICKY_THERM_TRIP = 1 ∧ rdB u .glb Fld.GLB_RESET_CAUSE_READY = false ∧ u.stitch = 0 ∧
      u.now = 0 ∧ u.act = [] ∧ u.rs = {} ∧ keptOn s u)) ∧
  (∀ (s : State), completes .firmwareReady s fun u =>
    let boots := s.pwr.supply = .on ∧ rd s .mor Fld.MOR_BOOT_BOOT ≠ 3
    (¬ boots → u = s) ∧
    (boots → s.xing = [] → rd u .glb Fld.GLB_RESET_CAUSE_READY = 1 ∧
      onlyRegs s u (on .glb [Fld.GLB_RESET_CAUSE_READY])) ∧
    (∀ p f v, boots → pageOf (pageBase p) = some p → fieldAt p (fieldKey p f) = some f →
      s.xing = [(pageBase p, [.value (fieldKey p f) v])] →
      rd u .glb Fld.GLB_RESET_CAUSE_READY = 1 ∧
      (∀ h, pageHoop p = some h → p ≠ .hop h → hoopAsleep s h = true → u.xing = s.xing ∧ u.blk = s.blk) ∧
      (pageHoop p = none → bk u p f = trunc f.width v ∧ u.xing = [] ∧
        (∀ k, k ≠ fieldKey p f → tabFind u.blk k = tabFind s.blk k) ∧
        onlyRegs { s with blk := u.blk, xing := [] } u (on .glb [Fld.GLB_RESET_CAUSE_READY])))) ∧
  (∀ (s : State) (bs : List Nat), completes (.powerLoss bs) s fun u =>
    { u with mor := {}, fresh := 0 } =
      { State.reset with
        pending := s.pending
        pwr := { State.reset.pwr with supply := .off }
        mor := {} } ∧
    (s.mor.req = none → u.mor = { s.mor with grant := false, req := none, resetDue := none, served := s.mor.served + 1 }) ∧
    (∀ op, s.mor.req = some op → morCheck s op [] = 0 → morBurn s op bs.contains ≠ s.mor →
      { u.mor with lost := s.mor.lost, grant := s.mor.grant, req := s.mor.req, resetDue := s.mor.resetDue,
                   served := s.mor.served } = morBurn s op bs.contains ∧ u.mor.lost.length = s.mor.lost.length + 1)) ∧
  (∀ (s : State) (bs : List Nat), completes (.supplyRailFall bs) s fun u =>
    (s.pwr.d3 = .asleep → u = { s with pwr := { s.pwr with railLost := true } }) ∧
    (s.pwr.d3 ≠ .asleep → exec (.powerLoss bs) s = .next u))

/-- R494, R550, R554: a function-level reset turns every pair of its function off, ends its fence and empties its pools,
and one of function 0 does so for all 64 and ends a D3 handshake with code 12; PERST# does the same; in D3 neither
changes anything else. R552, R53: GO requests a soft reset for the next boundary or a target of 16 bits; a target that
has passed sets SOFT_LATE, and a GO while one is pending or runs is discarded; at its end SOFT_STATE is 0. Readings and
choices of the model that it uses: log entry 163. -/
def Obligations.FunctionAndSoftResets : Prop :=
  (∀ (s : State) (f : Nat), f < 64 → f ≠ 0 → s.pwr.d3 ≠ .asleep →
    completes (.functionLevelReset f) s fun u =>
      functionClear u f ∧ u.pwr = s.pwr ∧ u.now = s.now ∧ u.act = tabSel (fun k => keyBase k != pageBase (.flsf f))
        (tabSel (fun k => keyBase k != pageBase (.ndlf f)) s.act) ∧
      (∀ g < 64, g ≠ f → ∀ q < 64, txEng u g q = txEng s g q ∧ rxEng u g q = rxEng s g q ∧ qpOn u g q = qpOn s g q ∧
        ∀ p < 8, poolStore u g p = poolStore s g p)) ∧
  (∀ (s : State), s.pwr.d3 ≠ .asleep → completes (.functionLevelReset 0) s fun u =>
    (∀ f < 64, functionClear u f) ∧
    (∀ k j, s.pwr.d3 = .entering k j → u.pwr.d3 = .awake ∧ rd u .pwr Fld.PWR_D3_STAT_REFUSER = 12 ∧
      rd u .pwr Fld.PWR_STICKY_D3_ABORT = 1) ∧
    (s.pwr.d3 = .awake → u.pwr = s.pwr) ∧ u.now = s.now ∧ u.stitch = s.stitch ∧ u.rs.queue = s.rs.queue) ∧
  (∀ (s : State), completes .perstAssert s fun u =>
    u.pwr.perst = true ∧ (s.pwr.d3 = .asleep → u = { s with pwr := { s.pwr with perst := true } }) ∧
    (s.pwr.d3 ≠ .asleep → (∀ f < 64, functionClear u f) ∧ u.now = s.now ∧ u.stitch = s.stitch ∧ u.bob = s.bob)) ∧
  (∀ (s : State) (f : Nat), s.pwr.d3 = .asleep → completes (.functionLevelReset f) s (· = s)) ∧
  (∀ (s : State) (atEn : Bool) (n : Nat), n < 65536 →
    completes (.softResetRequest atEn n) s fun u =>
      let d := (n + 65536 - reqStitch s % 65536) % 65536
      let ks := on .glb [Fld.GLB_SOFT_RST_AT_EN, Fld.GLB_SOFT_RST_AT]
      rd u .glb Fld.GLB_SOFT_RST_AT_EN = (if atEn then 1 else 0) ∧ rd u .glb Fld.GLB_SOFT_RST_AT = n ∧
      (softState s ≠ 0 → onlyRegs s u ks) ∧
      (softState s = 0 → atEn = false → softState u = 1 ∧ u.pwr = { s.pwr with soft := some .untargeted } ∧
        { u with reg := s.reg, pwr := s.pwr } = s ∧ regsKept s u (on .glb [Fld.GLB_RESET_CAUSE_SOFT_STATE] ++ ks)) ∧
      (softState s = 0 → atEn = true → 1 ≤ d → d ≤ 32768 → softState u = 1 ∧
        u.pwr = { s.pwr with soft := some (.targeted (reqStitch s + d)) } ∧ (reqStitch s + d) % 65536 = n ∧
        { u with reg := s.reg, pwr := s.pwr } = s) ∧
      (softState s = 0 → atEn = true → d = 0 ∨ 32768 < d → softState u = 0 ∧ rd u .glb Fld.GLB_STICKY_SOFT_LATE = 1 ∧
        onlyRegsIrq s u (on .glb [Fld.GLB_STICKY_SOFT_LATE] ++ ks))) ∧
  (∀ (s : State), completes .softResetDone s fun u =>
    (softState s = 2 → softState u = 0 ∧ onlyRegs s u (on .glb [Fld.GLB_RESET_CAUSE_SOFT_STATE])) ∧
    (softState s ≠ 2 → u = s))

/-- R563, R564 and Table 18.4: an operation runs only while the request that asks for it runs; the first check that
fails gives its RESULT, with which the request ends: it changes no fuse, a new nonce is drawn and MOR_REFUSED is set.
Readings and choices of the model that it uses: log entries 164, 165. -/
def Obligations.MordantRefusals : Prop :=
  ∀ (s : State) (b : Burn) (pins : BootPins) (cA cB : FlashCopy),
    ∀ x ∈ ([(.transition b pins, 1, []), (.role b pins, 2, []), (.keyInit b, 3, []), (.keyRotate b cA cB, 4, [cA, cB]),
      (.arbAdvance b cA cB, 5, [cA, cB]), (.laneFuse b, 6, []), (.debugGrant, 7, []), (.flashWrite, 8, []),
      (.reboot pins, 9, []), (.debugKey b, 10, [])] : List (Instr × Nat × List FlashCopy)),
    let op := x.2.1
    let pass (n : Nat) : Bool := match n with
      | 1 => check1 s op | 2 => check2 s | 3 => check3 s op | 4 => check4 s op | 5 => check5 s op
      | _ => check6 s op x.2.2
    (s.mor.req ≠ some op → completes x.1 s (· = s)) ∧
    (s.mor.req = some op → s.mor.resetDue = none →
      ∀ n r, (n, r) ∈ [(1, 6), (2, 3), (3, 4), (4, 2), (5, 5), (6, 8)] → pass n = false →
        (∀ m, 1 ≤ m → m < n → pass m = true) →
        completes x.1 s fun u =>
          rd u .glb Fld.GLB_MOR_STAT_RESULT = r ∧ rd u .glb Fld.GLB_MOR_STAT_BUSY = 0 ∧
          rd u .glb Fld.GLB_STICKY_MOR_REFUSED = 1 ∧ u.mor = { s.mor with req := none, served := s.mor.served + 1 } ∧
          onlyRegsIrq { s with mor := u.mor } u
            (on .glb [Fld.GLB_MOR_STAT_RESULT, Fld.GLB_MOR_STAT_BUSY, Fld.GLB_STICKY_MOR_REFUSED]))

/-- R565 to R567, R569: a request of KEY_INIT, KEY_ROTATE, ARB_ADVANCE, LANE_FUSE or DEBUG_KEY that passes its checks
burns the key of its arguments into its slot, the counter up to its value, the lane map as the next generation, or the
debug key, changes no other fuse, is logged and ends with RESULT 0; of a burn that fails the bits that did burn stand
and RESULT is 7. Readings and choices of the model that it uses: log entry 166. -/
def Obligations.MordantBurns : Prop :=
  ∀ (s : State) (cA cB : FlashCopy), s.mor.resetDue = none →
    let key := (∀ a ∈ reqArgs s, a < 2 ^ 32) ∧ ∃ a ∈ reqArgs s, a ≠ 0
    let done (c : Instr) (op : Nat) (copies : List FlashCopy) (fuses : MorSt → Prop) : Prop :=
      s.mor.req = some op → morCheck s op copies = 0 →
      completes c s fun u =>
        fuses { u.mor with log := s.mor.log, req := s.mor.req, served := s.mor.served } ∧ u.mor.req = none ∧
        u.mor.served = s.mor.served + 1 ∧ rd u .glb Fld.GLB_MOR_STAT_RESULT = 0 ∧
        rd u .glb Fld.GLB_MOR_STAT_BUSY = 0 ∧
        (s.mor.log.length < 256 → ∃ e, u.mor.log = s.mor.log ++ [e] ∧ bits (e.getD 0 0) 31 30 = 2 ∧
          bits (e.getD 0 0) 19 16 = op ∧ e.getD 1 0 = s.stitch % 2 ^ 32 ∧
          (traceable s = false → e.getD 2 0 = 0)) ∧
        { u with reg := s.reg, mor := s.mor } = s
    (key → done (.keyInit .ok) 3 [] (fun m => m = { s.mor with keys := m.keys } ∧ tabGet m.keys [] 0 = reqArgs s ∧
      ∀ k, k ≠ 0 → tabGet m.keys [] k = keySlot s k)) ∧
    (key → done (.keyRotate .ok cA cB) 4 [cA, cB] (fun m => m = { s.mor with keys := m.keys } ∧
      ∃ n, 1 ≤ n ∧ n ≤ 8 ∧ keyHeld s n = false ∧ tabGet m.keys [] n = reqArgs s ∧
        ∀ k, k ≠ n → tabGet m.keys [] k = keySlot s k)) ∧
    done (.arbAdvance .ok cA cB) 5 [cA, cB] (fun m => s.mor.arb < reqArg s 0 ∧ m = { s.mor with arb := reqArg s 0 }) ∧
    done (.laneFuse .ok) 6 [] (fun m => m = { s.mor with lanes := s.mor.lanes ++ [(List.range 1024).map (laneArg s)] }) ∧
    (key → done (.debugKey .ok) 10 [] (fun m => m = { s.mor with debugKey := reqArgs s })) ∧
    (∀ bs : List Nat, ∀ x ∈ ([(.keyInit (.failed bs), 3, []), (.keyRotate (.failed bs) cA cB, 4, [cA, cB]),
        (.arbAdvance (.failed bs) cA cB, 5, [cA, cB]), (.laneFuse (.failed bs), 6, []),
        (.debugKey (.failed bs), 10, [])] : List (Instr × Nat × List FlashCopy)),
      s.mor.req = some x.2.1 → morCheck s x.2.1 x.2.2 = 0 →
      completes x.1 s fun u =>
        rd u .glb Fld.GLB_MOR_STAT_RESULT = 7 ∧ u.mor.req = none ∧
        { u.mor with log := s.mor.log, req := s.mor.req, served := s.mor.served } = morBurn s x.2.1 bs.contains ∧
        (morBurn s x.2.1 bs.contains = s.mor → u.mor.log = s.mor.log) ∧ { u with reg := s.reg, mor := s.mor } = s)

/-- R559, R560, R562, R565, R570: a verified transition takes effect through a warm reset, and one to RETURN burns every
key to ones; a role change names the role through a warm reset; a debug grant opens debug access until the next reset,
and time is not traceable; a flash write puts its bytes at its offset, and a reboot is a warm reset. Readings and
choices of the model that it uses: log entry 164. -/
def Obligations.MordantOperations : Prop :=
  (∀ (s : State) (pins : BootPins), s.mor.req = some 1 → morCheck s 1 [] = 0 →
    completes (.transition .ok pins) s fun u =>
      morState u = reqArg s 0 ∧ rd u .glb Fld.GLB_RESET_CAUSE_CAUSE = 2 ∧ u.stitch = 0 ∧ u.now = 0 ∧ u.act = [] ∧
      u.rs = {} ∧ u.mor.req = none ∧ u.mor.grant = false ∧ u.mor.arb = s.mor.arb ∧ u.mor.role = s.mor.role ∧
      (reqArg s 0 = 4 → (∀ k < 9, keySlot u k = allOnes) ∧ u.mor.debugKey = allOnes ∧ ownerKey u = none) ∧
      (reqArg s 0 ≠ 4 → u.mor.keys = s.mor.keys ∧ u.mor.debugKey = s.mor.debugKey)) ∧
  (∀ (s : State) (pins : BootPins), s.mor.req = some 2 → morCheck s 2 [] = 0 →
    completes (.role .ok pins) s fun u =>
      u.mor.role = s.mor.role + 1 ∧ roleFuse u = (reqArg s 0 == 1) ∧ u.mor.t = s.mor.t ∧ u.mor.keys = s.mor.keys ∧
      rd u .glb Fld.GLB_RESET_CAUSE_CAUSE = 2 ∧ u.stitch = 0 ∧
      u.ald.capable = (pins.mgrSel && reqArg s 0 == 1 && Config.variant != 1)) ∧
  (∀ (s : State) (pins : BootPins) (bs : List Nat), s.mor.resetDue = none →
    ∀ x ∈ [(Instr.transition (.failed bs) pins, 1), (Instr.role (.failed bs) pins, 2)],
      s.mor.req = some x.2 → morCheck s x.2 [] = 0 →
      completes x.1 s fun u =>
        rd u .glb Fld.GLB_MOR_STAT_RESULT = 7 ∧ u.mor.req = none ∧ u.stitch = s.stitch ∧
        { u.mor with log := s.mor.log, req := s.mor.req, served := s.mor.served } = morBurn s x.2 bs.contains) ∧
  (∀ (s : State), s.mor.req = some 7 → morCheck s 7 [] = 0 → s.mor.resetDue = none →
    completes .debugGrant s fun u =>
      u.mor = { s.mor with req := none, served := s.mor.served + 1, grant := true } ∧ debugOpen u = true ∧
      rd u .glb Fld.GLB_STICKY_DEBUG_OPEN = 1 ∧ traceable u = false ∧ rd u .glb Fld.GLB_MOR_STAT_RESULT = 0 ∧
      { u with reg := s.reg, mor := s.mor, irqLevel := s.irqLevel, msgs := s.msgs, msixPend := s.msixPend } = s) ∧
  (∀ (s : State), s.mor.req = some 8 → morCheck s 8 [] = 0 → s.mor.resetDue = none →
    completes .flashWrite s fun u =>
      tabGet u.mor.flash [] (reqArg s 0 / 1024) = (reqArgs s).drop 1 ∧
      (∀ k, k ≠ reqArg s 0 / 1024 → tabGet u.mor.flash [] k = tabGet s.mor.flash [] k) ∧
      { u.mor with flash := s.mor.flash } = { s.mor with req := none, served := s.mor.served + 1 } ∧
      rd u .glb Fld.GLB_MOR_STAT_RESULT = 0 ∧ { u with reg := s.reg, mor := s.mor } = s) ∧
  (∀ (s : State) (pins : BootPins), s.mor.req = some 9 → morCheck s 9 [] = 0 →
    completes (.reboot pins) s fun u =>
      rd u .glb Fld.GLB_RESET_CAUSE_CAUSE = 2 ∧ u.stitch = 0 ∧ keptOn s u ∧
      u.mor = { s.mor with req := none, resetDue := none, grant := false, served := s.mor.served + 2,
                           log := u.mor.log, lost := [] } ∧ (s.mor.lost = [] → u.mor.log = s.mor.log))

/-- R13, R35, R85, R95, R96, R105, R119 and Table 16.5: a write stores an RWS or RWV field in its shadow alone, in all
three copies of an RWV field, and an RW field in the shell, from which it reaches its block at once or crosses; RO
fields and those of another owner keep their value, which OWNER_REFUSED reports where the bits differ; a 1 clears a
sticky bit; a parity error and an unmapped address are reported and nothing is written. R91, R117, R478: a page whose
chapter defines no CNT_CLR ignores its bit; a split value goes to its block as one; a word of an MSI-X table reads as
written. Readings and choices of the model that it uses: log entries 127, 132, 133, 134, 136. -/
def Obligations.RegisterWrites : Prop :=
  (∀ (s : State) (a v : Nat) (pl : Plane) (p : Page) (f : Field), pageAt s a = some p →
    f ∈ regFields p (a % 0x1000 / 4 * 4) → 0x080 ≤ f.off → (∀ n, p = .tmg n → n < 1048) →
    (∀ g ∈ regFields p (a % 0x1000 / 4 * 4), g.access ≠ .wo) →
    let x := bits v (f.lo + f.width - 1) f.lo
    completes (.registerWrite a v pl false) s fun u =>
      (pl = .mgmt ∨ mgmtOwned p f = false →
        (f.access = .rws ∨ f.access = .rwv → shw u p f = x) ∧
        (f.access = .rwv → tabGet u.vote {} (2 * fieldKey p f) = {}) ∧
        (f.access = .rw → rd u p f = x) ∧
        (f.access = .rw → splitOf p f = none → (pageCaps p).domain = 0 → bk u p f = x) ∧
        (f.access = .rw → splitOf p f = none → (pageCaps p).domain ≠ 0 → bk u p f = bk s p f ∧
          Xing.value (fieldKey p f) x ∈ xingOf u p)) ∧
      (pl = .host → mgmtOwned p f = true →
        shw u p f = shw s p f ∧ rd u p f = rd s p f ∧
        (presentValue s p f ≠ x → rd u p Fld.PAGE_HDR_STICKY_OWNER_REFUSED = 1)) ∧
      (f.access = .ro → f ≠ Fld.SMP_CH_STAT_OSC_MHZ → rd u p f = rd s p f) ∧
      { u with reg := s.reg, shd := s.shd, vote := s.vote, blk := s.blk, xing := s.xing, irqLevel := s.irqLevel,
               msgs := s.msgs, msixPend := s.msixPend } = s) ∧
  (∀ (s : State) (a v : Nat) (pl : Plane) (p : Page) (f : Field), pageAt s a = some p → a % 0x1000 / 4 * 4 = 0x018 →
    f ∈ regFields p 0x018 → (∀ n, p = .tmg n → n < 1048) → pl = .host ∨ (pageCaps p).mgmt = true → p ≠ .err →
    completes (.registerWrite a v pl false) s fun u =>
      rd u p f = rd s p f &&& (2 ^ f.width - 1 - bits v (f.lo + f.width - 1) f.lo) ∧
      onlyRegsIrq s u (on p (regFields p 0x018))) ∧
  (∀ (s : State) (a v : Nat) (pl : Plane), completes (.registerWrite a v pl true) s fun u =>
    (∀ p, pageAt s a = some p → rd u p Fld.PAGE_HDR_STICKY_PARITY = 1 ∧
      onlyRegsIrq s u (on p [Fld.PAGE_HDR_STICKY_PARITY])) ∧ (pageAt s a = none → u = s)) ∧
  (∀ (s : State) (a v : Nat) (pl : Plane), unmapped s a = true → completes (.registerWrite a v pl false) s fun u =>
    rd u .glb Fld.GLB_STICKY_UNMAPPED = 1 ∧ onlyRegsIrq s u (on .glb [Fld.GLB_STICKY_UNMAPPED])) ∧
  (∀ (s : State) (a v : Nat), pageAt s a = some .pwr → a % 0x1000 / 4 * 4 = 0x09C →
    completes (.splitHiWrite a v .host) s fun u =>
      rd u .pwr Fld.PWR_WAKE_AT_HI_AT = v % 2 ^ 32 ∧ bk u .pwr Fld.PWR_WAKE_AT_HI_AT = v % 2 ^ 32 ∧
      bk u .pwr Fld.PWR_WAKE_AT_LO_AT = trunc 32 (rd s .pwr Fld.PWR_WAKE_AT_LO_AT) ∧
      { u with reg := s.reg, blk := s.blk } = s ∧ regsKept s u (on .pwr [Fld.PWR_WAKE_AT_HI_AT])) ∧
  (∀ (s : State) (a v k : Nat), pageAt s a = some (.fil k) →
    (regFields (.fil k) (a % 0x1000 / 4 * 4)) = [Fld.FIL_CMD_KEY_HI_KEY] →
    completes (.splitHiWrite a v .host) s fun u =>
      xingOf u (.fil k) = xingOf s (.fil k) ++
        [.split (fieldKey (.fil k) Fld.FIL_CMD_KEY_LO_KEY) (rd s (.fil k) Fld.FIL_CMD_KEY_LO_KEY)
          (fieldKey (.fil k) Fld.FIL_CMD_KEY_HI_KEY) (rd u (.fil k) Fld.FIL_CMD_KEY_HI_KEY)] ∧
      rd u (.fil k) Fld.FIL_CMD_KEY_HI_KEY = bits v (Fld.FIL_CMD_KEY_HI_KEY.width - 1) 0 ∧ u.blk = s.blk) ∧
  (∀ (s : State) (a v : Nat) (pl : Plane) (p : Page), pageAt s a = some p → a % 0x1000 / 4 * 4 = 0x010 →
    hasCntClr p = false → completes (.registerWrite a v pl false) s (· = s)) ∧
  (∀ (s : State) (a v f : Nat) (pl : Plane), pageAt s a = some (.ndlf f) → 0x800 ≤ a % 0x1000 → a % 0x1000 < 0xC10 →
    a % 0x1000 / 4 * 4 % 16 ≠ 12 →
    completes (.registerWrite a v pl false) s fun u =>
      readWord u (.ndlf f) (a % 0x1000 / 4 * 4) = v % 2 ^ 32 ∧ { u with msixTab := s.msixTab } = s)

/-- R83, R85, R117 to R122, R176: a malformed access is reported in the page addressed, for a doorbell window in its
function's page, and returns or changes nothing beside, but for the read with some byte enables clear; two aligned DW of
an MSI-X table are read and written; an access to an unmapped address sets UNMAPPED; the oldest item that crosses
reaches its block, a split value in one, unless the shell holds it; CNT_CLR clears a page's counters, or is held too.
R106 to R108: where one copy of a voted field differs or has bad parity, the scrubber restores it from the other two,
counts and records it; where the field cannot be resolved it keeps its value, COPY is 3, and the loss is reported;
without an upset nothing changes. Readings and choices of the model that it uses: log entries 78, 127, 132, 139, 145,
177. -/
def Obligations.AccessesAndScrubbing : Prop :=
  (∀ (s : State) (a : Nat) (k : BadAccess), completes (.malformedAccess a k) s fun u =>
    (k = .zeroRead → u = { s with ioData := 0 }) ∧
    (k = .longRead ∨ k = .write ∨ ((k = .twoRead ∨ ∃ lo hi, k = .twoWrite lo hi) ∧ msixAt s a = none) →
      u.ioData = s.ioData ∧
      (∀ p, pageAt s a = some p → rd u p Fld.PAGE_HDR_STICKY_BAD_ACCESS = 1 ∧
        onlyRegsIrq s u (on p [Fld.PAGE_HDR_STICKY_BAD_ACCESS])) ∧
      (∀ f, pageAt s a = none → windowAt a = some f → rd u (.ndlf f) Fld.PAGE_HDR_STICKY_BAD_ACCESS = 1 ∧
        onlyRegsIrq s u (on (.ndlf f) [Fld.PAGE_HDR_STICKY_BAD_ACCESS])) ∧
      (unmapped s a = true → rd u .glb Fld.GLB_STICKY_UNMAPPED = 1 ∧
        onlyRegsIrq s u (on .glb [Fld.GLB_STICKY_UNMAPPED]))) ∧
    (∀ p, k = .partRead → pageAt s a = some p → a % 0x1000 / 4 * 4 ≠ 0x034 →
      u.ioData = readWord s p (a % 0x1000 / 4 * 4) ∧ rd u p Fld.PAGE_HDR_STICKY_BAD_ACCESS = 1) ∧
    (∀ f, pageAt s a = some (.ndlf f) → a % 8 = 0 → 0x800 ≤ a % 0x1000 → a % 0x1000 < 0xC10 →
      (k = .twoRead → { u with ioData := s.ioData } = s ∧
        u.ioData = readWord s (.ndlf f) (a % 0x1000) + 2 ^ 32 * readWord s (.ndlf f) (a % 0x1000 + 4)) ∧
      (∀ lo hi, k = .twoWrite lo hi → readWord u (.ndlf f) (a % 0x1000) = lo % 2 ^ 32 ∧
        (a % 16 = 0 → readWord u (.ndlf f) (a % 0x1000 + 4) = hi % 2 ^ 32 ∧ { u with msixTab := s.msixTab } = s) ∧
        (a % 16 = 8 → readWord u (.ndlf f) (a % 0x1000 + 4) = hi % 2 ∧
          { u with msixTab := s.msixTab, msixMask := s.msixMask, msixPend := s.msixPend, msgs := s.msgs } = s)))) ∧
  (∀ (s : State) (a : Nat) (w : Bool), completes (.unmappedAccess a w) s fun u =>
    (unmapped s a = true → rd u .glb Fld.GLB_STICKY_UNMAPPED = 1 ∧ u.ioData = (if w then s.ioData else 0) ∧
      onlyRegsIrq s { u with ioData := s.ioData } (on .glb [Fld.GLB_STICKY_UNMAPPED])) ∧
    (unmapped s a = false → u = s)) ∧
  (∀ (s : State) (a : Nat) (p : Page), pageAt s a = some p → p ≠ .cap ∨ s.smp.capWait = [] →
   completes (.crossingDeliver a) s fun u =>
    let own := (∀ l, p ≠ .lan l) ∧ ∀ b, p ≠ .bob b
    (xingOf s p = [] ∨ shellHolds s p = true → u = s) ∧
    (∀ x xs, xingOf s p = x :: xs → shellHolds s p = false → xingOf u p = xs) ∧
    (∀ k v xs f, xingOf s p = .value k v :: xs → shellHolds s p = false → fieldAt p k = some f →
      bk u p f = trunc f.width v ∧ (own → { u with blk := s.blk, xing := s.xing } = s) ∧
      (∀ j, j ≠ fieldKey p f → tabFind u.blk j = tabFind s.blk j)) ∧
    (∀ k v l w xs f g, xingOf s p = .split k v l w :: xs → shellHolds s p = false → fieldAt p k = some f →
      fieldAt p l = some g → k ≠ l →
      bk u p f = trunc f.width v ∧ bk u p g = trunc g.width w ∧ (own → { u with blk := s.blk, xing := s.xing } = s) ∧
      (∀ j, j ≠ k → j ≠ l → tabFind u.blk j = tabFind s.blk j))) ∧
  (∀ (s : State) (a : Nat) (p : Page), pageAt s a = some p → completes (.cntClr a) s fun u =>
    (hasCntClr p = false → u = s) ∧
    (hasCntClr p = true → shellHolds s p = true → noCrossing p = false → u.cnt = s.cnt ∧
      { u with reg := s.reg, xing := s.xing, irqLevel := s.irqLevel, msgs := s.msgs, msixPend := s.msixPend } = s ∧
      (xingOf s p = [] → xingOf u p = [.event (fieldKey p Fld.PAGE_CTRL_CNT_CLR)])) ∧
    (hasCntClr p = true → shellHolds s p = false ∨ noCrossing p = true → (∀ i < 65536, counter u p i = 0) ∧
      (∀ k, cntBase k ≠ pageBase p → tabFind u.cnt k = tabFind s.cnt k) ∧
      (p ≠ .rsx → (∀ k, p ≠ .pnl k) → { u with cnt := s.cnt } = s) ∧
      (∀ k, p = .pnl k → rd u p Fld.PNL_D2D_STAT_MAX_RUN = 0))) ∧
  (∀ (s : State) (a lo : Nat) (active : Bool) (x : Vote) (p : Page) (f : Field), pageAt s a = some p →
     (regFields p (a % 0x1000 / 4 * 4)).find? (fun g => g.lo == lo && g.access == .rwv) = some f →
     tabGet s.vote {} (voteKey p f active) = {} →
     let v := if active then cfg s p f else shw s p f
     v < 2 ^ f.width →
     (x = {} → completes (.scrubVisit a lo active x) s (· = s)) ∧
     (∀ (i : Nat) (y : VoteCopy), y ≠ {} → i < 3 →
       x = (match i with | 0 => { a := y } | 1 => { b := y } | _ => { c := y }) → y.flip ≠ 0 ∨ y.bad = true →
       completes (.scrubVisit a lo active x) s fun u =>
         (if active then cfg u p f else shw u p f) = v ∧ tabGet u.vote {} (voteKey p f active) = {} ∧
         rd u p Fld.PAGE_VOTE_STAT_COPY = i ∧ rd u p Fld.PAGE_VOTE_STAT_OFFSET = trunc 10 (f.off / 4) ∧
         rd u p Fld.PAGE_VOTE_STAT_COUNT = sat 65535 (rd s p Fld.PAGE_VOTE_STAT_COUNT + 1) ∧
         rd u p Fld.PAGE_HDR_STICKY_VOTE_MISMATCH = 1 ∧
         { u with reg := s.reg, act := s.act, shd := s.shd, vote := s.vote, irqLevel := s.irqLevel, msgs := s.msgs,
                  msixPend := s.msixPend } = s) ∧
     (resolve v x = none → (∀ i, p ≠ .ch i) →
       completes (.scrubVisit a lo active x) s fun u =>
         (if active then cfg u p f else shw u p f) = v ∧ rd u p Fld.PAGE_VOTE_STAT_COPY = 3 ∧
         rd u p Fld.PAGE_HDR_STICKY_VOTE_LOST = 1 ∧ rd u .err Fld.ERR_STICKY_FATAL = 1 ∧
         rdB u .err Fld.ERR_FATAL_VALID = true ∧ counter u .err 7 = trunc 64 (counter s .err 7 + 1) ∧
         (rdB s .err Fld.ERR_FATAL_VALID = false → rd u .err Fld.ERR_FATAL_SLOT = trunc 15 (pageSlot p))) ∧
     (resolve v x = none → ∀ i, i < 3 → p = .ch i → fenced s p = false → voters s ≠ [i] →
       completes (.scrubVisit a lo active x) s fun u =>
         fenced u p = true ∧ rd u p Fld.PAGE_FENCE_CAUSE_CAUSE = 4 ∧ rd u p Fld.PAGE_FENCE_CAUSE_DETAIL = 4 ∧
         rd u p Fld.PAGE_HDR_STICKY_VOTE_LOST = 1 ∧ chVoting u i = false))

/-- R53 to R55, R99, R101, R460: COMMIT_GO requests a commit of the page's group for the next boundary or the target
that its 16 bits name, in place of the one pending; a target that has passed leaves none pending and is reported;
COMMIT_CANCEL withdraws the pending one; both take only AT_EN and COMMIT_AT; a group that a system commit holds refuses.
R45: a period request is refused, in this order, for an invalid period, on a worker and while one is pending, and leaves
a pending one as it was; one accepted waits for a boundary at least 1 ms ahead. Readings and choices of the model that
it uses: log entries 105, 128, 207. -/
def Obligations.CommitAndPeriodRequests : Prop :=
  (∀ (s : State) (a n : Nat) (atEn : Bool) (p : Page), pageAt s a = some p → (pageCaps p).hasShadow = true → n < 65536 →
    completes (.commitGo a atEn n) s fun u =>
      let g := pageGroup s p
      let d := (n + 65536 - reqStitch s % 65536) % 65536
      let x := groupSt s g
      rd u p Fld.PAGE_COMMIT_AT_EN = (if atEn then 1 else 0) ∧ rd u p Fld.PAGE_COMMIT_COMMIT_AT = n ∧ pageGroup u p = g ∧
      (∀ k, k ≠ g → groupSt u k = groupSt s k) ∧ (groupSt u g).latched = x.latched ∧
      (sysHeld s g = true → rd u p Fld.PAGE_HDR_STICKY_COMMIT_REFUSED = 1 ∧ (groupSt u g).req = x.req) ∧
      (sysHeld s g = false → atEn = false → (groupSt u g).req = some .untargeted ∧
        (x.latched = none → (groupSt u g).state = 1)) ∧
      (sysHeld s g = false → atEn = true → 1 ≤ d → d ≤ 32768 → (groupSt u g).req = some (.targeted (reqStitch s + d)) ∧
        (x.latched = none → (groupSt u g).state = 2)) ∧
      (sysHeld s g = false → atEn = true → d = 0 ∨ 32768 < d → (groupSt u g).req = none ∧
        (x.latched = none → (groupSt u g).state = 3) ∧ rd u .stitch Fld.STITCH_STICKY_COMMIT_LATE = 1) ∧
      { u with reg := s.reg, groups := s.groups, irqLevel := s.irqLevel, msgs := s.msgs, msixPend := s.msixPend } = s ∧
      regsKept s u (on p [Fld.PAGE_COMMIT_AT_EN, Fld.PAGE_COMMIT_COMMIT_AT, Fld.PAGE_HDR_STICKY_COMMIT_REFUSED] ++
        on .stitch [Fld.STITCH_STICKY_COMMIT_LATE])) ∧
  (∀ (s : State) (a n : Nat) (atEn : Bool) (p : Page), pageAt s a = some p → (pageCaps p).hasShadow = true → n < 65536 →
    completes (.commitCancel a atEn n) s fun u =>
      let g := pageGroup s p
      let x := groupSt s g
      rd u p Fld.PAGE_COMMIT_AT_EN = (if atEn then 1 else 0) ∧ rd u p Fld.PAGE_COMMIT_COMMIT_AT = n ∧
      (x.req = none → u.groups = s.groups) ∧
      (x.req ≠ none → (groupSt u g).req = none ∧ (groupSt u g).latched = x.latched ∧
        (x.latched = none → (groupSt u g).state = 5)) ∧
      (∀ k, k ≠ g → groupSt u k = groupSt s k) ∧ { u with reg := s.reg, groups := s.groups } = s ∧
      regsKept s u (on p [Fld.PAGE_COMMIT_AT_EN, Fld.PAGE_COMMIT_COMMIT_AT])) ∧
  (∀ (s : State) (ns : Nat), ns < 2 ^ 20 →
     completes (.periodReq ns) s fun u =>
       let bad := ns < 1000 ∨ 1000000 < ns ∨ 1000000000 % ns ≠ 0
       let worker := 3 ≤ mstate s ∧ mstate s ≤ 6 ∧ isManager s = false
       let refused (r : Nat) : Prop := rd u .stitch Fld.SMP_PERIOD_STAT_REASON = r ∧ u.perReq = s.perReq ∧
         rd u .stitch Fld.STITCH_STICKY_PERIOD_REFUSED = 1 ∧
         (s.perReq = none → rd u .stitch Fld.SMP_PERIOD_STAT_STATE = 3) ∧
         (s.perReq ≠ none → rd u .stitch Fld.SMP_PERIOD_STAT_STATE = rd s .stitch Fld.SMP_PERIOD_STAT_STATE) ∧
         onlyRegsIrq s u (on .stitch [Fld.SMP_PERIOD_STAT_REASON, Fld.SMP_PERIOD_STAT_STATE, Fld.SMP_PERIOD_REQ_REQ_NS,
           Fld.STITCH_STICKY_PERIOD_REFUSED])
       (bad → refused 1) ∧ (¬ bad → worker → refused 2) ∧ (¬ bad → ¬ worker → s.perReq ≠ none → refused 3) ∧
       (¬ bad → ¬ worker → s.perReq = none → u.perReq = some (ns, s.now + 4000000) ∧
         rd u .stitch Fld.SMP_PERIOD_STAT_STATE = 1 ∧ rd u .stitch Fld.SMP_PERIOD_STAT_REASON = 0 ∧ periodNs u = periodNs s ∧
         (isManager s = false → { u with reg := s.reg, perReq := s.perReq } = s)))

/-- R110 to R115, R202, R598: a write of PAGE_IND_CTRL sets the space, the step and the direction, one of PAGE_IND_ADDR
the address, which starts a fetch in the read direction; both clear ERR and what was staged or read; a fetch takes the
whole entry or fails with its ERR, 4 where it meets an uncorrectable error; a read returns the word and advances, and
the next fetch runs ahead; of a FIFO it removes a word; the counters of die-to-die transfers, which no rule lets be
counted, read as free values. Readings and choices of the model that it uses: log entries 17, 137, 212. -/
def Obligations.IndirectReads : Prop :=
  (∀ (s : State) (a space step : Nat) (dir : Bool) (p : Page), pageAt s a = some p → (pageCaps p).hasInd = true →
    space < 16 → step < 8 → (pairOf s p).fetching = false → (pairOf s p).buf = [] →
    completes (.indCtrlWrite a space step dir) s fun u =>
      indSpace u p = space ∧ rd u p Fld.PAGE_IND_CTRL_STEP = step ∧ indDir u p = dir ∧ indAddr u p = indAddr s p ∧
      pairOf u p = { taken := (pairOf s p).taken } ∧ indErr u p = (if step ≤ 4 then 0 else 2) ∧
      (4 < step → rd u p Fld.PAGE_HDR_STICKY_IND_ERROR = 1) ∧
      { u with reg := s.reg, pair := s.pair, irqLevel := s.irqLevel, msgs := s.msgs, msixPend := s.msixPend } = s) ∧
  (∀ (s : State) (a w : Nat) (p : Page), pageAt s a = some p → (pageCaps p).hasInd = true → w < 2 ^ 32 →
    (pairOf s p).fetching = false → (pairOf s p).buf = [] →
    completes (.indAddrWrite a w) s fun u =>
      let fifo := (pageSpace p (indSpace s p)).any (fun sp => sp.fifo)
      indAddr u p = w ∧
      (indStep s p = none → indErr u p = 2 ∧ rd u p Fld.PAGE_HDR_STICKY_IND_ERROR = 1) ∧
      (indStep s p ≠ none → indDir s p = true ∨ fifo = true → indErr u p = 0 ∧
        pairOf u p = { taken := (pairOf s p).taken }) ∧
      (indStep s p ≠ none → indDir s p = false → fifo = false → domainOff s p = false → indErr u p = 0 ∧
        pairOf u p = { taken := (pairOf s p).taken, fetching := true }) ∧
      (indStep s p ≠ none → indDir s p = false → fifo = false → domainOff s p = true → indErr u p = 3 ∧
        (pairOf u p).fetching = false ∧ rd u p Fld.PAGE_HDR_STICKY_IND_ERROR = 1) ∧
      { u with reg := s.reg, pair := s.pair, irqLevel := s.irqLevel, msgs := s.msgs, msixPend := s.msixPend } = s) ∧
  (∀ (s : State) (a : Nat) (errs : List MemErr) (p : Page) (sp : Space), pageAt s a = some p →
    pageSpace p (indSpace s p) = some sp → (∀ l, p ≠ .lan l) → countFree p (indAddr s p / sp.width) = false →
    (∀ x ∈ errs, errInEntry p (indSpace s p) (indAddr s p / sp.width) x = false) →
    completes (.indFetchDone a errs) s fun u =>
      let n := indSpace s p
      let e := indAddr s p / sp.width
      let err := transferErr s p n (indAddr s p) false
      ((pairOf s p).fetching = false → u = s) ∧
      ((pairOf s p).fetching = true → err = 0 →
        pairOf u p = { pairOf s p with fetching := false, snap := some (n, e, spaceWords s p n e sp) } ∧
        { u with pair := s.pair } = s) ∧
      ((pairOf s p).fetching = true → err ≠ 0 → (pairOf s p).ahead = true →
        pairOf u p = { pairOf s p with fetching := false, aheadErr := err } ∧ { u with pair := s.pair } = s) ∧
      ((pairOf s p).fetching = true → err ≠ 0 → (pairOf s p).ahead = false → indErr u p = err ∧
        rd u p Fld.PAGE_HDR_STICKY_IND_ERROR = 1 ∧ indAddr u p = indAddr s p ∧ (pairOf u p).fetching = false)) ∧
  (∀ (s : State) (a k n e : Nat), pageAt s a = some (.pnl k) → indSpace s (.pnl k) = n → n = 1 ∨ n = 2 → e < 2 →
    indAddr s (.pnl k) / 2 = e → (pairOf s (.pnl k)).fetching = true →
    transferErr s (.pnl k) n (indAddr s (.pnl k)) false = 0 →
    completes (.indFetchDone a []) s fun u => ∃ v < 2 ^ 64,
      pairOf u (.pnl k) = { pairOf s (.pnl k) with fetching := false, snap := some (n, e, lowHigh v) } ∧
      { u with pair := s.pair, fresh := s.fresh } = s) ∧
  (∀ (s : State) (a i : Nat) (uncorr : Bool) (p : Page), pageAt s a = some p → (pairOf s p).fetching = true →
    (pairOf s p).ahead = false → transferErr s p (indSpace s p) (indAddr s p) false = 0 →
    eccRewritten s p (indSpace s p) i = false →
    let e := indAddr s p / ((pageSpace p (indSpace s p)).map (·.width)).getD 1
    ∀ x, (∃ h, p = .prk h ∧ indSpace s p = 1 ∧ e = i ∧ x = .pattern i uncorr) ∨
      (∃ h, p = .prk h ∧ indSpace s p = 2 ∧ e = i ∧ x = .selection i uncorr) ∨
      (∃ k, p = .cls k ∧ indSpace s p ≤ 3 ∧ indAddr s p = i ∧ x = .rule i uncorr) ∨
      (∃ k, p = .fil k ∧ indSpace s p = 1 ∧ e = i ∧ x = .filet i uncorr) ∨
      (p = .pol ∧ indSpace s p = 1 ∧ e = i ∧ x = .policer i uncorr) →
    completes (.indFetchDone a [x]) s fun u =>
      (pairOf u p).fetching = false ∧
      (uncorr = true → indErr u p = 4 ∧ rd u p Fld.PAGE_HDR_STICKY_IND_ERROR = 1 ∧ (pairOf u p).snap = (pairOf s p).snap) ∧
      (uncorr = false → indErr u p = indErr s p ∧ (pairOf u p).snap.isSome = true ∧ u.ecc = s.ecc)) ∧
  (∀ (s : State) (a : Nat) (p : Page), pageAt s a = some p → indErr s p ≠ 0 ∨ indDir s p = true →
    completes (.indDataRead a) s (· = { s with ioData := 0 })) ∧
  (∀ (s : State) (a step e : Nat) (ws : List Nat) (p : Page) (sp : Space), pageAt s a = some p →
    (pageCaps p).hasInd = true → indErr s p = 0 → indDir s p = false → pageSpace p (indSpace s p) = some sp →
    sp.fifo = false → indStep s p = some step → step ≠ 0 → (pairOf s p).fetching = false → (pairOf s p).aheadErr = 0 →
    (pairOf s p).snap = some (indSpace s p, e, ws) → e = indAddr s p / sp.width → indAddr s p + step < 2 ^ 32 →
    wordBad s p (indSpace s p) (indAddr s p) sp.width = false →
    completes (.indDataRead a) s fun u =>
      u.ioData = ws.getD (indAddr s p % sp.width) 0 ∧ indAddr u p = indAddr s p + step ∧
      ((indAddr s p + step) / sp.width = e → u.pair = s.pair) ∧
      ((indAddr s p + step) / sp.width ≠ e →
        pairOf u p = { pairOf s p with snap := none, fetching := true, ahead := true }) ∧
      { u with ioData := s.ioData, reg := s.reg, pair := s.pair } = s ∧ regsKept s u (on p [Fld.PAGE_IND_ADDR_ADDR])) ∧
  (∀ (s : State) (a : Nat), pageAt s a = some .err → indErr s .err = 0 → indDir s .err = false → indSpace s .err = 2 →
    (pairOf s .err).fetching = false → domainOff s .err = false →
    completes (.indDataRead a) s fun u =>
      let t := (pairOf s .err).taken
      (s.fenceLog = [] → u.ioData = 0 ∧ indErr u .err = 2 ∧ rd u .err Fld.PAGE_HDR_STICKY_IND_ERROR = 1 ∧
        u.fenceLog = []) ∧
      (∀ x xs, s.fenceLog = x :: xs → u.ioData = (fenceWords x).getD t 0 ∧
        (t < 3 → u.fenceLog = s.fenceLog ∧ (pairOf u .err).taken = t + 1) ∧
        (t = 3 → u.fenceLog = xs ∧ (pairOf u .err).taken = 0 ∧
          rd u .err Fld.ERR_LOG_LEVEL_LEVEL = trunc 9 xs.length)))

/-- R113, R115, R598: a write of PAGE_IND_DATA stages its word until the entry is whole, which is then buffered, and
ADDR advances; a word out of place ends with ERR 5, one in the read direction with ERR 2, one to a space that refuses it
with its ERR, and none is taken while ERR is set; the oldest buffered entry is written whole, into the shadow of a
shadowed table. Readings and choices of the model that it uses: log entry 137. -/
def Obligations.IndirectWrites : Prop :=
  (∀ (s : State) (a w : Nat) (p : Page), pageAt s a = some p → (pageCaps p).hasInd = true →
    completes (.indDataWrite a w) s fun u =>
      (indErr s p ≠ 0 → u = s) ∧
      (indErr s p = 0 → indDir s p = false → indErr u p = 2 ∧ rd u p Fld.PAGE_HDR_STICKY_IND_ERROR = 1 ∧
        onlyRegsIrq s u (on p [Fld.PAGE_IND_CTRL_ERR, Fld.PAGE_HDR_STICKY_IND_ERROR])) ∧
      (indErr s p = 0 → indDir s p = true → bufWords (pairOf s p) < 16 →
        transferErr s p (indSpace s p) (indAddr s p) true ≠ 0 →
        indErr u p = transferErr s p (indSpace s p) (indAddr s p) true ∧ indAddr u p = indAddr s p ∧
        (pairOf u p).staged = [] ∧ (pairOf u p).buf = (pairOf s p).buf)) ∧
  (∀ (s : State) (a w step : Nat) (p : Page) (sp : Space), pageAt s a = some p → (pageCaps p).hasInd = true →
    indErr s p = 0 → indDir s p = true → bufWords (pairOf s p) < 16 → pageSpace p (indSpace s p) = some sp →
    sp.fifo = false → transferErr s p (indSpace s p) (indAddr s p) true = 0 → indStep s p = some step →
    indAddr s p + step < 2 ^ 32 →
    completes (.indDataWrite a w) s fun u =>
      let x := pairOf s p
      let o := indAddr s p % sp.width
      let ws := x.staged ++ [w]
      (o ≠ x.staged.length → indErr u p = 5 ∧ (pairOf u p).staged = [] ∧ indAddr u p = indAddr s p) ∧
      (o = x.staged.length → ws.length = sp.width →
        pairOf u p = { x with staged := [], buf := x.buf ++ [⟨indSpace s p, indAddr s p / sp.width, ws⟩] } ∧
        indAddr u p = indAddr s p + step ∧ indErr u p = 0) ∧
      (o = x.staged.length → ws.length < sp.width → (indAddr s p + step) / sp.width = indAddr s p / sp.width →
        pairOf u p = { x with staged := ws } ∧ indAddr u p = indAddr s p + step ∧ indErr u p = 0) ∧
      (o = x.staged.length → ws.length < sp.width → (indAddr s p + step) / sp.width ≠ indAddr s p / sp.width →
        pairOf u p = { x with staged := [] } ∧ indAddr u p = indAddr s p ∧ indErr u p = 5) ∧
      { u with reg := s.reg, pair := s.pair, irqLevel := s.irqLevel, msgs := s.msgs, msixPend := s.msixPend } = s) ∧
  (∀ (s : State) (a : Nat) (p : Page) (b : IndWrite) (bs : List IndWrite) (sp : Space), pageAt s a = some p →
    (pairOf s p).buf = b :: bs → pageSpace p b.space = some sp →
    completes (.indWriteDone a) s fun u =>
      let err := transferErr s p b.space (sp.width * b.entry) true
      (err ≠ 0 → indErr u p = err ∧ rd u p Fld.PAGE_HDR_STICKY_IND_ERROR = 1 ∧ (pairOf u p).buf = [] ∧
        indAddr u p = trunc 32 (sp.width * b.entry + sp.width - 1) ∧ u.ind = s.ind ∧ u.indS = s.indS) ∧
      (err = 0 → p ∈ [.pol, .rsx, .ndl, .flsc, .red, .pulse, .cap, .glb] →
        (pairOf u p).buf = bs ∧ u.reg = s.reg ∧
        (sp.shadowed = true → u.ind = s.ind ∧
          ∀ i < sp.width, wordS u p b.space (sp.width * b.entry + i) = trunc 32 (b.words.getD i 0)) ∧
        (sp.shadowed = false → u.indS = s.indS ∧
          ∀ i < sp.width, word u p b.space (sp.width * b.entry + i) = trunc 32 (b.words.getD i 0)))) ∧
  (∀ (s : State) (a : Nat) (p : Page), pageAt s a = some p → (pairOf s p).buf = [] →
    completes (.indWriteDone a) s (· = s))

/-- R50, R52, R56, R97, R102, R543: at the close every page latches its shadow values, the requests that fall due at the
next boundary are latched together, or, where a page refuses, none is and every group due shows STATE 4; entry attempts
of hoops end with code 14; the window closes once in a stitch. -/
def Obligations.CommitWindow : Prop :=
  (∀ (s : State), s.closed = true ∨ s.pwr.supply ≠ .on ∨ s.pwr.d3 = .asleep → completes .commitClose s (· = s)) ∧
  (∀ (s : State), s.closed = false → s.pwr.supply = .on → s.pwr.d3 ≠ .asleep →
    completes .commitClose s fun u =>
      u.closed = true ∧ u.now = max s.now (s.nextBnd - 1024) ∧ u.stitch = s.stitch ∧ u.epoch = s.epoch ∧
      (s.sleepDue = [] → tabRising none s.shd = true → ∀ k, tabFind u.lat k = tabFind s.shd k) ∧
      (s.sleepDue = [] → u.act = s.act) ∧
      (∀ g, g ∉ dueGroups s → groupSt u g = groupSt s g) ∧
      ((∀ g ∈ dueGroups s, groupSt u g = { groupSt s g with latched := (groupSt s g).req, req := none }) ∨
       ((∀ g ∈ dueGroups s, (groupSt u g).state = 4 ∧ (groupSt u g).req = none ∧
          (groupSt u g).latched = (groupSt s g).latched) ∧
        ∃ p ∈ shadowPages, pageGroup s p ∈ dueGroups s ∧ rd u p Fld.PAGE_HDR_STICKY_COMMIT_REFUSED = 1)) ∧
      (∀ h < 32, hoopEntry u h = none ∧
        ((hoopEntry s h).isSome = true → hoopState u h = 0 ∧ rd u (.hop h) Fld.HOP_PWR_STAT_LAST_REFUSER = 14)) ∧
      (∀ r, s.pwr.soft = some r → dueReq s r = true → u.pwr.softNow = true ∧ u.pwr.soft = none))

/-- R43, R47, R52, R56, R58, R63, R103, R104: a boundary begins the next stitch on the grid of the period in force;
every page of a group latched at the close takes all its latched values, or where its hoop sleeps notes the commit; the
group shows its LAST_AT, and the epoch rises by one when any group applies; the snapshot is that of the stitch that
begins. In D3 there is none. The memory errors that the work meets act first, and a member that missed a change of its
system's period takes it on a whole second: both the model's choice. Readings and choices of the model that it uses: log
entries 17, 129, 180, 203. -/
def Obligations.StitchBoundaries : Prop :=
  (∀ (s : State), s.pwr.supply ≠ .on ∨ s.pwr.d3 = .asleep → ∀ errs, completes (.stitchBoundary errs) s (· = s)) ∧
  (∀ (s : State), s.closed = true → s.pwr.supply = .on → s.pwr.d3 ≠ .asleep → s.perReq = none → s.ald.pend = [] →
    s.ald.joinAt = none → s.ald.leaveAt = none → s.ald.handAt = none → isManager s = false → s.pwr.softNow = false →
    aldMember s = false ∨ s.nextBnd % 4_000_000_000 ≠ 0 →
    completes (.stitchBoundary []) s fun u =>
      let applies (p : Page) : Prop := p ∈ shadowPages ∧ (groupSt s (pageGroup s p)).latched ≠ none ∧ pageGroup s p < 16
      u.stitch = (s.stitch + 1) % 2 ^ 64 ∧ u.bndAt = s.nextBnd ∧ u.now = max s.now s.nextBnd ∧ u.closed = false ∧
      u.nextBnd = (s.nextBnd / (4 * periodNs u) + 1) * (4 * periodNs u) ∧
      u.epoch = s.epoch + (if latchedGroups s = [] then 0 else 1) ∧
      (tabRising none s.lat = true → ∀ p, applies p → pageAsleep s p = false →
        ∀ k, keyBase k = pageBase p → tabFind u.act k = tabFind s.lat k) ∧
      (∀ p ∈ shadowPages, ¬ applies p ∨ pageAsleep s p = true →
        ∀ k, keyBase k = pageBase p → tabFind u.act k = tabFind s.act k) ∧
      (∀ p h, applies p → pageHoop p = some h → pageAsleep s p = true →
        tabGet u.sleepDue 0 (16 * h + pageGroup s p) = u.stitch % 65536 + 1) ∧
      (∀ g < 16, (groupSt s g).latched ≠ none → (groupSt u g).latched = none ∧ (groupSt u g).lastAt = u.stitch % 65536 ∧
        (groupSt u g).req = (groupSt s g).req) ∧
      (softState s ≠ 2 → u.stitch % max 1 (cfg u .stitch Fld.SMP_SNAP_CTRL_SNAP_DIV) = 0 →
        rd u .stitch Fld.SMP_SNAP_STITCH_STITCH = u.stitch)) ∧
  (∀ (s : State) (b : Beacon), s.closed = true → s.pwr.supply = .on → s.pwr.d3 ≠ .asleep → s.ald.pend = [] →
    s.ald.joinAt = none → s.ald.leaveAt = none → s.ald.handAt = none → isManager s = false → s.pwr.softNow = false →
    latchedGroups s = [] → aldMember s = true → parentContent s = some b → b.period ≠ 0 → b.period < 2 ^ 20 →
    s.nextBnd % 4_000_000_000 = 0 →
    completes (.stitchBoundary []) s fun u => periodNs u = b.period ∧ u.bndAt = s.nextBnd ∧ u.closed = false) ∧
  (∀ (s : State) (errs : List (Nat × MemErr)), s.pwr.supply = .on → s.pwr.d3 ≠ .asleep →
    exec (.stitchBoundary errs) s = exec (.stitchBoundary []) (errs.foldl (fun s e => lookupErr e.1 s e.2) s))

/-- A step runs the command at the front of the queue on the state with the queue's rest; on an empty queue the block
idles, which is the model's choice. Readings and choices of the model that it uses: log entry 3. -/
def Obligations.StepRunsTheFront : Prop :=
  (∀ (s : State) (c : Instr) (q : List Instr), s.pending = c :: q → step s = exec c { s with pending := q }) ∧
  (∀ (s : State), s.pending = [] → step s = .next s)

/-- R48, R551, R563 and Table 17.8: after reset Sampler time, the stitch count and the epoch are 0 and the first
boundary lies one period of 10,000 ns ahead; every field of every page holds its reset value, in its shadow and in
force, every counter is 0; no commit is pending, no unit is fenced, no hoop sleeps, no bobbin has work, and no request
runs. Readings and choices of the model that it uses: log entries 125, 126. -/
def Obligations.ResetLeaves : Prop :=
  let s := State.reset
  s.now = 0 ∧ s.stitch = 0 ∧ s.epoch = 0 ∧ s.bndAt = 0 ∧ periodNs s = 10000 ∧ s.nextBnd = 4 * periodNs s ∧
  (∀ p f, rd s p f = fieldReset p f ∧ cfg s p f = fieldReset p f ∧ shw s p f = fieldReset p f ∧ bk s p f = fieldReset p f) ∧
  (∀ p i, counter s p i = 0) ∧ (∀ g, groupPending s g = false) ∧ (∀ p, fenced s p = false) ∧
  (∀ h, hoopState s h = 0) ∧ (∀ b t, (thrOf s b t).work = .idle) ∧ s.mor.req = none ∧
  rd s .glb Fld.GLB_RESET_CAUSE_CAUSE = 1 ∧ rdB s .glb Fld.GLB_RESET_CAUSE_READY = false ∧ s.pending = []

/-- Every command with every operand completes in every state, and leaves the queue of the commands that wait as it is.
-/
def Obligations.EveryCommandCompletes : Prop :=
  ∀ (c : Instr) (s : State), ∃ t, exec c s = .next t ∧ t.pending = s.pending

/-- The canonical form that every step keeps holds after reset. -/
def Obligations.CanonicalAtReset : Prop :=
  canonical State.reset

/-- Every step keeps the memories canonical, the registers of threads within 64 bits and the fence log within 256
entries. -/
def Obligations.CanonicalKept : Prop :=
  ∀ (s t : State), canonical s → step s = .next t → canonical t

/-- R558 to R560, R566: the life-cycle state is named by the highest transition bit; whatever command runs, no fuse is
ever unburned, and the state changes only by a row of Table 18.1, forward, by a TRANSITION request or where power is
lost during its burn; so no command returns a device to PROVISION or FIELD. Readings and choices of the model that it
uses: log entries 158, 171. -/
def Obligations.LifeCycle : Prop :=
  morState State.reset = 1 ∧
  (∀ s : State, (∀ n < 5, bit s.mor.t n = false) → morState s = 0) ∧
  (∀ (s : State), ∀ n < 5, bit s.mor.t n = true → (∀ m < 5, n < m → bit s.mor.t m = false) → morState s = n + 1) ∧
  (∀ (c : Instr) (s u : State), exec c s = .next u →
    fusesKept s u ∧
    (∀ n < 5, bit s.mor.t n = false → bit u.mor.t n = true →
      morState u = n + 1 ∧ transitionOk (morState s) (n + 1) = true ∧ morState s < n + 1 ∧ s.mor.req = some 1 ∧
      ((∃ b pins, c = .transition b pins) ∨ ∃ bs, c = .powerLoss bs ∨ c = .supplyRailFall bs)) ∧
    ((∀ n < 5, bit u.mor.t n = bit s.mor.t n) → morState u = morState s) ∧
    (4 ≤ morState s → 4 ≤ morState u))
end

