-- ==== Sys2Proof/Laws/State.lean ====
section
/-! SUPPORT. Reading the state right after reset, and what the shared writers of State leave as it was, one lemma per
field and update, true by rfl. -/

namespace Sys2Proof.Machine

@[simp] theorem reset_pending : State.reset.pending = [] := rfl
@[simp] theorem reset_now : State.reset.now = 0 := rfl
@[simp] theorem reset_stitch : State.reset.stitch = 0 := rfl
@[simp] theorem reset_epoch : State.reset.epoch = 0 := rfl

/-- Every register field reads its reset value at reset. -/
@[simp] theorem rd_reset (p : Page) (f : Field) : rd State.reset p f = fieldReset p f := rfl
@[simp] theorem cfg_reset (p : Page) (f : Field) : cfg State.reset p f = fieldReset p f := rfl
@[simp] theorem counter_reset (p : Page) (i : Nat) : counter State.reset p i = 0 := rfl
@[simp] theorem word_reset (p : Page) (n w : Nat) : word State.reset p n w = wordReset p n w := rfl

/-! ### wr -/

@[simp] theorem wr_act (s : State) (p : Page) (f : Field) (v : Nat) : (wr s p f v).act = s.act := rfl
@[simp] theorem wr_shd (s : State) (p : Page) (f : Field) (v : Nat) : (wr s p f v).shd = s.shd := rfl
@[simp] theorem wr_lat (s : State) (p : Page) (f : Field) (v : Nat) : (wr s p f v).lat = s.lat := rfl
@[simp] theorem wr_blk (s : State) (p : Page) (f : Field) (v : Nat) : (wr s p f v).blk = s.blk := rfl
@[simp] theorem wr_vote (s : State) (p : Page) (f : Field) (v : Nat) : (wr s p f v).vote = s.vote := rfl
@[simp] theorem wr_ind (s : State) (p : Page) (f : Field) (v : Nat) : (wr s p f v).ind = s.ind := rfl
@[simp] theorem wr_indS (s : State) (p : Page) (f : Field) (v : Nat) : (wr s p f v).indS = s.indS := rfl
@[simp] theorem wr_indL (s : State) (p : Page) (f : Field) (v : Nat) : (wr s p f v).indL = s.indL := rfl
@[simp] theorem wr_indWr (s : State) (p : Page) (f : Field) (v : Nat) : (wr s p f v).indWr = s.indWr := rfl
@[simp] theorem wr_indLate (s : State) (p : Page) (f : Field) (v : Nat) : (wr s p f v).indLate = s.indLate := rfl
@[simp] theorem wr_skOp (s : State) (p : Page) (f : Field) (v : Nat) : (wr s p f v).skOp = s.skOp := rfl
@[simp] theorem wr_perPast (s : State) (p : Page) (f : Field) (v : Nat) : (wr s p f v).perPast = s.perPast := rfl
@[simp] theorem wr_pair (s : State) (p : Page) (f : Field) (v : Nat) : (wr s p f v).pair = s.pair := rfl
@[simp] theorem wr_xing (s : State) (p : Page) (f : Field) (v : Nat) : (wr s p f v).xing = s.xing := rfl
@[simp] theorem wr_ioData (s : State) (p : Page) (f : Field) (v : Nat) : (wr s p f v).ioData = s.ioData := rfl
@[simp] theorem wr_cnt (s : State) (p : Page) (f : Field) (v : Nat) : (wr s p f v).cnt = s.cnt := rfl
@[simp] theorem wr_snp (s : State) (p : Page) (f : Field) (v : Nat) : (wr s p f v).snp = s.snp := rfl
@[simp] theorem wr_groups (s : State) (p : Page) (f : Field) (v : Nat) : (wr s p f v).groups = s.groups := rfl
@[simp] theorem wr_pageGrp (s : State) (p : Page) (f : Field) (v : Nat) : (wr s p f v).pageGrp = s.pageGrp := rfl
@[simp] theorem wr_now (s : State) (p : Page) (f : Field) (v : Nat) : (wr s p f v).now = s.now := rfl
@[simp] theorem wr_stitch (s : State) (p : Page) (f : Field) (v : Nat) : (wr s p f v).stitch = s.stitch := rfl
@[simp] theorem wr_epoch (s : State) (p : Page) (f : Field) (v : Nat) : (wr s p f v).epoch = s.epoch := rfl
@[simp] theorem wr_bndAt (s : State) (p : Page) (f : Field) (v : Nat) : (wr s p f v).bndAt = s.bndAt := rfl
@[simp] theorem wr_nextBnd (s : State) (p : Page) (f : Field) (v : Nat) : (wr s p f v).nextBnd = s.nextBnd := rfl
@[simp] theorem wr_closed (s : State) (p : Page) (f : Field) (v : Nat) : (wr s p f v).closed = s.closed := rfl
@[simp] theorem wr_sleepDue (s : State) (p : Page) (f : Field) (v : Nat) : (wr s p f v).sleepDue = s.sleepDue := rfl
@[simp] theorem wr_perReq (s : State) (p : Page) (f : Field) (v : Nat) : (wr s p f v).perReq = s.perReq := rfl
@[simp] theorem wr_fenceLog (s : State) (p : Page) (f : Field) (v : Nat) : (wr s p f v).fenceLog = s.fenceLog := rfl
@[simp] theorem wr_irqLevel (s : State) (p : Page) (f : Field) (v : Nat) : (wr s p f v).irqLevel = s.irqLevel := rfl
@[simp] theorem wr_msgs (s : State) (p : Page) (f : Field) (v : Nat) : (wr s p f v).msgs = s.msgs := rfl
@[simp] theorem wr_msixPend (s : State) (p : Page) (f : Field) (v : Nat) : (wr s p f v).msixPend = s.msixPend := rfl
@[simp] theorem wr_msixMask (s : State) (p : Page) (f : Field) (v : Nat) : (wr s p f v).msixMask = s.msixMask := rfl
@[simp] theorem wr_msixTab (s : State) (p : Page) (f : Field) (v : Nat) : (wr s p f v).msixTab = s.msixTab := rfl
@[simp] theorem wr_fresh (s : State) (p : Page) (f : Field) (v : Nat) : (wr s p f v).fresh = s.fresh := rfl
@[simp] theorem wr_lane (s : State) (p : Page) (f : Field) (v : Nat) : (wr s p f v).lane = s.lane := rfl
@[simp] theorem wr_laneFuse (s : State) (p : Page) (f : Field) (v : Nat) : (wr s p f v).laneFuse = s.laneFuse := rfl
@[simp] theorem wr_ecc (s : State) (p : Page) (f : Field) (v : Nat) : (wr s p f v).ecc = s.ecc := rfl
@[simp] theorem wr_scan (s : State) (p : Page) (f : Field) (v : Nat) : (wr s p f v).scan = s.scan := rfl
@[simp] theorem wr_clsMap (s : State) (p : Page) (f : Field) (v : Nat) : (wr s p f v).clsMap = s.clsMap := rfl
@[simp] theorem wr_fil (s : State) (p : Page) (f : Field) (v : Nat) : (wr s p f v).fil = s.fil := rfl
@[simp] theorem wr_learnFilt (s : State) (p : Page) (f : Field) (v : Nat) : (wr s p f v).learnFilt = s.learnFilt := rfl
@[simp] theorem wr_learnFly (s : State) (p : Page) (f : Field) (v : Nat) : (wr s p f v).learnFly = s.learnFly := rfl
@[simp] theorem wr_learnSeq (s : State) (p : Page) (f : Field) (v : Nat) : (wr s p f v).learnSeq = s.learnSeq := rfl
@[simp] theorem wr_learnPan (s : State) (p : Page) (f : Field) (v : Nat) : (wr s p f v).learnPan = s.learnPan := rfl
@[simp] theorem wr_filHold (s : State) (p : Page) (f : Field) (v : Nat) : (wr s p f v).filHold = s.filHold := rfl
@[simp] theorem wr_filWait (s : State) (p : Page) (f : Field) (v : Nat) : (wr s p f v).filWait = s.filWait := rfl
@[simp] theorem wr_vlanWr (s : State) (p : Page) (f : Field) (v : Nat) : (wr s p f v).vlanWr = s.vlanWr := rfl
@[simp] theorem wr_dram (s : State) (p : Page) (f : Field) (v : Nat) : (wr s p f v).dram = s.dram := rfl
@[simp] theorem wr_poison (s : State) (p : Page) (f : Field) (v : Nat) : (wr s p f v).poison = s.poison := rfl
@[simp] theorem wr_spareBlank (s : State) (p : Page) (f : Field) (v : Nat) : (wr s p f v).spareBlank = s.spareBlank := rfl
@[simp] theorem wr_perOld (s : State) (p : Page) (f : Field) (v : Nat) : (wr s p f v).perOld = s.perOld := rfl
@[simp] theorem wr_leapLast (s : State) (p : Page) (f : Field) (v : Nat) : (wr s p f v).leapLast = s.leapLast := rfl
@[simp] theorem wr_ctx (s : State) (p : Page) (f : Field) (v : Nat) : (wr s p f v).ctx = s.ctx := rfl
@[simp] theorem wr_lru (s : State) (p : Page) (f : Field) (v : Nat) : (wr s p f v).lru = s.lru := rfl
@[simp] theorem wr_evq (s : State) (p : Page) (f : Field) (v : Nat) : (wr s p f v).evq = s.evq := rfl
@[simp] theorem wr_skStaged (s : State) (p : Page) (f : Field) (v : Nat) : (wr s p f v).skStaged = s.skStaged := rfl
@[simp] theorem wr_skLat (s : State) (p : Page) (f : Field) (v : Nat) : (wr s p f v).skLat = s.skLat := rfl
@[simp] theorem wr_skOvl (s : State) (p : Page) (f : Field) (v : Nat) : (wr s p f v).skOvl = s.skOvl := rfl
@[simp] theorem wr_bob (s : State) (p : Page) (f : Field) (v : Nat) : (wr s p f v).bob = s.bob := rfl
@[simp] theorem wr_rs (s : State) (p : Page) (f : Field) (v : Nat) : (wr s p f v).rs = s.rs := rfl
@[simp] theorem wr_tm (s : State) (p : Page) (f : Field) (v : Nat) : (wr s p f v).tm = s.tm := rfl
@[simp] theorem wr_smp (s : State) (p : Page) (f : Field) (v : Nat) : (wr s p f v).smp = s.smp := rfl
@[simp] theorem wr_ald (s : State) (p : Page) (f : Field) (v : Nat) : (wr s p f v).ald = s.ald := rfl
@[simp] theorem wr_ndl (s : State) (p : Page) (f : Field) (v : Nat) : (wr s p f v).ndl = s.ndl := rfl
@[simp] theorem wr_pwr (s : State) (p : Page) (f : Field) (v : Nat) : (wr s p f v).pwr = s.pwr := rfl
@[simp] theorem wr_mor (s : State) (p : Page) (f : Field) (v : Nat) : (wr s p f v).mor = s.mor := rfl
@[simp] theorem wr_pending (s : State) (p : Page) (f : Field) (v : Nat) : (wr s p f v).pending = s.pending := rfl

/-! ### wrShd -/

@[simp] theorem wrShd_reg (s : State) (p : Page) (f : Field) (v : Nat) : (wrShd s p f v).reg = s.reg := rfl
@[simp] theorem wrShd_act (s : State) (p : Page) (f : Field) (v : Nat) : (wrShd s p f v).act = s.act := rfl
@[simp] theorem wrShd_lat (s : State) (p : Page) (f : Field) (v : Nat) : (wrShd s p f v).lat = s.lat := rfl
@[simp] theorem wrShd_blk (s : State) (p : Page) (f : Field) (v : Nat) : (wrShd s p f v).blk = s.blk := rfl
@[simp] theorem wrShd_vote (s : State) (p : Page) (f : Field) (v : Nat) : (wrShd s p f v).vote = s.vote := rfl
@[simp] theorem wrShd_ind (s : State) (p : Page) (f : Field) (v : Nat) : (wrShd s p f v).ind = s.ind := rfl
@[simp] theorem wrShd_indS (s : State) (p : Page) (f : Field) (v : Nat) : (wrShd s p f v).indS = s.indS := rfl
@[simp] theorem wrShd_indL (s : State) (p : Page) (f : Field) (v : Nat) : (wrShd s p f v).indL = s.indL := rfl
@[simp] theorem wrShd_indWr (s : State) (p : Page) (f : Field) (v : Nat) : (wrShd s p f v).indWr = s.indWr := rfl
@[simp] theorem wrShd_indLate (s : State) (p : Page) (f : Field) (v : Nat) : (wrShd s p f v).indLate = s.indLate := rfl
@[simp] theorem wrShd_skOp (s : State) (p : Page) (f : Field) (v : Nat) : (wrShd s p f v).skOp = s.skOp := rfl
@[simp] theorem wrShd_perPast (s : State) (p : Page) (f : Field) (v : Nat) : (wrShd s p f v).perPast = s.perPast := rfl
@[simp] theorem wrShd_pair (s : State) (p : Page) (f : Field) (v : Nat) : (wrShd s p f v).pair = s.pair := rfl
@[simp] theorem wrShd_xing (s : State) (p : Page) (f : Field) (v : Nat) : (wrShd s p f v).xing = s.xing := rfl
@[simp] theorem wrShd_ioData (s : State) (p : Page) (f : Field) (v : Nat) : (wrShd s p f v).ioData = s.ioData := rfl
@[simp] theorem wrShd_cnt (s : State) (p : Page) (f : Field) (v : Nat) : (wrShd s p f v).cnt = s.cnt := rfl
@[simp] theorem wrShd_snp (s : State) (p : Page) (f : Field) (v : Nat) : (wrShd s p f v).snp = s.snp := rfl
@[simp] theorem wrShd_groups (s : State) (p : Page) (f : Field) (v : Nat) : (wrShd s p f v).groups = s.groups := rfl
@[simp] theorem wrShd_pageGrp (s : State) (p : Page) (f : Field) (v : Nat) : (wrShd s p f v).pageGrp = s.pageGrp := rfl
@[simp] theorem wrShd_now (s : State) (p : Page) (f : Field) (v : Nat) : (wrShd s p f v).now = s.now := rfl
@[simp] theorem wrShd_stitch (s : State) (p : Page) (f : Field) (v : Nat) : (wrShd s p f v).stitch = s.stitch := rfl
@[simp] theorem wrShd_epoch (s : State) (p : Page) (f : Field) (v : Nat) : (wrShd s p f v).epoch = s.epoch := rfl
@[simp] theorem wrShd_bndAt (s : State) (p : Page) (f : Field) (v : Nat) : (wrShd s p f v).bndAt = s.bndAt := rfl
@[simp] theorem wrShd_nextBnd (s : State) (p : Page) (f : Field) (v : Nat) : (wrShd s p f v).nextBnd = s.nextBnd := rfl
@[simp] theorem wrShd_closed (s : State) (p : Page) (f : Field) (v : Nat) : (wrShd s p f v).closed = s.closed := rfl
@[simp] theorem wrShd_sleepDue (s : State) (p : Page) (f : Field) (v : Nat) : (wrShd s p f v).sleepDue = s.sleepDue := rfl
@[simp] theorem wrShd_perReq (s : State) (p : Page) (f : Field) (v : Nat) : (wrShd s p f v).perReq = s.perReq := rfl
@[simp] theorem wrShd_fenceLog (s : State) (p : Page) (f : Field) (v : Nat) : (wrShd s p f v).fenceLog = s.fenceLog := rfl
@[simp] theorem wrShd_irqLevel (s : State) (p : Page) (f : Field) (v : Nat) : (wrShd s p f v).irqLevel = s.irqLevel := rfl
@[simp] theorem wrShd_msgs (s : State) (p : Page) (f : Field) (v : Nat) : (wrShd s p f v).msgs = s.msgs := rfl
@[simp] theorem wrShd_msixPend (s : State) (p : Page) (f : Field) (v : Nat) : (wrShd s p f v).msixPend = s.msixPend := rfl
@[simp] theorem wrShd_msixMask (s : State) (p : Page) (f : Field) (v : Nat) : (wrShd s p f v).msixMask = s.msixMask := rfl
@[simp] theorem wrShd_msixTab (s : State) (p : Page) (f : Field) (v : Nat) : (wrShd s p f v).msixTab = s.msixTab := rfl
@[simp] theorem wrShd_fresh (s : State) (p : Page) (f : Field) (v : Nat) : (wrShd s p f v).fresh = s.fresh := rfl
@[simp] theorem wrShd_lane (s : State) (p : Page) (f : Field) (v : Nat) : (wrShd s p f v).lane = s.lane := rfl
@[simp] theorem wrShd_laneFuse (s : State) (p : Page) (f : Field) (v : Nat) : (wrShd s p f v).laneFuse = s.laneFuse := rfl
@[simp] theorem wrShd_ecc (s : State) (p : Page) (f : Field) (v : Nat) : (wrShd s p f v).ecc = s.ecc := rfl
@[simp] theorem wrShd_scan (s : State) (p : Page) (f : Field) (v : Nat) : (wrShd s p f v).scan = s.scan := rfl
@[simp] theorem wrShd_clsMap (s : State) (p : Page) (f : Field) (v : Nat) : (wrShd s p f v).clsMap = s.clsMap := rfl
@[simp] theorem wrShd_fil (s : State) (p : Page) (f : Field) (v : Nat) : (wrShd s p f v).fil = s.fil := rfl
@[simp] theorem wrShd_learnFilt (s : State) (p : Page) (f : Field) (v : Nat) : (wrShd s p f v).learnFilt = s.learnFilt := rfl
@[simp] theorem wrShd_learnFly (s : State) (p : Page) (f : Field) (v : Nat) : (wrShd s p f v).learnFly = s.learnFly := rfl
@[simp] theorem wrShd_learnSeq (s : State) (p : Page) (f : Field) (v : Nat) : (wrShd s p f v).learnSeq = s.learnSeq := rfl
@[simp] theorem wrShd_learnPan (s : State) (p : Page) (f : Field) (v : Nat) : (wrShd s p f v).learnPan = s.learnPan := rfl
@[simp] theorem wrShd_filHold (s : State) (p : Page) (f : Field) (v : Nat) : (wrShd s p f v).filHold = s.filHold := rfl
@[simp] theorem wrShd_filWait (s : State) (p : Page) (f : Field) (v : Nat) : (wrShd s p f v).filWait = s.filWait := rfl
@[simp] theorem wrShd_vlanWr (s : State) (p : Page) (f : Field) (v : Nat) : (wrShd s p f v).vlanWr = s.vlanWr := rfl
@[simp] theorem wrShd_dram (s : State) (p : Page) (f : Field) (v : Nat) : (wrShd s p f v).dram = s.dram := rfl
@[simp] theorem wrShd_poison (s : State) (p : Page) (f : Field) (v : Nat) : (wrShd s p f v).poison = s.poison := rfl
@[simp] theorem wrShd_spareBlank (s : State) (p : Page) (f : Field) (v : Nat) : (wrShd s p f v).spareBlank = s.spareBlank := rfl
@[simp] theorem wrShd_perOld (s : State) (p : Page) (f : Field) (v : Nat) : (wrShd s p f v).perOld = s.perOld := rfl
@[simp] theorem wrShd_leapLast (s : State) (p : Page) (f : Field) (v : Nat) : (wrShd s p f v).leapLast = s.leapLast := rfl
@[simp] theorem wrShd_ctx (s : State) (p : Page) (f : Field) (v : Nat) : (wrShd s p f v).ctx = s.ctx := rfl
@[simp] theorem wrShd_lru (s : State) (p : Page) (f : Field) (v : Nat) : (wrShd s p f v).lru = s.lru := rfl
@[simp] theorem wrShd_evq (s : State) (p : Page) (f : Field) (v : Nat) : (wrShd s p f v).evq = s.evq := rfl
@[simp] theorem wrShd_skStaged (s : State) (p : Page) (f : Field) (v : Nat) : (wrShd s p f v).skStaged = s.skStaged := rfl
@[simp] theorem wrShd_skLat (s : State) (p : Page) (f : Field) (v : Nat) : (wrShd s p f v).skLat = s.skLat := rfl
@[simp] theorem wrShd_skOvl (s : State) (p : Page) (f : Field) (v : Nat) : (wrShd s p f v).skOvl = s.skOvl := rfl
@[simp] theorem wrShd_bob (s : State) (p : Page) (f : Field) (v : Nat) : (wrShd s p f v).bob = s.bob := rfl
@[simp] theorem wrShd_rs (s : State) (p : Page) (f : Field) (v : Nat) : (wrShd s p f v).rs = s.rs := rfl
@[simp] theorem wrShd_tm (s : State) (p : Page) (f : Field) (v : Nat) : (wrShd s p f v).tm = s.tm := rfl
@[simp] theorem wrShd_smp (s : State) (p : Page) (f : Field) (v : Nat) : (wrShd s p f v).smp = s.smp := rfl
@[simp] theorem wrShd_ald (s : State) (p : Page) (f : Field) (v : Nat) : (wrShd s p f v).ald = s.ald := rfl
@[simp] theorem wrShd_ndl (s : State) (p : Page) (f : Field) (v : Nat) : (wrShd s p f v).ndl = s.ndl := rfl
@[simp] theorem wrShd_pwr (s : State) (p : Page) (f : Field) (v : Nat) : (wrShd s p f v).pwr = s.pwr := rfl
@[simp] theorem wrShd_mor (s : State) (p : Page) (f : Field) (v : Nat) : (wrShd s p f v).mor = s.mor := rfl
@[simp] theorem wrShd_pending (s : State) (p : Page) (f : Field) (v : Nat) : (wrShd s p f v).pending = s.pending := rfl

/-! ### wrAct -/

@[simp] theorem wrAct_reg (s : State) (p : Page) (f : Field) (v : Nat) : (wrAct s p f v).reg = s.reg := rfl
@[simp] theorem wrAct_shd (s : State) (p : Page) (f : Field) (v : Nat) : (wrAct s p f v).shd = s.shd := rfl
@[simp] theorem wrAct_lat (s : State) (p : Page) (f : Field) (v : Nat) : (wrAct s p f v).lat = s.lat := rfl
@[simp] theorem wrAct_blk (s : State) (p : Page) (f : Field) (v : Nat) : (wrAct s p f v).blk = s.blk := rfl
@[simp] theorem wrAct_vote (s : State) (p : Page) (f : Field) (v : Nat) : (wrAct s p f v).vote = s.vote := rfl
@[simp] theorem wrAct_ind (s : State) (p : Page) (f : Field) (v : Nat) : (wrAct s p f v).ind = s.ind := rfl
@[simp] theorem wrAct_indS (s : State) (p : Page) (f : Field) (v : Nat) : (wrAct s p f v).indS = s.indS := rfl
@[simp] theorem wrAct_indL (s : State) (p : Page) (f : Field) (v : Nat) : (wrAct s p f v).indL = s.indL := rfl
@[simp] theorem wrAct_indWr (s : State) (p : Page) (f : Field) (v : Nat) : (wrAct s p f v).indWr = s.indWr := rfl
@[simp] theorem wrAct_indLate (s : State) (p : Page) (f : Field) (v : Nat) : (wrAct s p f v).indLate = s.indLate := rfl
@[simp] theorem wrAct_skOp (s : State) (p : Page) (f : Field) (v : Nat) : (wrAct s p f v).skOp = s.skOp := rfl
@[simp] theorem wrAct_perPast (s : State) (p : Page) (f : Field) (v : Nat) : (wrAct s p f v).perPast = s.perPast := rfl
@[simp] theorem wrAct_pair (s : State) (p : Page) (f : Field) (v : Nat) : (wrAct s p f v).pair = s.pair := rfl
@[simp] theorem wrAct_xing (s : State) (p : Page) (f : Field) (v : Nat) : (wrAct s p f v).xing = s.xing := rfl
@[simp] theorem wrAct_ioData (s : State) (p : Page) (f : Field) (v : Nat) : (wrAct s p f v).ioData = s.ioData := rfl
@[simp] theorem wrAct_cnt (s : State) (p : Page) (f : Field) (v : Nat) : (wrAct s p f v).cnt = s.cnt := rfl
@[simp] theorem wrAct_snp (s : State) (p : Page) (f : Field) (v : Nat) : (wrAct s p f v).snp = s.snp := rfl
@[simp] theorem wrAct_groups (s : State) (p : Page) (f : Field) (v : Nat) : (wrAct s p f v).groups = s.groups := rfl
@[simp] theorem wrAct_pageGrp (s : State) (p : Page) (f : Field) (v : Nat) : (wrAct s p f v).pageGrp = s.pageGrp := rfl
@[simp] theorem wrAct_now (s : State) (p : Page) (f : Field) (v : Nat) : (wrAct s p f v).now = s.now := rfl
@[simp] theorem wrAct_stitch (s : State) (p : Page) (f : Field) (v : Nat) : (wrAct s p f v).stitch = s.stitch := rfl
@[simp] theorem wrAct_epoch (s : State) (p : Page) (f : Field) (v : Nat) : (wrAct s p f v).epoch = s.epoch := rfl
@[simp] theorem wrAct_bndAt (s : State) (p : Page) (f : Field) (v : Nat) : (wrAct s p f v).bndAt = s.bndAt := rfl
@[simp] theorem wrAct_nextBnd (s : State) (p : Page) (f : Field) (v : Nat) : (wrAct s p f v).nextBnd = s.nextBnd := rfl
@[simp] theorem wrAct_closed (s : State) (p : Page) (f : Field) (v : Nat) : (wrAct s p f v).closed = s.closed := rfl
@[simp] theorem wrAct_sleepDue (s : State) (p : Page) (f : Field) (v : Nat) : (wrAct s p f v).sleepDue = s.sleepDue := rfl
@[simp] theorem wrAct_perReq (s : State) (p : Page) (f : Field) (v : Nat) : (wrAct s p f v).perReq = s.perReq := rfl
@[simp] theorem wrAct_fenceLog (s : State) (p : Page) (f : Field) (v : Nat) : (wrAct s p f v).fenceLog = s.fenceLog := rfl
@[simp] theorem wrAct_irqLevel (s : State) (p : Page) (f : Field) (v : Nat) : (wrAct s p f v).irqLevel = s.irqLevel := rfl
@[simp] theorem wrAct_msgs (s : State) (p : Page) (f : Field) (v : Nat) : (wrAct s p f v).msgs = s.msgs := rfl
@[simp] theorem wrAct_msixPend (s : State) (p : Page) (f : Field) (v : Nat) : (wrAct s p f v).msixPend = s.msixPend := rfl
@[simp] theorem wrAct_msixMask (s : State) (p : Page) (f : Field) (v : Nat) : (wrAct s p f v).msixMask = s.msixMask := rfl
@[simp] theorem wrAct_msixTab (s : State) (p : Page) (f : Field) (v : Nat) : (wrAct s p f v).msixTab = s.msixTab := rfl
@[simp] theorem wrAct_fresh (s : State) (p : Page) (f : Field) (v : Nat) : (wrAct s p f v).fresh = s.fresh := rfl
@[simp] theorem wrAct_lane (s : State) (p : Page) (f : Field) (v : Nat) : (wrAct s p f v).lane = s.lane := rfl
@[simp] theorem wrAct_laneFuse (s : State) (p : Page) (f : Field) (v : Nat) : (wrAct s p f v).laneFuse = s.laneFuse := rfl
@[simp] theorem wrAct_ecc (s : State) (p : Page) (f : Field) (v : Nat) : (wrAct s p f v).ecc = s.ecc := rfl
@[simp] theorem wrAct_scan (s : State) (p : Page) (f : Field) (v : Nat) : (wrAct s p f v).scan = s.scan := rfl
@[simp] theorem wrAct_clsMap (s : State) (p : Page) (f : Field) (v : Nat) : (wrAct s p f v).clsMap = s.clsMap := rfl
@[simp] theorem wrAct_fil (s : State) (p : Page) (f : Field) (v : Nat) : (wrAct s p f v).fil = s.fil := rfl
@[simp] theorem wrAct_learnFilt (s : State) (p : Page) (f : Field) (v : Nat) : (wrAct s p f v).learnFilt = s.learnFilt := rfl
@[simp] theorem wrAct_learnFly (s : State) (p : Page) (f : Field) (v : Nat) : (wrAct s p f v).learnFly = s.learnFly := rfl
@[simp] theorem wrAct_learnSeq (s : State) (p : Page) (f : Field) (v : Nat) : (wrAct s p f v).learnSeq = s.learnSeq := rfl
@[simp] theorem wrAct_learnPan (s : State) (p : Page) (f : Field) (v : Nat) : (wrAct s p f v).learnPan = s.learnPan := rfl
@[simp] theorem wrAct_filHold (s : State) (p : Page) (f : Field) (v : Nat) : (wrAct s p f v).filHold = s.filHold := rfl
@[simp] theorem wrAct_filWait (s : State) (p : Page) (f : Field) (v : Nat) : (wrAct s p f v).filWait = s.filWait := rfl
@[simp] theorem wrAct_vlanWr (s : State) (p : Page) (f : Field) (v : Nat) : (wrAct s p f v).vlanWr = s.vlanWr := rfl
@[simp] theorem wrAct_dram (s : State) (p : Page) (f : Field) (v : Nat) : (wrAct s p f v).dram = s.dram := rfl
@[simp] theorem wrAct_poison (s : State) (p : Page) (f : Field) (v : Nat) : (wrAct s p f v).poison = s.poison := rfl
@[simp] theorem wrAct_spareBlank (s : State) (p : Page) (f : Field) (v : Nat) : (wrAct s p f v).spareBlank = s.spareBlank := rfl
@[simp] theorem wrAct_perOld (s : State) (p : Page) (f : Field) (v : Nat) : (wrAct s p f v).perOld = s.perOld := rfl
@[simp] theorem wrAct_leapLast (s : State) (p : Page) (f : Field) (v : Nat) : (wrAct s p f v).leapLast = s.leapLast := rfl
@[simp] theorem wrAct_ctx (s : State) (p : Page) (f : Field) (v : Nat) : (wrAct s p f v).ctx = s.ctx := rfl
@[simp] theorem wrAct_lru (s : State) (p : Page) (f : Field) (v : Nat) : (wrAct s p f v).lru = s.lru := rfl
@[simp] theorem wrAct_evq (s : State) (p : Page) (f : Field) (v : Nat) : (wrAct s p f v).evq = s.evq := rfl
@[simp] theorem wrAct_skStaged (s : State) (p : Page) (f : Field) (v : Nat) : (wrAct s p f v).skStaged = s.skStaged := rfl
@[simp] theorem wrAct_skLat (s : State) (p : Page) (f : Field) (v : Nat) : (wrAct s p f v).skLat = s.skLat := rfl
@[simp] theorem wrAct_skOvl (s : State) (p : Page) (f : Field) (v : Nat) : (wrAct s p f v).skOvl = s.skOvl := rfl
@[simp] theorem wrAct_bob (s : State) (p : Page) (f : Field) (v : Nat) : (wrAct s p f v).bob = s.bob := rfl
@[simp] theorem wrAct_rs (s : State) (p : Page) (f : Field) (v : Nat) : (wrAct s p f v).rs = s.rs := rfl
@[simp] theorem wrAct_tm (s : State) (p : Page) (f : Field) (v : Nat) : (wrAct s p f v).tm = s.tm := rfl
@[simp] theorem wrAct_smp (s : State) (p : Page) (f : Field) (v : Nat) : (wrAct s p f v).smp = s.smp := rfl
@[simp] theorem wrAct_ald (s : State) (p : Page) (f : Field) (v : Nat) : (wrAct s p f v).ald = s.ald := rfl
@[simp] theorem wrAct_ndl (s : State) (p : Page) (f : Field) (v : Nat) : (wrAct s p f v).ndl = s.ndl := rfl
@[simp] theorem wrAct_pwr (s : State) (p : Page) (f : Field) (v : Nat) : (wrAct s p f v).pwr = s.pwr := rfl
@[simp] theorem wrAct_mor (s : State) (p : Page) (f : Field) (v : Nat) : (wrAct s p f v).mor = s.mor := rfl
@[simp] theorem wrAct_pending (s : State) (p : Page) (f : Field) (v : Nat) : (wrAct s p f v).pending = s.pending := rfl

/-! ### wrBlk -/

@[simp] theorem wrBlk_reg (s : State) (p : Page) (f : Field) (v : Nat) : (wrBlk s p f v).reg = s.reg := rfl
@[simp] theorem wrBlk_act (s : State) (p : Page) (f : Field) (v : Nat) : (wrBlk s p f v).act = s.act := rfl
@[simp] theorem wrBlk_shd (s : State) (p : Page) (f : Field) (v : Nat) : (wrBlk s p f v).shd = s.shd := rfl
@[simp] theorem wrBlk_lat (s : State) (p : Page) (f : Field) (v : Nat) : (wrBlk s p f v).lat = s.lat := rfl
@[simp] theorem wrBlk_vote (s : State) (p : Page) (f : Field) (v : Nat) : (wrBlk s p f v).vote = s.vote := rfl
@[simp] theorem wrBlk_ind (s : State) (p : Page) (f : Field) (v : Nat) : (wrBlk s p f v).ind = s.ind := rfl
@[simp] theorem wrBlk_indS (s : State) (p : Page) (f : Field) (v : Nat) : (wrBlk s p f v).indS = s.indS := rfl
@[simp] theorem wrBlk_indL (s : State) (p : Page) (f : Field) (v : Nat) : (wrBlk s p f v).indL = s.indL := rfl
@[simp] theorem wrBlk_indWr (s : State) (p : Page) (f : Field) (v : Nat) : (wrBlk s p f v).indWr = s.indWr := rfl
@[simp] theorem wrBlk_indLate (s : State) (p : Page) (f : Field) (v : Nat) : (wrBlk s p f v).indLate = s.indLate := rfl
@[simp] theorem wrBlk_skOp (s : State) (p : Page) (f : Field) (v : Nat) : (wrBlk s p f v).skOp = s.skOp := rfl
@[simp] theorem wrBlk_perPast (s : State) (p : Page) (f : Field) (v : Nat) : (wrBlk s p f v).perPast = s.perPast := rfl
@[simp] theorem wrBlk_pair (s : State) (p : Page) (f : Field) (v : Nat) : (wrBlk s p f v).pair = s.pair := rfl
@[simp] theorem wrBlk_xing (s : State) (p : Page) (f : Field) (v : Nat) : (wrBlk s p f v).xing = s.xing := rfl
@[simp] theorem wrBlk_ioData (s : State) (p : Page) (f : Field) (v : Nat) : (wrBlk s p f v).ioData = s.ioData := rfl
@[simp] theorem wrBlk_cnt (s : State) (p : Page) (f : Field) (v : Nat) : (wrBlk s p f v).cnt = s.cnt := rfl
@[simp] theorem wrBlk_snp (s : State) (p : Page) (f : Field) (v : Nat) : (wrBlk s p f v).snp = s.snp := rfl
@[simp] theorem wrBlk_groups (s : State) (p : Page) (f : Field) (v : Nat) : (wrBlk s p f v).groups = s.groups := rfl
@[simp] theorem wrBlk_pageGrp (s : State) (p : Page) (f : Field) (v : Nat) : (wrBlk s p f v).pageGrp = s.pageGrp := rfl
@[simp] theorem wrBlk_now (s : State) (p : Page) (f : Field) (v : Nat) : (wrBlk s p f v).now = s.now := rfl
@[simp] theorem wrBlk_stitch (s : State) (p : Page) (f : Field) (v : Nat) : (wrBlk s p f v).stitch = s.stitch := rfl
@[simp] theorem wrBlk_epoch (s : State) (p : Page) (f : Field) (v : Nat) : (wrBlk s p f v).epoch = s.epoch := rfl
@[simp] theorem wrBlk_bndAt (s : State) (p : Page) (f : Field) (v : Nat) : (wrBlk s p f v).bndAt = s.bndAt := rfl
@[simp] theorem wrBlk_nextBnd (s : State) (p : Page) (f : Field) (v : Nat) : (wrBlk s p f v).nextBnd = s.nextBnd := rfl
@[simp] theorem wrBlk_closed (s : State) (p : Page) (f : Field) (v : Nat) : (wrBlk s p f v).closed = s.closed := rfl
@[simp] theorem wrBlk_sleepDue (s : State) (p : Page) (f : Field) (v : Nat) : (wrBlk s p f v).sleepDue = s.sleepDue := rfl
@[simp] theorem wrBlk_perReq (s : State) (p : Page) (f : Field) (v : Nat) : (wrBlk s p f v).perReq = s.perReq := rfl
@[simp] theorem wrBlk_fenceLog (s : State) (p : Page) (f : Field) (v : Nat) : (wrBlk s p f v).fenceLog = s.fenceLog := rfl
@[simp] theorem wrBlk_irqLevel (s : State) (p : Page) (f : Field) (v : Nat) : (wrBlk s p f v).irqLevel = s.irqLevel := rfl
@[simp] theorem wrBlk_msgs (s : State) (p : Page) (f : Field) (v : Nat) : (wrBlk s p f v).msgs = s.msgs := rfl
@[simp] theorem wrBlk_msixPend (s : State) (p : Page) (f : Field) (v : Nat) : (wrBlk s p f v).msixPend = s.msixPend := rfl
@[simp] theorem wrBlk_msixMask (s : State) (p : Page) (f : Field) (v : Nat) : (wrBlk s p f v).msixMask = s.msixMask := rfl
@[simp] theorem wrBlk_msixTab (s : State) (p : Page) (f : Field) (v : Nat) : (wrBlk s p f v).msixTab = s.msixTab := rfl
@[simp] theorem wrBlk_fresh (s : State) (p : Page) (f : Field) (v : Nat) : (wrBlk s p f v).fresh = s.fresh := rfl
@[simp] theorem wrBlk_lane (s : State) (p : Page) (f : Field) (v : Nat) : (wrBlk s p f v).lane = s.lane := rfl
@[simp] theorem wrBlk_laneFuse (s : State) (p : Page) (f : Field) (v : Nat) : (wrBlk s p f v).laneFuse = s.laneFuse := rfl
@[simp] theorem wrBlk_ecc (s : State) (p : Page) (f : Field) (v : Nat) : (wrBlk s p f v).ecc = s.ecc := rfl
@[simp] theorem wrBlk_scan (s : State) (p : Page) (f : Field) (v : Nat) : (wrBlk s p f v).scan = s.scan := rfl
@[simp] theorem wrBlk_clsMap (s : State) (p : Page) (f : Field) (v : Nat) : (wrBlk s p f v).clsMap = s.clsMap := rfl
@[simp] theorem wrBlk_fil (s : State) (p : Page) (f : Field) (v : Nat) : (wrBlk s p f v).fil = s.fil := rfl
@[simp] theorem wrBlk_learnFilt (s : State) (p : Page) (f : Field) (v : Nat) : (wrBlk s p f v).learnFilt = s.learnFilt := rfl
@[simp] theorem wrBlk_learnFly (s : State) (p : Page) (f : Field) (v : Nat) : (wrBlk s p f v).learnFly = s.learnFly := rfl
@[simp] theorem wrBlk_learnSeq (s : State) (p : Page) (f : Field) (v : Nat) : (wrBlk s p f v).learnSeq = s.learnSeq := rfl
@[simp] theorem wrBlk_learnPan (s : State) (p : Page) (f : Field) (v : Nat) : (wrBlk s p f v).learnPan = s.learnPan := rfl
@[simp] theorem wrBlk_filHold (s : State) (p : Page) (f : Field) (v : Nat) : (wrBlk s p f v).filHold = s.filHold := rfl
@[simp] theorem wrBlk_filWait (s : State) (p : Page) (f : Field) (v : Nat) : (wrBlk s p f v).filWait = s.filWait := rfl
@[simp] theorem wrBlk_vlanWr (s : State) (p : Page) (f : Field) (v : Nat) : (wrBlk s p f v).vlanWr = s.vlanWr := rfl
@[simp] theorem wrBlk_dram (s : State) (p : Page) (f : Field) (v : Nat) : (wrBlk s p f v).dram = s.dram := rfl
@[simp] theorem wrBlk_poison (s : State) (p : Page) (f : Field) (v : Nat) : (wrBlk s p f v).poison = s.poison := rfl
@[simp] theorem wrBlk_spareBlank (s : State) (p : Page) (f : Field) (v : Nat) : (wrBlk s p f v).spareBlank = s.spareBlank := rfl
@[simp] theorem wrBlk_perOld (s : State) (p : Page) (f : Field) (v : Nat) : (wrBlk s p f v).perOld = s.perOld := rfl
@[simp] theorem wrBlk_leapLast (s : State) (p : Page) (f : Field) (v : Nat) : (wrBlk s p f v).leapLast = s.leapLast := rfl
@[simp] theorem wrBlk_ctx (s : State) (p : Page) (f : Field) (v : Nat) : (wrBlk s p f v).ctx = s.ctx := rfl
@[simp] theorem wrBlk_lru (s : State) (p : Page) (f : Field) (v : Nat) : (wrBlk s p f v).lru = s.lru := rfl
@[simp] theorem wrBlk_evq (s : State) (p : Page) (f : Field) (v : Nat) : (wrBlk s p f v).evq = s.evq := rfl
@[simp] theorem wrBlk_skStaged (s : State) (p : Page) (f : Field) (v : Nat) : (wrBlk s p f v).skStaged = s.skStaged := rfl
@[simp] theorem wrBlk_skLat (s : State) (p : Page) (f : Field) (v : Nat) : (wrBlk s p f v).skLat = s.skLat := rfl
@[simp] theorem wrBlk_skOvl (s : State) (p : Page) (f : Field) (v : Nat) : (wrBlk s p f v).skOvl = s.skOvl := rfl
@[simp] theorem wrBlk_bob (s : State) (p : Page) (f : Field) (v : Nat) : (wrBlk s p f v).bob = s.bob := rfl
@[simp] theorem wrBlk_rs (s : State) (p : Page) (f : Field) (v : Nat) : (wrBlk s p f v).rs = s.rs := rfl
@[simp] theorem wrBlk_tm (s : State) (p : Page) (f : Field) (v : Nat) : (wrBlk s p f v).tm = s.tm := rfl
@[simp] theorem wrBlk_smp (s : State) (p : Page) (f : Field) (v : Nat) : (wrBlk s p f v).smp = s.smp := rfl
@[simp] theorem wrBlk_ald (s : State) (p : Page) (f : Field) (v : Nat) : (wrBlk s p f v).ald = s.ald := rfl
@[simp] theorem wrBlk_ndl (s : State) (p : Page) (f : Field) (v : Nat) : (wrBlk s p f v).ndl = s.ndl := rfl
@[simp] theorem wrBlk_pwr (s : State) (p : Page) (f : Field) (v : Nat) : (wrBlk s p f v).pwr = s.pwr := rfl
@[simp] theorem wrBlk_mor (s : State) (p : Page) (f : Field) (v : Nat) : (wrBlk s p f v).mor = s.mor := rfl
@[simp] theorem wrBlk_pending (s : State) (p : Page) (f : Field) (v : Nat) : (wrBlk s p f v).pending = s.pending := rfl

/-! ### putWord -/

@[simp] theorem putWord_reg (s : State) (p : Page) (n w v : Nat) : (putWord s p n w v).reg = s.reg := rfl
@[simp] theorem putWord_act (s : State) (p : Page) (n w v : Nat) : (putWord s p n w v).act = s.act := rfl
@[simp] theorem putWord_shd (s : State) (p : Page) (n w v : Nat) : (putWord s p n w v).shd = s.shd := rfl
@[simp] theorem putWord_lat (s : State) (p : Page) (n w v : Nat) : (putWord s p n w v).lat = s.lat := rfl
@[simp] theorem putWord_blk (s : State) (p : Page) (n w v : Nat) : (putWord s p n w v).blk = s.blk := rfl
@[simp] theorem putWord_vote (s : State) (p : Page) (n w v : Nat) : (putWord s p n w v).vote = s.vote := rfl
@[simp] theorem putWord_indS (s : State) (p : Page) (n w v : Nat) : (putWord s p n w v).indS = s.indS := rfl
@[simp] theorem putWord_indL (s : State) (p : Page) (n w v : Nat) : (putWord s p n w v).indL = s.indL := rfl
@[simp] theorem putWord_indWr (s : State) (p : Page) (n w v : Nat) : (putWord s p n w v).indWr = s.indWr := rfl
@[simp] theorem putWord_indLate (s : State) (p : Page) (n w v : Nat) : (putWord s p n w v).indLate = s.indLate := rfl
@[simp] theorem putWord_skOp (s : State) (p : Page) (n w v : Nat) : (putWord s p n w v).skOp = s.skOp := rfl
@[simp] theorem putWord_perPast (s : State) (p : Page) (n w v : Nat) : (putWord s p n w v).perPast = s.perPast := rfl
@[simp] theorem putWord_pair (s : State) (p : Page) (n w v : Nat) : (putWord s p n w v).pair = s.pair := rfl
@[simp] theorem putWord_xing (s : State) (p : Page) (n w v : Nat) : (putWord s p n w v).xing = s.xing := rfl
@[simp] theorem putWord_ioData (s : State) (p : Page) (n w v : Nat) : (putWord s p n w v).ioData = s.ioData := rfl
@[simp] theorem putWord_cnt (s : State) (p : Page) (n w v : Nat) : (putWord s p n w v).cnt = s.cnt := rfl
@[simp] theorem putWord_snp (s : State) (p : Page) (n w v : Nat) : (putWord s p n w v).snp = s.snp := rfl
@[simp] theorem putWord_groups (s : State) (p : Page) (n w v : Nat) : (putWord s p n w v).groups = s.groups := rfl
@[simp] theorem putWord_pageGrp (s : State) (p : Page) (n w v : Nat) : (putWord s p n w v).pageGrp = s.pageGrp := rfl
@[simp] theorem putWord_now (s : State) (p : Page) (n w v : Nat) : (putWord s p n w v).now = s.now := rfl
@[simp] theorem putWord_stitch (s : State) (p : Page) (n w v : Nat) : (putWord s p n w v).stitch = s.stitch := rfl
@[simp] theorem putWord_epoch (s : State) (p : Page) (n w v : Nat) : (putWord s p n w v).epoch = s.epoch := rfl
@[simp] theorem putWord_bndAt (s : State) (p : Page) (n w v : Nat) : (putWord s p n w v).bndAt = s.bndAt := rfl
@[simp] theorem putWord_nextBnd (s : State) (p : Page) (n w v : Nat) : (putWord s p n w v).nextBnd = s.nextBnd := rfl
@[simp] theorem putWord_closed (s : State) (p : Page) (n w v : Nat) : (putWord s p n w v).closed = s.closed := rfl
@[simp] theorem putWord_sleepDue (s : State) (p : Page) (n w v : Nat) : (putWord s p n w v).sleepDue = s.sleepDue := rfl
@[simp] theorem putWord_perReq (s : State) (p : Page) (n w v : Nat) : (putWord s p n w v).perReq = s.perReq := rfl
@[simp] theorem putWord_fenceLog (s : State) (p : Page) (n w v : Nat) : (putWord s p n w v).fenceLog = s.fenceLog := rfl
@[simp] theorem putWord_irqLevel (s : State) (p : Page) (n w v : Nat) : (putWord s p n w v).irqLevel = s.irqLevel := rfl
@[simp] theorem putWord_msgs (s : State) (p : Page) (n w v : Nat) : (putWord s p n w v).msgs = s.msgs := rfl
@[simp] theorem putWord_msixPend (s : State) (p : Page) (n w v : Nat) : (putWord s p n w v).msixPend = s.msixPend := rfl
@[simp] theorem putWord_msixMask (s : State) (p : Page) (n w v : Nat) : (putWord s p n w v).msixMask = s.msixMask := rfl
@[simp] theorem putWord_msixTab (s : State) (p : Page) (n w v : Nat) : (putWord s p n w v).msixTab = s.msixTab := rfl
@[simp] theorem putWord_fresh (s : State) (p : Page) (n w v : Nat) : (putWord s p n w v).fresh = s.fresh := rfl
@[simp] theorem putWord_lane (s : State) (p : Page) (n w v : Nat) : (putWord s p n w v).lane = s.lane := rfl
@[simp] theorem putWord_laneFuse (s : State) (p : Page) (n w v : Nat) : (putWord s p n w v).laneFuse = s.laneFuse := rfl
@[simp] theorem putWord_ecc (s : State) (p : Page) (n w v : Nat) : (putWord s p n w v).ecc = s.ecc := rfl
@[simp] theorem putWord_scan (s : State) (p : Page) (n w v : Nat) : (putWord s p n w v).scan = s.scan := rfl
@[simp] theorem putWord_clsMap (s : State) (p : Page) (n w v : Nat) : (putWord s p n w v).clsMap = s.clsMap := rfl
@[simp] theorem putWord_fil (s : State) (p : Page) (n w v : Nat) : (putWord s p n w v).fil = s.fil := rfl
@[simp] theorem putWord_learnFilt (s : State) (p : Page) (n w v : Nat) : (putWord s p n w v).learnFilt = s.learnFilt := rfl
@[simp] theorem putWord_learnFly (s : State) (p : Page) (n w v : Nat) : (putWord s p n w v).learnFly = s.learnFly := rfl
@[simp] theorem putWord_learnSeq (s : State) (p : Page) (n w v : Nat) : (putWord s p n w v).learnSeq = s.learnSeq := rfl
@[simp] theorem putWord_learnPan (s : State) (p : Page) (n w v : Nat) : (putWord s p n w v).learnPan = s.learnPan := rfl
@[simp] theorem putWord_filHold (s : State) (p : Page) (n w v : Nat) : (putWord s p n w v).filHold = s.filHold := rfl
@[simp] theorem putWord_filWait (s : State) (p : Page) (n w v : Nat) : (putWord s p n w v).filWait = s.filWait := rfl
@[simp] theorem putWord_vlanWr (s : State) (p : Page) (n w v : Nat) : (putWord s p n w v).vlanWr = s.vlanWr := rfl
@[simp] theorem putWord_dram (s : State) (p : Page) (n w v : Nat) : (putWord s p n w v).dram = s.dram := rfl
@[simp] theorem putWord_poison (s : State) (p : Page) (n w v : Nat) : (putWord s p n w v).poison = s.poison := rfl
@[simp] theorem putWord_spareBlank (s : State) (p : Page) (n w v : Nat) : (putWord s p n w v).spareBlank = s.spareBlank := rfl
@[simp] theorem putWord_perOld (s : State) (p : Page) (n w v : Nat) : (putWord s p n w v).perOld = s.perOld := rfl
@[simp] theorem putWord_leapLast (s : State) (p : Page) (n w v : Nat) : (putWord s p n w v).leapLast = s.leapLast := rfl
@[simp] theorem putWord_ctx (s : State) (p : Page) (n w v : Nat) : (putWord s p n w v).ctx = s.ctx := rfl
@[simp] theorem putWord_lru (s : State) (p : Page) (n w v : Nat) : (putWord s p n w v).lru = s.lru := rfl
@[simp] theorem putWord_evq (s : State) (p : Page) (n w v : Nat) : (putWord s p n w v).evq = s.evq := rfl
@[simp] theorem putWord_skStaged (s : State) (p : Page) (n w v : Nat) : (putWord s p n w v).skStaged = s.skStaged := rfl
@[simp] theorem putWord_skLat (s : State) (p : Page) (n w v : Nat) : (putWord s p n w v).skLat = s.skLat := rfl
@[simp] theorem putWord_skOvl (s : State) (p : Page) (n w v : Nat) : (putWord s p n w v).skOvl = s.skOvl := rfl
@[simp] theorem putWord_bob (s : State) (p : Page) (n w v : Nat) : (putWord s p n w v).bob = s.bob := rfl
@[simp] theorem putWord_rs (s : State) (p : Page) (n w v : Nat) : (putWord s p n w v).rs = s.rs := rfl
@[simp] theorem putWord_tm (s : State) (p : Page) (n w v : Nat) : (putWord s p n w v).tm = s.tm := rfl
@[simp] theorem putWord_smp (s : State) (p : Page) (n w v : Nat) : (putWord s p n w v).smp = s.smp := rfl
@[simp] theorem putWord_ald (s : State) (p : Page) (n w v : Nat) : (putWord s p n w v).ald = s.ald := rfl
@[simp] theorem putWord_ndl (s : State) (p : Page) (n w v : Nat) : (putWord s p n w v).ndl = s.ndl := rfl
@[simp] theorem putWord_pwr (s : State) (p : Page) (n w v : Nat) : (putWord s p n w v).pwr = s.pwr := rfl
@[simp] theorem putWord_mor (s : State) (p : Page) (n w v : Nat) : (putWord s p n w v).mor = s.mor := rfl
@[simp] theorem putWord_pending (s : State) (p : Page) (n w v : Nat) : (putWord s p n w v).pending = s.pending := rfl

/-! ### putWordS -/

@[simp] theorem putWordS_reg (s : State) (p : Page) (n w v : Nat) : (putWordS s p n w v).reg = s.reg := rfl
@[simp] theorem putWordS_act (s : State) (p : Page) (n w v : Nat) : (putWordS s p n w v).act = s.act := rfl
@[simp] theorem putWordS_shd (s : State) (p : Page) (n w v : Nat) : (putWordS s p n w v).shd = s.shd := rfl
@[simp] theorem putWordS_lat (s : State) (p : Page) (n w v : Nat) : (putWordS s p n w v).lat = s.lat := rfl
@[simp] theorem putWordS_blk (s : State) (p : Page) (n w v : Nat) : (putWordS s p n w v).blk = s.blk := rfl
@[simp] theorem putWordS_vote (s : State) (p : Page) (n w v : Nat) : (putWordS s p n w v).vote = s.vote := rfl
@[simp] theorem putWordS_ind (s : State) (p : Page) (n w v : Nat) : (putWordS s p n w v).ind = s.ind := rfl
@[simp] theorem putWordS_indL (s : State) (p : Page) (n w v : Nat) : (putWordS s p n w v).indL = s.indL := rfl
@[simp] theorem putWordS_pair (s : State) (p : Page) (n w v : Nat) : (putWordS s p n w v).pair = s.pair := rfl
@[simp] theorem putWordS_xing (s : State) (p : Page) (n w v : Nat) : (putWordS s p n w v).xing = s.xing := rfl
@[simp] theorem putWordS_ioData (s : State) (p : Page) (n w v : Nat) : (putWordS s p n w v).ioData = s.ioData := rfl
@[simp] theorem putWordS_cnt (s : State) (p : Page) (n w v : Nat) : (putWordS s p n w v).cnt = s.cnt := rfl
@[simp] theorem putWordS_snp (s : State) (p : Page) (n w v : Nat) : (putWordS s p n w v).snp = s.snp := rfl
@[simp] theorem putWordS_groups (s : State) (p : Page) (n w v : Nat) : (putWordS s p n w v).groups = s.groups := rfl
@[simp] theorem putWordS_pageGrp (s : State) (p : Page) (n w v : Nat) : (putWordS s p n w v).pageGrp = s.pageGrp := rfl
@[simp] theorem putWordS_now (s : State) (p : Page) (n w v : Nat) : (putWordS s p n w v).now = s.now := rfl
@[simp] theorem putWordS_stitch (s : State) (p : Page) (n w v : Nat) : (putWordS s p n w v).stitch = s.stitch := rfl
@[simp] theorem putWordS_epoch (s : State) (p : Page) (n w v : Nat) : (putWordS s p n w v).epoch = s.epoch := rfl
@[simp] theorem putWordS_bndAt (s : State) (p : Page) (n w v : Nat) : (putWordS s p n w v).bndAt = s.bndAt := rfl
@[simp] theorem putWordS_nextBnd (s : State) (p : Page) (n w v : Nat) : (putWordS s p n w v).nextBnd = s.nextBnd := rfl
@[simp] theorem putWordS_closed (s : State) (p : Page) (n w v : Nat) : (putWordS s p n w v).closed = s.closed := rfl
@[simp] theorem putWordS_sleepDue (s : State) (p : Page) (n w v : Nat) : (putWordS s p n w v).sleepDue = s.sleepDue := rfl
@[simp] theorem putWordS_perReq (s : State) (p : Page) (n w v : Nat) : (putWordS s p n w v).perReq = s.perReq := rfl
@[simp] theorem putWordS_fenceLog (s : State) (p : Page) (n w v : Nat) : (putWordS s p n w v).fenceLog = s.fenceLog := rfl
@[simp] theorem putWordS_irqLevel (s : State) (p : Page) (n w v : Nat) : (putWordS s p n w v).irqLevel = s.irqLevel := rfl
@[simp] theorem putWordS_msgs (s : State) (p : Page) (n w v : Nat) : (putWordS s p n w v).msgs = s.msgs := rfl
@[simp] theorem putWordS_msixPend (s : State) (p : Page) (n w v : Nat) : (putWordS s p n w v).msixPend = s.msixPend := rfl
@[simp] theorem putWordS_msixMask (s : State) (p : Page) (n w v : Nat) : (putWordS s p n w v).msixMask = s.msixMask := rfl
@[simp] theorem putWordS_msixTab (s : State) (p : Page) (n w v : Nat) : (putWordS s p n w v).msixTab = s.msixTab := rfl
@[simp] theorem putWordS_fresh (s : State) (p : Page) (n w v : Nat) : (putWordS s p n w v).fresh = s.fresh := rfl
@[simp] theorem putWordS_lane (s : State) (p : Page) (n w v : Nat) : (putWordS s p n w v).lane = s.lane := rfl
@[simp] theorem putWordS_laneFuse (s : State) (p : Page) (n w v : Nat) : (putWordS s p n w v).laneFuse = s.laneFuse := rfl
@[simp] theorem putWordS_ecc (s : State) (p : Page) (n w v : Nat) : (putWordS s p n w v).ecc = s.ecc := rfl
@[simp] theorem putWordS_scan (s : State) (p : Page) (n w v : Nat) : (putWordS s p n w v).scan = s.scan := rfl
@[simp] theorem putWordS_clsMap (s : State) (p : Page) (n w v : Nat) : (putWordS s p n w v).clsMap = s.clsMap := rfl
@[simp] theorem putWordS_fil (s : State) (p : Page) (n w v : Nat) : (putWordS s p n w v).fil = s.fil := rfl
@[simp] theorem putWordS_learnFilt (s : State) (p : Page) (n w v : Nat) : (putWordS s p n w v).learnFilt = s.learnFilt := rfl
@[simp] theorem putWordS_learnFly (s : State) (p : Page) (n w v : Nat) : (putWordS s p n w v).learnFly = s.learnFly := rfl
@[simp] theorem putWordS_learnSeq (s : State) (p : Page) (n w v : Nat) : (putWordS s p n w v).learnSeq = s.learnSeq := rfl
@[simp] theorem putWordS_learnPan (s : State) (p : Page) (n w v : Nat) : (putWordS s p n w v).learnPan = s.learnPan := rfl
@[simp] theorem putWordS_filHold (s : State) (p : Page) (n w v : Nat) : (putWordS s p n w v).filHold = s.filHold := rfl
@[simp] theorem putWordS_filWait (s : State) (p : Page) (n w v : Nat) : (putWordS s p n w v).filWait = s.filWait := rfl
@[simp] theorem putWordS_vlanWr (s : State) (p : Page) (n w v : Nat) : (putWordS s p n w v).vlanWr = s.vlanWr := rfl
@[simp] theorem putWordS_dram (s : State) (p : Page) (n w v : Nat) : (putWordS s p n w v).dram = s.dram := rfl
@[simp] theorem putWordS_poison (s : State) (p : Page) (n w v : Nat) : (putWordS s p n w v).poison = s.poison := rfl
@[simp] theorem putWordS_spareBlank (s : State) (p : Page) (n w v : Nat) : (putWordS s p n w v).spareBlank = s.spareBlank := rfl
@[simp] theorem putWordS_perOld (s : State) (p : Page) (n w v : Nat) : (putWordS s p n w v).perOld = s.perOld := rfl
@[simp] theorem putWordS_leapLast (s : State) (p : Page) (n w v : Nat) : (putWordS s p n w v).leapLast = s.leapLast := rfl
@[simp] theorem putWordS_ctx (s : State) (p : Page) (n w v : Nat) : (putWordS s p n w v).ctx = s.ctx := rfl
@[simp] theorem putWordS_lru (s : State) (p : Page) (n w v : Nat) : (putWordS s p n w v).lru = s.lru := rfl
@[simp] theorem putWordS_evq (s : State) (p : Page) (n w v : Nat) : (putWordS s p n w v).evq = s.evq := rfl
@[simp] theorem putWordS_skStaged (s : State) (p : Page) (n w v : Nat) : (putWordS s p n w v).skStaged = s.skStaged := rfl
@[simp] theorem putWordS_skLat (s : State) (p : Page) (n w v : Nat) : (putWordS s p n w v).skLat = s.skLat := rfl
@[simp] theorem putWordS_skOvl (s : State) (p : Page) (n w v : Nat) : (putWordS s p n w v).skOvl = s.skOvl := rfl
@[simp] theorem putWordS_bob (s : State) (p : Page) (n w v : Nat) : (putWordS s p n w v).bob = s.bob := rfl
@[simp] theorem putWordS_rs (s : State) (p : Page) (n w v : Nat) : (putWordS s p n w v).rs = s.rs := rfl
@[simp] theorem putWordS_tm (s : State) (p : Page) (n w v : Nat) : (putWordS s p n w v).tm = s.tm := rfl
@[simp] theorem putWordS_smp (s : State) (p : Page) (n w v : Nat) : (putWordS s p n w v).smp = s.smp := rfl
@[simp] theorem putWordS_ald (s : State) (p : Page) (n w v : Nat) : (putWordS s p n w v).ald = s.ald := rfl
@[simp] theorem putWordS_ndl (s : State) (p : Page) (n w v : Nat) : (putWordS s p n w v).ndl = s.ndl := rfl
@[simp] theorem putWordS_pwr (s : State) (p : Page) (n w v : Nat) : (putWordS s p n w v).pwr = s.pwr := rfl
@[simp] theorem putWordS_mor (s : State) (p : Page) (n w v : Nat) : (putWordS s p n w v).mor = s.mor := rfl
@[simp] theorem putWordS_pending (s : State) (p : Page) (n w v : Nat) : (putWordS s p n w v).pending = s.pending := rfl

/-! ### bump -/

@[simp] theorem bump_reg (s : State) (p : Page) (i n : Nat) : (bump s p i n).reg = s.reg := rfl
@[simp] theorem bump_act (s : State) (p : Page) (i n : Nat) : (bump s p i n).act = s.act := rfl
@[simp] theorem bump_shd (s : State) (p : Page) (i n : Nat) : (bump s p i n).shd = s.shd := rfl
@[simp] theorem bump_lat (s : State) (p : Page) (i n : Nat) : (bump s p i n).lat = s.lat := rfl
@[simp] theorem bump_blk (s : State) (p : Page) (i n : Nat) : (bump s p i n).blk = s.blk := rfl
@[simp] theorem bump_vote (s : State) (p : Page) (i n : Nat) : (bump s p i n).vote = s.vote := rfl
@[simp] theorem bump_ind (s : State) (p : Page) (i n : Nat) : (bump s p i n).ind = s.ind := rfl
@[simp] theorem bump_indS (s : State) (p : Page) (i n : Nat) : (bump s p i n).indS = s.indS := rfl
@[simp] theorem bump_indL (s : State) (p : Page) (i n : Nat) : (bump s p i n).indL = s.indL := rfl
@[simp] theorem bump_indWr (s : State) (p : Page) (i n : Nat) : (bump s p i n).indWr = s.indWr := rfl
@[simp] theorem bump_indLate (s : State) (p : Page) (i n : Nat) : (bump s p i n).indLate = s.indLate := rfl
@[simp] theorem bump_skOp (s : State) (p : Page) (i n : Nat) : (bump s p i n).skOp = s.skOp := rfl
@[simp] theorem bump_perPast (s : State) (p : Page) (i n : Nat) : (bump s p i n).perPast = s.perPast := rfl
@[simp] theorem bump_pair (s : State) (p : Page) (i n : Nat) : (bump s p i n).pair = s.pair := rfl
@[simp] theorem bump_xing (s : State) (p : Page) (i n : Nat) : (bump s p i n).xing = s.xing := rfl
@[simp] theorem bump_ioData (s : State) (p : Page) (i n : Nat) : (bump s p i n).ioData = s.ioData := rfl
@[simp] theorem bump_snp (s : State) (p : Page) (i n : Nat) : (bump s p i n).snp = s.snp := rfl
@[simp] theorem bump_groups (s : State) (p : Page) (i n : Nat) : (bump s p i n).groups = s.groups := rfl
@[simp] theorem bump_pageGrp (s : State) (p : Page) (i n : Nat) : (bump s p i n).pageGrp = s.pageGrp := rfl
@[simp] theorem bump_now (s : State) (p : Page) (i n : Nat) : (bump s p i n).now = s.now := rfl
@[simp] theorem bump_stitch (s : State) (p : Page) (i n : Nat) : (bump s p i n).stitch = s.stitch := rfl
@[simp] theorem bump_epoch (s : State) (p : Page) (i n : Nat) : (bump s p i n).epoch = s.epoch := rfl
@[simp] theorem bump_bndAt (s : State) (p : Page) (i n : Nat) : (bump s p i n).bndAt = s.bndAt := rfl
@[simp] theorem bump_nextBnd (s : State) (p : Page) (i n : Nat) : (bump s p i n).nextBnd = s.nextBnd := rfl
@[simp] theorem bump_closed (s : State) (p : Page) (i n : Nat) : (bump s p i n).closed = s.closed := rfl
@[simp] theorem bump_sleepDue (s : State) (p : Page) (i n : Nat) : (bump s p i n).sleepDue = s.sleepDue := rfl
@[simp] theorem bump_perReq (s : State) (p : Page) (i n : Nat) : (bump s p i n).perReq = s.perReq := rfl
@[simp] theorem bump_fenceLog (s : State) (p : Page) (i n : Nat) : (bump s p i n).fenceLog = s.fenceLog := rfl
@[simp] theorem bump_irqLevel (s : State) (p : Page) (i n : Nat) : (bump s p i n).irqLevel = s.irqLevel := rfl
@[simp] theorem bump_msgs (s : State) (p : Page) (i n : Nat) : (bump s p i n).msgs = s.msgs := rfl
@[simp] theorem bump_msixPend (s : State) (p : Page) (i n : Nat) : (bump s p i n).msixPend = s.msixPend := rfl
@[simp] theorem bump_msixMask (s : State) (p : Page) (i n : Nat) : (bump s p i n).msixMask = s.msixMask := rfl
@[simp] theorem bump_msixTab (s : State) (p : Page) (i n : Nat) : (bump s p i n).msixTab = s.msixTab := rfl
@[simp] theorem bump_fresh (s : State) (p : Page) (i n : Nat) : (bump s p i n).fresh = s.fresh := rfl
@[simp] theorem bump_lane (s : State) (p : Page) (i n : Nat) : (bump s p i n).lane = s.lane := rfl
@[simp] theorem bump_laneFuse (s : State) (p : Page) (i n : Nat) : (bump s p i n).laneFuse = s.laneFuse := rfl
@[simp] theorem bump_ecc (s : State) (p : Page) (i n : Nat) : (bump s p i n).ecc = s.ecc := rfl
@[simp] theorem bump_scan (s : State) (p : Page) (i n : Nat) : (bump s p i n).scan = s.scan := rfl
@[simp] theorem bump_clsMap (s : State) (p : Page) (i n : Nat) : (bump s p i n).clsMap = s.clsMap := rfl
@[simp] theorem bump_fil (s : State) (p : Page) (i n : Nat) : (bump s p i n).fil = s.fil := rfl
@[simp] theorem bump_learnFilt (s : State) (p : Page) (i n : Nat) : (bump s p i n).learnFilt = s.learnFilt := rfl
@[simp] theorem bump_learnFly (s : State) (p : Page) (i n : Nat) : (bump s p i n).learnFly = s.learnFly := rfl
@[simp] theorem bump_learnSeq (s : State) (p : Page) (i n : Nat) : (bump s p i n).learnSeq = s.learnSeq := rfl
@[simp] theorem bump_learnPan (s : State) (p : Page) (i n : Nat) : (bump s p i n).learnPan = s.learnPan := rfl
@[simp] theorem bump_filHold (s : State) (p : Page) (i n : Nat) : (bump s p i n).filHold = s.filHold := rfl
@[simp] theorem bump_filWait (s : State) (p : Page) (i n : Nat) : (bump s p i n).filWait = s.filWait := rfl
@[simp] theorem bump_vlanWr (s : State) (p : Page) (i n : Nat) : (bump s p i n).vlanWr = s.vlanWr := rfl
@[simp] theorem bump_dram (s : State) (p : Page) (i n : Nat) : (bump s p i n).dram = s.dram := rfl
@[simp] theorem bump_poison (s : State) (p : Page) (i n : Nat) : (bump s p i n).poison = s.poison := rfl
@[simp] theorem bump_spareBlank (s : State) (p : Page) (i n : Nat) : (bump s p i n).spareBlank = s.spareBlank := rfl
@[simp] theorem bump_perOld (s : State) (p : Page) (i n : Nat) : (bump s p i n).perOld = s.perOld := rfl
@[simp] theorem bump_leapLast (s : State) (p : Page) (i n : Nat) : (bump s p i n).leapLast = s.leapLast := rfl
@[simp] theorem bump_ctx (s : State) (p : Page) (i n : Nat) : (bump s p i n).ctx = s.ctx := rfl
@[simp] theorem bump_lru (s : State) (p : Page) (i n : Nat) : (bump s p i n).lru = s.lru := rfl
@[simp] theorem bump_evq (s : State) (p : Page) (i n : Nat) : (bump s p i n).evq = s.evq := rfl
@[simp] theorem bump_skStaged (s : State) (p : Page) (i n : Nat) : (bump s p i n).skStaged = s.skStaged := rfl
@[simp] theorem bump_skLat (s : State) (p : Page) (i n : Nat) : (bump s p i n).skLat = s.skLat := rfl
@[simp] theorem bump_skOvl (s : State) (p : Page) (i n : Nat) : (bump s p i n).skOvl = s.skOvl := rfl
@[simp] theorem bump_bob (s : State) (p : Page) (i n : Nat) : (bump s p i n).bob = s.bob := rfl
@[simp] theorem bump_rs (s : State) (p : Page) (i n : Nat) : (bump s p i n).rs = s.rs := rfl
@[simp] theorem bump_tm (s : State) (p : Page) (i n : Nat) : (bump s p i n).tm = s.tm := rfl
@[simp] theorem bump_smp (s : State) (p : Page) (i n : Nat) : (bump s p i n).smp = s.smp := rfl
@[simp] theorem bump_ald (s : State) (p : Page) (i n : Nat) : (bump s p i n).ald = s.ald := rfl
@[simp] theorem bump_ndl (s : State) (p : Page) (i n : Nat) : (bump s p i n).ndl = s.ndl := rfl
@[simp] theorem bump_pwr (s : State) (p : Page) (i n : Nat) : (bump s p i n).pwr = s.pwr := rfl
@[simp] theorem bump_mor (s : State) (p : Page) (i n : Nat) : (bump s p i n).mor = s.mor := rfl
@[simp] theorem bump_pending (s : State) (p : Page) (i n : Nat) : (bump s p i n).pending = s.pending := rfl

end Sys2Proof.Machine
end

