-- ==== Sys2Proof/Laws/Tab.lean ====
section
/-! SUPPORT. The laws of sparse tables: a read after a write, what a write leaves alone, and the canonical form that every
write keeps. -/

namespace Sys2Proof.Machine

variable {V : Type}

@[simp] theorem tabFind_erase_same (m : Tab V) (k : Nat) : tabFind (tabErase m k) k = none := by
  induction m with
  | nil => rfl
  | cons e m ih => unfold tabErase; split <;> simp_all [tabFind]

theorem tabFind_erase_other (m : Tab V) {k j : Nat} (h : j ≠ k) : tabFind (tabErase m k) j = tabFind m j := by
  induction m with
  | nil => rfl
  | cons e m ih =>
    unfold tabErase
    split
    · rename_i he
      simp [tabFind, ih, show e.1 ≠ j by omega]
    · simp [tabFind, ih]

theorem tabFind_insert_same (m : Tab V) (k : Nat) (v : V) (h : tabFind m k = none) :
    tabFind (tabInsert m k v) k = some v := by
  induction m with
  | nil => simp [tabInsert, tabFind]
  | cons e m ih =>
    have hk : e.1 ≠ k := by intro he; simp [tabFind, he] at h
    have ht : tabFind m k = none := by simpa [tabFind, hk] using h
    unfold tabInsert
    split
    · simp [tabFind]
    · simp [tabFind, hk, ih ht]

theorem tabFind_insert_other (m : Tab V) {k j : Nat} (v : V) (h : j ≠ k) :
    tabFind (tabInsert m k v) j = tabFind m j := by
  induction m with
  | nil => simp [tabInsert, tabFind, show k ≠ j by omega]
  | cons e m ih =>
    unfold tabInsert
    split
    · simp [tabFind, show k ≠ j by omega]
    · simp [tabFind, ih]

/-! ### The canonical form -/

theorem tabRising_mono {b c : Nat} {m : Tab V} (h : b ≤ c) (hm : tabRising (some c) m = true) :
    tabRising (some b) m = true := by
  cases m with
  | nil => rfl
  | cons e m =>
    simp only [tabRising, Bool.and_eq_true, decide_eq_true_eq] at hm ⊢
    exact ⟨by omega, hm.2⟩

theorem tabRising_none {b : Nat} {m : Tab V} (hm : tabRising (some b) m = true) : tabRising none m = true := by
  cases m with
  | nil => rfl
  | cons e m => simp_all [tabRising]

theorem tabRising_erase {b : Option Nat} {m : Tab V} (k : Nat) (hm : tabRising b m = true) :
    tabRising b (tabErase m k) = true := by
  induction m generalizing b with
  | nil => exact hm
  | cons e m ih =>
    have ht : tabRising (some e.1) m = true := by cases b <;> simp_all [tabRising]
    unfold tabErase
    split
    · cases b with
      | none => exact tabRising_none (ih ht)
      | some b =>
        simp only [tabRising, Bool.and_eq_true, decide_eq_true_eq] at hm
        exact tabRising_mono (by omega) (ih ht)
    · cases b with
      | none => simpa [tabRising] using ih ht
      | some b => simp [tabRising] at hm ⊢; exact ⟨hm.1, ih ht⟩

theorem tabRising_insert {b : Option Nat} {m : Tab V} {k : Nat} {v : V} (hb : ∀ c, b = some c → c < k)
    (hk : tabFind m k = none) (hm : tabRising b m = true) : tabRising b (tabInsert m k v) = true := by
  induction m generalizing b with
  | nil => cases b <;> simp_all [tabInsert, tabRising]
  | cons e m ih =>
    have he : e.1 ≠ k := by intro h; simp [tabFind, h] at hk
    have hf : tabFind m k = none := by simpa [tabFind, he] using hk
    have ht : tabRising (some e.1) m = true := by cases b <;> simp_all [tabRising]
    unfold tabInsert
    split
    · cases b <;> simp_all [tabRising]
    · have := ih (b := some e.1) (by intro c hc; cases hc; omega) hf ht
      cases b <;> simp_all [tabRising]

theorem mem_tabErase {m : Tab V} {k : Nat} {e : Nat × V} (h : e ∈ tabErase m k) : e ∈ m := by
  induction m with
  | nil => exact h
  | cons f m ih =>
    unfold tabErase at h
    split at h
    · exact List.mem_cons_of_mem _ (ih h)
    · rcases List.mem_cons.mp h with h | h
      · exact h ▸ List.mem_cons_self
      · exact List.mem_cons_of_mem _ (ih h)

theorem mem_tabInsert {m : Tab V} {k : Nat} {v : V} {e : Nat × V} (h : e ∈ tabInsert m k v) :
    e = (k, v) ∨ e ∈ m := by
  induction m with
  | nil => simpa [tabInsert] using h
  | cons f m ih =>
    unfold tabInsert at h
    split at h
    · simpa using h
    · rcases List.mem_cons.mp h with h | h
      · exact .inr (h ▸ List.mem_cons_self)
      · rcases ih h with h | h
        · exact .inl h
        · exact .inr (List.mem_cons_of_mem _ h)

variable [DecidableEq V]

/-- A table gives back what was written last. -/
@[simp] theorem tabGet_put_same (m : Tab V) (d : V) (k : Nat) (v : V) : tabGet (tabPut m d k v) d k = v := by
  unfold tabGet tabPut
  split
  · next h => simp [h]
  · simp [tabFind_insert_same]

/-- A write leaves every other number alone. -/
theorem tabFind_put_other (m : Tab V) (d : V) {k j : Nat} (v : V) (h : j ≠ k) :
    tabFind (tabPut m d k v) j = tabFind m j := by
  unfold tabPut
  split <;> simp [tabFind_erase_other, tabFind_insert_other, h]

theorem tabGet_put_other (m : Tab V) (d d' : V) {k j : Nat} (v : V) (h : j ≠ k) :
    tabGet (tabPut m d k v) d' j = tabGet m d' j := by
  simp [tabGet, tabFind_put_other, h]

/-- Every write keeps the canonical form: numbers strictly rising, no value equal to what an unlisted number reads as. -/
theorem tabWf_put {d : Nat → V} {m : Tab V} {k : Nat} (v : V) (hm : tabWf d m = true) :
    tabWf d (tabPut m (d k) k v) = true := by
  simp only [tabWf, Bool.and_eq_true, List.all_eq_true, decide_eq_true_eq] at hm ⊢
  unfold tabPut
  split
  · exact ⟨tabRising_erase k hm.1, fun e he => hm.2 e (mem_tabErase he)⟩
  · next hv =>
    refine ⟨tabRising_insert (by simp) (tabFind_erase_same m k) (tabRising_erase k hm.1), fun e he => ?_⟩
    rcases mem_tabInsert he with rfl | he
    · exact hv
    · exact hm.2 e (mem_tabErase he)

end Sys2Proof.Machine
end

