-- ==== Sys2Proof/Laws/Ops.lean ====
section
/-! SUPPORT. What each shared operation can do, said once: a read after a write, what stays, and which parts of State
an operation touches. -/

namespace Sys2Proof.Machine

/-! ### Register fields -/

/-- A field reads what was written, cut to its width. -/
@[simp] theorem rd_wr_same (s : State) (p : Page) (f : Field) (v : Nat) : rd (wr s p f v) p f = trunc f.width v := by
  simp [rd, wr]

/-- A write leaves every field of another number alone. -/
theorem rd_wr_other (s : State) {p q : Page} {f g : Field} (v : Nat) (h : fieldKey q g ≠ fieldKey p f) :
    rd (wr s p f v) q g = rd s q g := by
  simp [rd, wr, tabGet_put_other, h]

@[simp] theorem cfg_wr (s : State) (p q : Page) (f g : Field) (v : Nat) : cfg (wr s p f v) q g = cfg s q g := rfl
@[simp] theorem bk_wr (s : State) (p q : Page) (f g : Field) (v : Nat) : bk (wr s p f v) q g = bk s q g := rfl
@[simp] theorem shw_wr (s : State) (p q : Page) (f g : Field) (v : Nat) : shw (wr s p f v) q g = shw s q g := rfl
@[simp] theorem ltc_wr (s : State) (p q : Page) (f g : Field) (v : Nat) : ltc (wr s p f v) q g = ltc s q g := rfl

@[simp] theorem cfg_wrAct_same (s : State) (p : Page) (f : Field) (v : Nat) :
    cfg (wrAct s p f v) p f = trunc f.width v := by
  simp [cfg, wrAct]

@[simp] theorem shw_wrShd_same (s : State) (p : Page) (f : Field) (v : Nat) :
    shw (wrShd s p f v) p f = trunc f.width v := by
  simp [shw, wrShd]

@[simp] theorem bk_wrBlk_same (s : State) (p : Page) (f : Field) (v : Nat) :
    bk (wrBlk s p f v) p f = trunc f.width v := by
  simp [bk, wrBlk]

/-! ### Table words and counters -/

@[simp] theorem word_putWord_same (s : State) (p : Page) (n w v : Nat) :
    word (putWord s p n w v) p n w = trunc 32 v := by
  simp [word, putWord]

@[simp] theorem wordS_putWordS_same (s : State) (p : Page) (n w v : Nat) :
    wordS (putWordS s p n w v) p n w = trunc 32 v := by
  simp [wordS, putWordS]

@[simp] theorem counter_bump_same (s : State) (p : Page) (i n : Nat) :
    counter (bump s p i n) p i = trunc 64 (counter s p i + n) := by
  simp [counter, bump]

theorem counter_bump_other (s : State) {p q : Page} {i j : Nat} (n : Nat) (h : cntKey q j ≠ cntKey p i) :
    counter (bump s p i n) q j = counter s q j := by
  simp [counter, bump, tabGet_put_other, h]

@[simp] theorem counter_wr (s : State) (p q : Page) (f : Field) (v i : Nat) :
    counter (wr s p f v) q i = counter s q i := rfl
@[simp] theorem rd_bump (s : State) (p q : Page) (i n : Nat) (f : Field) : rd (bump s p i n) q f = rd s q f := rfl
@[simp] theorem cfg_bump (s : State) (p q : Page) (i n : Nat) (f : Field) : cfg (bump s p i n) q f = cfg s q f := rfl

/-! ### Vector 0 (R522) -/

/-- Sending a message touches only the record of messages and the pending bits. -/
theorem sendMsix_frame (s : State) (f v : Nat) :
    { sendMsix s f v with msgs := s.msgs, msixPend := s.msixPend } = s := by
  unfold sendMsix; split <;> rfl

/-- Following the conditions of vector 0 touches nothing but its level, its messages and its pending bit. -/
theorem irqUpdate_frame (s : State) (f : Nat) :
    { irqUpdate s f with irqLevel := s.irqLevel, msgs := s.msgs, msixPend := s.msixPend } = s := by
  unfold irqUpdate sendMsix; dsimp only; split <;> (try split) <;> rfl

theorem irqPage_frame (s : State) (p : Page) :
    { irqPage s p with irqLevel := s.irqLevel, msgs := s.msgs, msixPend := s.msixPend } = s := by
  unfold irqPage; dsimp only; split
  · exact irqUpdate_frame s 0
  · have h1 := irqUpdate_frame s (irqFnAt (pageBase p))
    have h2 := irqUpdate_frame (irqUpdate s (irqFnAt (pageBase p))) 0
    generalize irqUpdate s (irqFnAt (pageBase p)) = u at h1 h2 ⊢
    generalize irqUpdate u 0 = v at h2 ⊢
    rw [← h1, ← h2]

/-- Setting a sticky bit touches that bit and the interrupt of vector 0. -/
theorem stick_frame (s : State) (p : Page) (f : Field) :
    { stick s p f with reg := s.reg, irqLevel := s.irqLevel, msgs := s.msgs, msixPend := s.msixPend } = s := by
  have h := irqPage_frame (wr s p f 1) p
  unfold stick
  generalize irqPage (wr s p f 1) p = u at h ⊢
  have h' := congrArg (fun x : State => { x with reg := s.reg }) h
  exact h'

@[simp] theorem irqPage_reg (s : State) (p : Page) : (irqPage s p).reg = s.reg := by
  have h := congrArg State.reg (irqPage_frame s p); exact h

@[simp] theorem stick_reg (s : State) (p : Page) (f : Field) : (stick s p f).reg = (wr s p f 1).reg := by
  simp [stick]

@[simp] theorem rd_irqPage (s : State) (p q : Page) (g : Field) : rd (irqPage s p) q g = rd s q g := by simp [rd]

theorem rd_stick (s : State) (p q : Page) (f g : Field) : rd (stick s p f) q g = rd (wr s p f 1) q g := by simp [rd]

end Sys2Proof.Machine
end

