-- ==== Sys2Proof/Laws/Dram.lean ====
section
/-! SUPPORT. The DRAM's bytes: every operation on them keeps the canonical form, and reset has it. -/

namespace Sys2Proof.Machine

theorem reset_memory_wf : Memory.wf State.reset.dram = true := rfl

theorem dramPut_wf (bs : List Nat) : ∀ (s : State) (a : Nat), Memory.wf s.dram = true →
    Memory.wf (dramPut s a bs).dram = true := by
  induction bs with
  | nil => exact fun s a h => h
  | cons b bs ih => exact fun s a h => ih _ _ (tabWf_put (BitVec.ofNat 8 b) h)

theorem dramChunk_wf (s : State) (a : Nat) (bs : List Nat) (h : Memory.wf s.dram = true) :
    Memory.wf (dramChunk s a bs).dram = true := by
  unfold dramChunk
  split
  · exact h
  · split
    · exact dramPut_wf _ _ _ h
    · split
      · exact h
      · exact dramPut_wf _ _ _ h

theorem dramWriteLoop_wf (n : Nat) : ∀ (s : State) (a : Nat) (bs : List Nat), Memory.wf s.dram = true →
    Memory.wf (dramWriteLoop n s a bs).dram = true := by
  induction n with
  | zero => exact fun s a bs h => h
  | succ n ih =>
    intro s a bs h
    unfold dramWriteLoop
    split
    · exact h
    · exact ih _ _ _ (dramChunk_wf s a _ h)

/-- A write of bytes keeps the canonical form. -/
theorem dramWrite_wf (s : State) (a : Nat) (bs : List Nat) (h : Memory.wf s.dram = true) :
    Memory.wf (dramWrite s a bs).dram = true := dramWriteLoop_wf _ s a bs h

/-- A byte written without regard to poison reads back. -/
theorem dramRead_put_one (s : State) (a b : Nat) : dramRead (dramPut s a [b]) a 1 = [b % 256] := by
  simp [dramRead, dramPut]

/-- Bytes written from `a` upwards leave every lower address as it was. -/
theorem dramPut_below (bs : List Nat) : ∀ (s : State) (a c : Nat), c < a →
    tabGet (dramPut s a bs).dram 0#8 c = tabGet s.dram 0#8 c := by
  induction bs with
  | nil => exact fun s a c _ => rfl
  | cons b bs ih =>
    intro s a c h
    rw [dramPut, ih _ _ _ (Nat.lt_succ_of_lt h)]
    exact tabGet_put_other _ _ _ _ (Nat.ne_of_lt h)

end Sys2Proof.Machine
end

