-- ==== Sys2Proof/Machine/Package.lean ====
section
/-! DEFINITION. The package (chapter 19): which ball carries what, and the figures of its tables. Nothing here changes
State: these are facts that hold of the device in every state. Voltages are in mV, currents in mA, powers in mW,
temperatures in tenths of a degree, times in ns, frequencies in kHz, lengths in µm. -/

namespace Sys2Proof.Machine

/-! ### Package (R572) -/

/-- Table 19.1. -/
structure PackageFigures where
  bodyUm : Nat := 105_000
  bodyTolUm : Nat := 150
  rows : Nat := 105
  columns : Nat := 105
  pitchUm : Nat := 1_000
  ballUm : Nat := 600
  seatedUm : Nat := 5_200
  lidUm : Nat := 100_000
  lidFlatUm : Nat := 60
  coplanarityUm : Nat := 200
  massG : Nat := 145
  moistureLevel : Nat := 3
  reflowPeak : Nat := 2_500
  reflowCycles : Nat := 2
  deriving DecidableEq, Repr

/-! ### Ball map (R573 to R577) -/

/-- The supply rails (Table 19.6). -/
inductive Rail where
  | vcoreP (n : Nat)
  | vcoreC
  | vaon
  | vlane
  | vlaneh
  | vdd1
  | vdd2
  | vddq
  | vio
  deriving DecidableEq, Repr

/-- The signals of the signal block (Table 19.4). Of a management bus the wires are SCL, SDA and ALERT_N, of AVSBus the
clock, MDATA and SDATA. -/
inductive Signal where
  | pcieTx (n : Bool) (j : Nat)
  | pcieRx (n : Bool) (j : Nat)
  | pcieRefclk (n : Bool)
  | perst
  | pcieWake
  | laneRefclk (n : Bool) (j : Nat)
  | osc (c : Nat)
  | aonClk
  | evtIn (j : Nat)
  | ppsIn
  | pulseOut (j : Nat)
  | ppsOut
  | gpio (j : Nat)
  | uartTxd
  | uartRxd
  | smb (port wire : Nat)
  | pmb (port wire : Nat)
  | avs (wire : Nat)
  | qspiClk
  | qspiCs
  | qspiIo (j : Nat)
  | tck
  | tms
  | tdi
  | tdo
  | trst
  | resetN
  | thermTrip
  | aldMgrSel
  deriving DecidableEq, Repr

/-- What a ball carries: a wire of a physical lane (of its transmitter or its receiver, the N or the P wire), a rail,
ground, a signal, or nothing. -/
inductive Ball where
  | lane (l : Nat) (tx neg : Bool)
  | rail (r : Rail)
  | vss
  | signal (x : Signal)
  | rsvd
  deriving DecidableEq, Repr

/-- The regions of Table 19.2. -/
inductive Region where
  | band (edge : Nat)
  | ring
  | core
  | block
  deriving DecidableEq, Repr

/-- The region of the ball in a row and a column, both from 1 to 105 (R573). -/
def regionOf (r c : Nat) : Region :=
  if r ≤ 18 ∧ c ≤ 87 then .band 0
  else if r ≤ 87 ∧ 88 ≤ c then .band 1
  else if 88 ≤ r ∧ 19 ≤ c then .band 2
  else if c ≤ 18 then .band 3
  else if 45 ≤ r ∧ r ≤ 61 ∧ 45 ≤ c ∧ c ≤ 61 then .block
  else if 27 ≤ r ∧ r ≤ 79 ∧ 27 ≤ c ∧ c ≤ 79 then .core
  else .ring

/-- The row and the column at depth `a` and position `b` of an edge band (R574). -/
def bandBall (e a b : Nat) : Nat × Nat :=
  match e with
  | 0 => (a, b)
  | 1 => (b, 106 - a)
  | 2 => (106 - a, 106 - b)
  | _ => (106 - b, a)

/-- The depth and the position of a ball in an edge band: `bandBall` turned round. -/
def bandOffsets (e r c : Nat) : Nat × Nat :=
  match e with
  | 0 => (r, c)
  | 1 => (106 - c, r)
  | 2 => (106 - r, 106 - c)
  | _ => (c, 106 - r)

/-- Where a wire of physical lane `l` lies: 0 P, 1 N, 2 the shield (R574). -/
def laneBall (l : Nat) (tx : Bool) (wire : Nat) : Nat × Nat :=
  let i := l % 256
  bandBall (l / 256) (2 * (i / 29) + (if tx then 1 else 2)) (3 * (i % 29) + 1 + wire)

/-- What the ball at depth `a` and position `b` of edge band `e` carries (R574). -/
def bandCarries (e a b : Nat) : Ball :=
  let i := 29 * ((a - 1) / 2) + (b - 1) / 3
  let wire := (b - 1) % 3
  if 256 ≤ i ∨ wire = 2 then .vss else .lane (256 * e + i) (a % 2 == 1) (wire == 1)

/-- The layer of a ball of the lane supply ring, and what it carries (R575). -/
def ringLayer (r c : Nat) : Nat := min (min (r - 19) (c - 19)) (min (87 - r) (87 - c))
def ringCarries (r c : Nat) : Ball :=
  let j := ringLayer r c
  if j % 2 = 1 then .vss else if j = 6 then .rail .vlaneh else .rail .vlane

/-- What a ball of the core carries (R576). -/
def coreCarries (r c : Nat) : Ball :=
  if (r + c) % 2 = 1 then .vss
  else if r ≤ 44 ∨ 62 ≤ r then
    if c = 79 then .rail .vcoreC else .rail (.vcoreP ((c - 27) / 13 + (if 62 ≤ r then 4 else 0)))
  else if c ≤ 44 then .rail .vcoreC
  else if c ≤ 67 then .rail .vdd2
  else if c ≤ 73 then .rail .vddq
  else if c ≤ 75 then .rail .vdd1
  else if c ≤ 77 then .rail .vio
  else .rail .vaon

/-- Row 058 of the signal block: the management buses. -/
def busBall (j : Nat) : Ball :=
  if j < 6 then .signal (.smb (j / 3) (j % 3))
  else if j < 12 then .signal (.pmb ((j - 6) / 3) (j % 3))
  else if j < 15 then .signal (.avs (j - 12))
  else .rsvd

/-- Row 059 of the signal block: flash, JTAG and control. -/
def controlBall (j : Nat) : Ball :=
  match j with
  | 0 => .signal .qspiClk
  | 1 => .signal .qspiCs
  | 2 | 3 | 4 | 5 => .signal (.qspiIo (j - 2))
  | 6 => .signal .tck
  | 7 => .signal .tms
  | 8 => .signal .tdi
  | 9 => .signal .tdo
  | 10 => .signal .trst
  | 11 => .signal .resetN
  | 12 => .signal .thermTrip
  | 13 => .signal .aldMgrSel
  | _ => .rsvd

/-- Column 061 of the signal block. -/
def lastColumn (r : Nat) : Ball :=
  match r with
  | 45 => .signal (.pcieRefclk false)
  | 46 => .signal (.pcieRefclk true)
  | 48 => .signal .perst
  | 49 => .signal .pcieWake
  | 51 => .signal (.osc 0)
  | 52 => .signal (.osc 1)
  | 54 => .signal .ppsIn
  | 55 => .signal .ppsOut
  | 56 => .signal .uartTxd
  | 57 => .signal .uartRxd
  | 47 | 50 | 53 => .vss
  | _ => .rsvd

/-- What a ball of the signal block carries (R577). -/
def blockCarries (r c : Nat) : Ball :=
  let j := c - 45
  if j = 16 then lastColumn r
  else match r with
  | 45 => .signal (.pcieTx false j)
  | 46 => .signal (.pcieTx true j)
  | 48 => .signal (.pcieRx false j)
  | 49 => .signal (.pcieRx true j)
  | 51 => .signal (.laneRefclk false j)
  | 52 => .signal (.laneRefclk true j)
  | 53 => if j = 0 then .signal (.osc 2) else if j = 1 then .signal .aonClk else .vss
  | 54 => .signal (.evtIn j)
  | 55 => .signal (.pulseOut j)
  | 56 => .signal (.gpio j)
  | 57 => .signal (.gpio (16 + j))
  | 58 => busBall j
  | 59 => controlBall j
  | 47 | 50 => .vss
  | _ => .rsvd

/-- What the ball in row `r` and column `c` carries. -/
def ballAt (r c : Nat) : Ball :=
  match regionOf r c with
  | .band e => let o := bandOffsets e r c; bandCarries e o.1 o.2
  | .ring => ringCarries r c
  | .core => coreCarries r c
  | .block => blockCarries r c

/-- How many balls of a row, and of the array, carry what `p` asks for (Table 19.5). -/
def rowBalls (p : Ball → Bool) (r : Nat) : Nat := ((List.range 105).filter (fun c => p (ballAt r (c + 1)))).length
def balls (p : Ball → Bool) : Nat := ((List.range 105).map (fun r => rowBalls p (r + 1))).sum

/-! ### Rails (R578 to R582, R588) -/

/-- The current for which a rail with `connected` balls is rated (R578). -/
def ratedMa (connected : Nat) : Nat := 1_200 * connected

/-- A row of Table 19.6 and of Table 19.12: nominal, lowest and highest voltage, typical and largest current, and the
highest voltage that does no damage. -/
structure RailFigures where
  nominal : Nat
  low : Nat
  high : Nat
  typical : Nat
  largest : Nat
  ratingHigh : Nat
  deriving DecidableEq, Repr

/-- The figures of a rail; those of VCORE_Pn at the level that sets `set` mV (R579, R588). -/
def railFigures (set : Nat) : Rail → RailFigures
  | .vcoreP _ => ⟨set, set - set / 40, set + set / 40, 99_500, 121_000, 950⟩
  | .vcoreC => ⟨800, 776, 824, 172_500, 200_000, 950⟩
  | .vaon => ⟨800, 760, 840, 500, 1_000, 950⟩
  | .vlane => ⟨750, 735, 765, 600_000, 720_000, 900⟩
  | .vlaneh => ⟨1_200, 1_164, 1_236, 94_200, 126_000, 1_400⟩
  | .vdd1 => ⟨1_800, 1_700, 1_950, 2_000, 2_500, 2_100⟩
  | .vdd2 => ⟨1_100, 1_060, 1_170, 22_000, 28_000, 1_400⟩
  | .vddq => ⟨600, 570, 650, 20_000, 25_000, 800⟩
  | .vio => ⟨1_800, 1_710, 1_890, 900, 1_800, 2_100⟩

/-- Every rail of the device. -/
def rails : List Rail :=
  (List.range 8).map .vcoreP ++ [.vcoreC, .vaon, .vlane, .vlaneh, .vdd1, .vdd2, .vddq, .vio]

/-- The power that the rails take at P0, in µW: typical and largest (R579). -/
def typicalPower : Nat := (rails.map (fun r => (railFigures 800 r).nominal * (railFigures 800 r).typical)).sum
def largestPower : Nat := (rails.map (fun r => (railFigures 800 r).nominal * (railFigures 800 r).largest)).sum

/-- The AVSBus rail select of a panel, the voltage its regulator starts at, the largest move of a level change, and the
current step of one (R580). -/
def avsRail (n : Nat) : Option Nat := if n < 8 then some n else none
def regulatorStart : Nat := 800
def levelMoveMv : Nat := 150
def levelStepMa : Nat := 60_000

/-- The step of Table 19.7 at which a rail rises, and its place within the step (R581). -/
def powerUpStep : Rail → Nat × Nat
  | .vaon => (1, 0)
  | .vdd1 | .vio => (2, 0)
  | .vcoreP _ | .vcoreC => (3, 0)
  | .vdd2 => (4, 0)
  | .vddq => (4, 1)
  | .vlane => (5, 0)
  | .vlaneh => (5, 1)

/-- Whether a rail rises before another: in an earlier step, or earlier within the step. -/
def risesBefore (x y : Rail) : Bool :=
  let a := powerUpStep x
  let b := powerUpStep y
  decide (a.1 < b.1) || (a.1 == b.1 && decide (a.2 < b.2))

/-- Whether a rail may rise where those of `up` are in regulation (R581), and fall where those of `up` still are
(R582). -/
def mayRise (up : List Rail) (r : Rail) : Bool := rails.all (fun x => !risesBefore x r || up.contains x)
def mayFall (up : List Rail) (r : Rail) : Bool := rails.all (fun x => !risesBefore r x || !up.contains x)

/-- The bounds between rails that rise together: VDDQ under VDD2, and VLANEH no more than 0.50 V above VLANE while
VLANE is below regulation (R581). -/
def vddqAllowed (vdd2 vddq : Nat) : Bool := decide (vddq ≤ vdd2)
def vlanehAllowed (vlane vlaneh : Nat) : Bool := decide ((railFigures 0 .vlane).low ≤ vlane) || decide (vlaneh ≤ vlane + 500)

/-- The shortest and the longest ramp of a rail, the time in which AON_CLK runs, the time of a cold reset after the last
rail, and the time in which a rail falls to 10 % (R581, R582). -/
def rampNs : Nat × Nat := (100_000, 20_000_000)
def aonClkNs : Nat := 1_000_000
def coldResetNs : Nat := 300_000_000
def railFallNs : Nat := 50_000_000

/-! ### Pins (R583, R585, R587, R588) -/

/-- Groups of balls while their rail is down (Table 19.8). -/
inductive TolerantGroup where
  | laneBalls
  | pcieBalls
  | perstWake
  | buses
  | otherVio
  | refclkInputs
  deriving DecidableEq, Repr

/-- The largest voltage that a group tolerates while its rail is down (none where the PCIe specification says it), and
the current in nA that it draws at most (R583). -/
def tolerates : TolerantGroup → Option Nat × Nat
  | .laneBalls => (some 1_300, 100_000)
  | .pcieBalls => (none, 100_000)
  | .perstWake => (some 3_600, 10_000)
  | .buses => (some 3_600, 10_000)
  | .otherVio => (some 1_980, 10_000)
  | .refclkInputs => (some 1_200, 100_000)

/-- The coupling capacitor of a lane ball in nF, least and most (R583). -/
def couplingNf : Nat × Nat := (100, 220)

/-- Whether a low pulse on RESET_N is long enough to reset the device (R585, Table 19.13). -/
def resetPulse (ns : Nat) : Bool := decide (1_000 ≤ ns)

/-- The levels of signals on VIO, at `vio` mV (Table 19.11): inputs, open-drain inputs, outputs. -/
def inputHigh (vio mv : Nat) : Bool := decide (65 * vio ≤ 100 * mv) && decide (mv ≤ vio + 300)
def inputLow (vio mv : Nat) : Bool := decide (100 * mv ≤ 35 * vio)
def openDrainHigh (mv : Nat) : Bool := decide (1_350 ≤ mv) && decide (mv ≤ 3_600)
def openDrainLow (mv : Nat) : Bool := decide (mv ≤ 800)
def outputHigh (vio mv : Nat) : Bool := decide (vio ≤ mv + 450)
def outputLow (mv : Nat) : Bool := decide (mv ≤ 400)

/-- The other rows of Table 19.11: hysteresis in mV, leakage in nA, pull resistance in kΩ, the drive of the pulse outputs
in mA and the input capacitance in pF. -/
def hysteresisMv : Nat := 100
def leakageNa : Nat := 10_000
def pullKohm : Nat × Nat := (35, 75)
def pulseDriveMa : Nat := 8
def inputPf : Nat := 5

/-- Table 19.12 but for the rails: the lowest voltage of any rail in mV, the highest junction temperature, the storage
temperatures, and what the balls stand of discharge in V (R588). -/
def ratingLowMv : Int := -300
def ratingTj : Int := 1_250
def storage : Int × Int := (-550, 1_250)
def esdHuman : Nat := 1_000
def esdDevice : Nat := 250

/-! ### Clocks and interfaces (R586, R589, R590) -/

/-- The LANE_REFCLK that serves a lane, and the hoops that one serves (R586). -/
def laneRefclkOf (l : Nat) : Nat := l / 64
def refclkHoops (j : Nat) : List Nat := [2 * j, 2 * j + 1]

/-- The frequency of a reference clock in kHz and its accuracy in ppb (Table 19.10); an oscillator runs at 10 or
25 MHz. -/
def laneRefclkKhz : Nat × Nat := (156_250, 100_000)
def pcieRefclkKhz : Nat × Nat := (100_000, 300_000)
def aonClkKhz : Nat × Nat := (25_000, 50_000)
def oscKhz (fast : Bool) : Nat × Nat := (if fast then 25_000 else 10_000, 4_600)

/-- The frequencies of the management interfaces in kHz, least where one is given and most (Table 19.13). -/
def smbKhz : Nat := 1_000
def pmbKhz : Nat × Nat := (90, 400)
def avsKhz : Nat := 25_000
def jtagKhz : Nat := 25_000
def uartBaud : Nat := 115_200

/-- The frequency of QSPI_CLK and the lanes of command, address and data: 1-1-1 until the header of the copy to boot is
verified, then 1-4-4 (R589, R590). -/
def qspiKhz (verified : Bool) : Nat := if verified then 100_000 else 25_000
def qspiLanes (verified : Bool) : Nat × Nat × Nat := if verified then (1, 4, 4) else (1, 1, 1)

/-- The other rows of Table 19.13, in tenths of a nanosecond: setup, output hold and stretch of an SMBus target and its
timeout; output, setup and hold of AVSBus, of QSPI and of JTAG. -/
def smbSetup : Nat := 500
def smbHold : Nat × Nat := (0, 4_500)
def smbStretch : Nat := 10_000_000
def smbTimeout : Nat × Nat := (250_000_000, 350_000_000)
def avsTiming : Nat × Nat × Nat := (80, 50, 30)
def qspiTiming : Nat × Nat × Nat := (25, 20, 10)
def jtagTiming : Nat × Nat × Nat := (120, 50, 50)

/-- The flash that the device needs, and where the copies of the image lie (R590). -/
def flashBytes : Nat := 32 * 2 ^ 20
def imageOffset (copy : Nat) : Nat := if copy = 0 then 0 else 0x0100_0000

/-! ### Heat, power and life (R591 to R596) -/

/-- The junction temperature in µ°C over a lid at `lid` µ°C, at a power in mW (R591). -/
def junction (lid power : Nat) : Nat := lid + 12 * power
def lidAllowed (lid power : Nat) : Bool := decide (junction lid power ≤ 105_000_000)

/-- The lid in µ°C over coolant at `coolant` µ°C, for a cold plate and an interface in units of 0.001 °C/W (R592). -/
def lidOver (coolant plate interface power : Nat) : Nat := coolant + (plate + interface) * power

/-- The load of the cold plate in N: least, most, and what is not permitted; the thermal interface in 0.001 °C/W, the
lid's largest difference and the accuracy of the sensors in tenths of a degree (R591, R592). -/
def plateLoad : Nat × Nat × Nat := (400, 600, 800)
def interfaceMost : Nat := 5
def lidSpread : Nat := 60
def sensorAccuracy : Nat := 20

/-- Typical power in each state (Table 19.14): running at P0 and at P3, less what hoops in H1 and H2 save, and D3 with
`detectors` wake-pattern detectors. -/
def runningPower (p3 : Bool) (h1 h2 : Nat) : Nat := (if p3 then 740_000 else 1_380_000) - (11_000 * h1 + 35_000 * h2)
def sleepPower (detectors : Nat) : Nat := 12_000 + 3_000 + 400 + 50 + 45 * detectors

/-- The rated life in years at an average Tj, of the averages that Table 19.15 names (R594). -/
def lifeYears (tj : Nat) : Option Nat :=
  match tj with
  | 850 => some 25
  | 900 => some 19
  | 950 => some 14
  | 1_000 => some 11
  | 1_050 => some 8
  | _ => none

/-- The rest of Table 19.15: peak Tj, thermal cycles, cold starts, failure rate in FIT. -/
def peakTj : Nat := 1_050
def thermalCycles : Nat := 20_000
def coldStarts : Nat := 2_000
def failureFit : Nat := 250

/-- The screening of a code (Table 19.16): the temperatures of the final test, the hours of burn-in, whether every lane's
eye is measured, the early failures in ppm, and whether a record is kept. -/
structure Screening where
  finalTest : List Int
  burnInHours : Nat
  eyeTest : Bool
  earlyPpm : Nat
  recorded : Bool
  deriving DecidableEq, Repr

/-- The screening of the variant MX, and of M and W (R595). -/
def screening (mx : Bool) : Screening :=
  if mx then ⟨[-400, 250, 1_050], 96, true, 50, true⟩ else ⟨[250, 1_050], 0, false, 200, false⟩

/-- The burn-in of MX: Tj and the voltage of VCORE_Pn and VCORE_C (R595). -/
def burnIn : Int × Nat := (1_250, 900)

/-- The screening record of a device of variant MX, keyed by DEV_UID (R596). -/
structure ScreeningRecord where
  devUid : Nat
  burnInHours : Nat
  burnInTj : Int
  finalTests : List (Int × Bool)
  eyeMargin : List Nat
  vtrim : List Nat
  deriving DecidableEq, Repr

end Sys2Proof.Machine
end

