-- ==== Sys2Proof/Machine/Pads.lean ====
section
/-! DEFINITION. The states of the balls (R584, Table 19.9), as a view of the state: no ball holds anything that
the registers and the power state do not already say. -/

namespace Sys2Proof.Machine

/-- The groups of balls of Table 19.9. Lanes are physical lanes; pulse output 16 is PPS_OUT. -/
inductive PadGroup where
  | laneTx (l : Nat)
  | laneRx (l : Nat)
  | pcieTx
  | pulseOut (i : Nat)
  | gpio
  /-- UART_TXD, QSPI_IO, QSPI_CLK. -/
  | serial
  | qspiCs
  | thermTrip
  | pcieWake
  | alert
  | tdo
  deriving DecidableEq, Repr

/-- What Table 19.9 says of a ball. `byRule` stands for the words that leave it to its unit (per lane, per PCIe, as
programmed, driven, as needed, per IEEE 1149.1). -/
inductive PadState where
  | electricalIdle
  | highImpedance
  | terminated
  | unterminated
  | level (high : Bool)
  /-- Pulled down, or for QSPI_CS_N up, by 50 kΩ. -/
  | pulled (up : Bool)
  | held
  | released
  | byRule
  deriving DecidableEq, Repr

/-- The columns of Table 19.9, and a device without its supply, which drives nothing (R583). -/
inductive PadPhase where
  | unpowered
  | reset
  | running
  | asleep
  | woken
  deriving DecidableEq, Repr

/-- The column that holds now: the device is held in warm reset after a thermal trip (R538), sleeps in D3, or has
woken and waits for PAD_RELEASE (R549). -/
def padPhase (s : State) : PadPhase :=
  match s.pwr.supply with
  | .off => .unpowered
  | .tripped => .reset
  | .on =>
    if s.pwr.d3 = .asleep then .asleep
    else if rdB s .pwr Fld.PWR_PAD_STAT_PAD_HELD then .woken else .running

/-- The port whose wake-pattern detector listens on a physical lane, with the receive inversion that it applies (R172). -/
def detectorAt (s : State) (l : Nat) : Option (Nat × Bool) :=
  ((List.range 8).map (l / 8 * 8 + ·)).findSome? (fun n =>
    if wakeEn s n && (detOf s n).phys == l % 8 then some (n, (detOf s n).inv) else none)

/-- The bits that the detector on a physical lane decodes from the NRZ bits at its balls (R172); none where none
listens. -/
def detectorBits (s : State) (l : Nat) (xs : List Nat) : Option (List Nat) :=
  (detectorAt s l).map (fun d => if d.2 then xs.map (1 - · % 2) else xs.map (· % 2))

/-- A wake-pattern detector listens on a physical lane. -/
def detectorHears (s : State) (l : Nat) : Bool := (detectorAt s l).isSome

/-- The transmitter of a physical lane idles (R144, R150): every logical lane that drives it has RATE 0, is in power state 1
or 2, or returns its transmit stream to its receiver. -/
def txIdle (s : State) (l : Nat) : Bool :=
  (List.range 8).all (fun i =>
    let n := l / 8 * 8 + i
    rd s (.lan n) Fld.LAN_STATUS_PHYS_TX != l % 8 || laneRate s n == 0
      || rd s (.lan n) Fld.LAN_STATUS_LPM_STATE == 1 || rd s (.lan n) Fld.LAN_STATUS_LPM_STATE == 2
      || cfg s (.lan n) Fld.LAN_PAT_CTRL_LOOPBACK == 1)

/-- Table 19.9. The transmitter of a lane of a hoop that has left H2 stays in electrical idle until the hoop's own
PAD_RELEASE (R542). -/
def padState (s : State) (g : PadGroup) : PadState :=
  match padPhase s, g with
  | .unpowered, .laneRx _ => .unterminated
  | .unpowered, _ => .highImpedance
  | .reset, .laneTx _ | .reset, .pcieTx | .woken, .laneTx _ => .electricalIdle
  | .running, .laneTx l =>
    if rdB s (.hop (l / 32)) Fld.HOP_PWR_STAT_PAD_HELD || hoopFenced s (l / 32) || txIdle s l then .electricalIdle else .byRule
  | .asleep, .laneTx _ | .asleep, .pcieTx => .highImpedance
  | .reset, .laneRx _ | .woken, .laneRx _ => .terminated
  | .running, .laneRx _ => .byRule
  | .asleep, .laneRx l => if detectorHears s l then .terminated else .unterminated
  | .running, .pcieTx | .woken, .pcieTx => .byRule
  | .reset, .pulseOut i | .asleep, .pulseOut i => .level (bit (pulseWord s i 0) 3)
  | .running, .pulseOut i | .woken, .pulseOut i => .level (pulseLevel s i)
  | .reset, .gpio => .pulled false
  | .running, .gpio | .running, .serial | .running, .qspiCs => .byRule
  | .reset, .serial => .highImpedance
  | .reset, .qspiCs => .pulled true
  | .asleep, .gpio | .asleep, .serial | .asleep, .qspiCs => .held
  | .woken, .gpio | .woken, .serial | .woken, .qspiCs => .held
  | .asleep, .thermTrip | .woken, .thermTrip => .released
  | .reset, .thermTrip | .running, .thermTrip => if s.pwr.tripLow then .level false else .released
  | .reset, .pcieWake | .reset, .alert | .asleep, .alert => .released
  | .asleep, .pcieWake | .running, .pcieWake | .woken, .pcieWake => if s.pwr.wakeLow then .level false else .released
  | .running, .alert | .woken, .alert => .byRule
  | .running, .tdo => .byRule
  | .reset, .tdo | .asleep, .tdo | .woken, .tdo => .highImpedance

end Sys2Proof.Machine
end

