-- ==== Sys2Proof/Tests/Slice0.lean ====
section
/-! SUPPORT. The model's own tests: for every check of well-formedness a term that it refuses; for every obligation states
that meet the hypotheses of its clauses; and results worked out by hand from the spec. -/

namespace Sys2Proof.Tests

open Sys2Proof.Machine Sys2Proof.Safety

set_option Elab.async false

/-- A state with register fields set: those that the device or a write sets directly, and those in force. -/
def lay (ro act : List (Page × Field × Nat)) (s : State := State.reset) : State :=
  act.foldl (fun s x => wrAct s x.1 x.2.1 x.2.2) (ro.foldl (fun s x => wr s x.1 x.2.1 x.2.2) s)

/-- A state with RW values in their blocks. -/
def inBlk (xs : List (Page × Field × Nat)) (s : State := State.reset) : State :=
  xs.foldl (fun s x => wrBlk s x.1 x.2.1 x.2.2) s

/-- The device once it is ready. -/
def up : State := wr State.reset .glb Fld.GLB_RESET_CAUSE_READY 1
/-! ### Hypotheses that states meet: lanes and ports -/

/-- Lane 5 with a signal and clock recovery locked. -/
def litLane : State :=
  lay [(.lan 5, Fld.LAN_STATUS_SIGNAL, 1), (.lan 5, Fld.LAN_STATUS_CDR_LOCK, 1), (.lan 5, Fld.LAN_STATUS_LPM_STATE, 0)]
    [(.lan 5, Fld.LAN_MODE_RATE, 5), (.lan 5, Fld.LAN_MODE_CODING, 1), (.lan 5, Fld.LAN_POWER_LPM, 1)]

theorem witness_LaneSignalAndLock :
    (detectorOn State.reset 0 = true ∧ rdB State.reset (.lan 0) Fld.LAN_STATUS_SIGNAL = false) ∧
    rdB litLane (.lan 5) Fld.LAN_STATUS_SIGNAL = true ∧
    (let s := lay [(.lan 5, Fld.LAN_STATUS_CDR_LOCK, 0)] [] litLane
     laneRate s 5 ≠ 0 ∧ laneLpm s 5 = 0 ∧ rdB s (.lan 5) Fld.LAN_STATUS_SIGNAL = true ∧
     rdB s (.lan 5) Fld.LAN_STATUS_CDR_LOCK = false) ∧
    rdB litLane (.lan 5) Fld.LAN_STATUS_CDR_LOCK = true := by decide +kernel

theorem witness_LaneTrainingAndStuffing :
    rd (lay [(.lan 7, Fld.LAN_STATUS_TRAIN_STATE, 1)] []) (.lan 7) Fld.LAN_STATUS_TRAIN_STATE = 1 ∧
    rd (lay [(.lan 7, Fld.LAN_STATUS_TRAIN_STATE, 3)] []) (.lan 7) Fld.LAN_STATUS_TRAIN_STATE = 3 ∧
    (laneHw { State.reset with lane := [(7, { ramp := true })] } 7).ramp = true := by decide +kernel

theorem witness_LaneTrainingAndStuffing' :
    (laneCoding litLane 5 = 1 ∧ laneRate litLane 5 ≠ 0) ∧
    (let s := lay [] [(.lan 5, Fld.LAN_INJECT_TARGET, 1), (.lan 5, Fld.LAN_INJECT_INJ_RATE, 8)]
     cfg s (.lan 5) Fld.LAN_INJECT_TARGET ≠ 0 ∧ 8 ≤ cfg s (.lan 5) Fld.LAN_INJECT_INJ_RATE) ∧
    cfgB (lay [] [(.lan 5, Fld.LAN_PAT_CTRL_GEN_EN, 1)]) (.lan 5) Fld.LAN_PAT_CTRL_GEN_EN = true := by decide +kernel

theorem witness_LaneQuietAndChecker :
    (laneCoding litLane 5 = 1 ∧ laneRate litLane 5 ≠ 0 ∧ cfg litLane (.lan 5) Fld.LAN_POWER_LPM = 1 ∧ laneLpm litLane 5 = 0) ∧
    (let s := lay [(.lan 5, Fld.LAN_STATUS_LPM_STATE, 1)] [] litLane
     laneLpm s 5 = 1 ∧ laneCoding s 5 = 1) ∧
    laneLpm (lay [(.lan 5, Fld.LAN_STATUS_LPM_STATE, 3)] [] litLane) 5 = 3 ∧
    (let s := inBlk [(.lan 5, Fld.LAN_PAT_CTRL_CHK_EN, 1), (.lan 5, Fld.LAN_PAT_CTRL_CHK_PAT, 8)]
     bk s (.lan 5) Fld.LAN_PAT_CTRL_CHK_EN ≠ 0 ∧ bk s (.lan 5) Fld.LAN_PAT_CTRL_CHK_PAT ≤ 8) ∧
    rdB (lay [(.lan 5, Fld.LAN_STATUS_CHK_SYNC, 1)] []) (.lan 5) Fld.LAN_STATUS_CHK_SYNC = true := by decide +kernel

/-- Port 1023 up at 1.6T with PFC. -/
def upPort (mode : Nat) : State :=
  lay [(.mac 1023, Fld.MAC_STATUS_LINK_UP, 1), (.mac 1023, Fld.MAC_STATUS_PCS_LOCK, 1), (.mac 1023, Fld.MAC_STATUS_FEC_LOCK, 1),
       (.mac 1023, Fld.MAC_STATUS_WD_IGNORE, 128)]
    [(.mac 1023, Fld.MAC_PAUSE_CFG_MODE, mode), (.mac 1023, Fld.MAC_PORT_CFG_SPEED, 7), (.mac 1023, Fld.MAC_PAUSE_WD_WD_US, 1),
     (.mac 1023, Fld.MAC_PAUSE_CFG_TX_GEN, 1), (.tmg 1023, Fld.TMG_PORT_CFG_PFC_GEN, 128)]

/-- The pause state of that port. -/
def paused (x : PauseSt) (s : State) : State := { s with tm := { s.tm with pause := [(1023, x)] } }

theorem witness_PauseFrames :
    (linkUp (upPort 1) 1023 = true ∧ cfg (upPort 1) (.mac 1023) Fld.MAC_PAUSE_CFG_MODE = 1) ∧
    (linkUp (upPort 2) 1023 = true ∧ cfg (upPort 2) (.mac 1023) Fld.MAC_PAUSE_CFG_MODE = 2) ∧
    (let s := paused { timer := [(7, 100)], since := [(7, 1)] } (upPort 2)
     tabGet (pauseOf s 1023).since 0 7 ≠ 0 ∧ tabGet (pauseOf s 1023).timer 0 7 ≤ 100 * max s.now 1) ∧
    (let s := paused { since := [(7, 1)] } (upPort 2)
     cfg s (.mac 1023) Fld.MAC_PAUSE_WD_WD_US ≠ 0 ∧ 6 ≤ cfg s (.mac 1023) Fld.MAC_PORT_CFG_SPEED ∧
     tabGet (pauseOf s 1023).since 0 7 ≠ 0 ∧
     tabGet (pauseOf s 1023).since 0 7 + 4000 * cfg s (.mac 1023) Fld.MAC_PAUSE_WD_WD_US ≤ max s.now 4000 + 1) ∧
    (let s := paused { ignore := [(7, 9)] } (upPort 2)
     bit (rd s (.mac 1023) Fld.MAC_STATUS_WD_IGNORE) 7 = true ∧ tabGet (pauseOf s 1023).ignore 0 7 ≤ max s.now 9) := by
  decide +kernel

theorem witness_PauseFrames' :
    (let s := { upPort 2 with rs := { acct := [(8191, { hold := true })] } }
     mayRequest s 1023 = true ∧ wantsHold s 1023 7 = true ∧ bit (pauseOf s 1023).txHold 7 = false) ∧
    (let s := paused { txHold := 128 } (upPort 2)
     mayRequest s 1023 = true ∧ wantsHold s 1023 7 = false ∧ bit (pauseOf s 1023).txHold 7 = true ∧
     (pauseOf s 1023).txHold ≠ 0 ∧
     200 * (pauseOf s 1023).txAt + quanta s 1023 (cfg s (.mac 1023) Fld.MAC_PAUSE_CFG_TX_QUANTA) ≤ 200 * max s.now 90000) := by
  decide +kernel

theorem witness_PortLinks :
    (let s := lay [(.lan 9, Fld.LAN_STATUS_CDR_LOCK, 1), (.lan 9, Fld.LAN_STATUS_ADAPT_DONE, 1)] [(.mac 9, Fld.MAC_PORT_CFG_ENABLE, 1)]
     portEnabled s 9 = true ∧ lanesReady s 9 = true ∧ hoopFenced s (9 / 32) = false ∧
     rdB s (.mac 9) Fld.MAC_STATUS_PCS_LOCK = false) ∧
    rdB (upPort 1) (.mac 1023) Fld.MAC_STATUS_PCS_LOCK = true ∧ rdB (upPort 1) (.mac 1023) Fld.MAC_STATUS_FEC_LOCK = true ∧
    linkUp (upPort 1) 1023 = true ∧ isAld (upPort 1) 1023 = false := by decide +kernel

/-- A frame stored whole in the descriptor 3. -/
def stored (x : Machine.Frm) (s : State := State.reset) : State := { s with rs := { s.rs with frm := [(3, { x with used := true, state := 1 })] } }

theorem witness_PortFrames :
    (linkUp (upPort 1) 1023 = true ∧ isAld (upPort 1) 1023 = false) ∧
    (let x : TxSt := { f := 3, cls := 0, start := 0, cut := false, overrun := false }
     let s := { stored {} with rs := { (stored {}).rs with tx := [(1023, some x)] } }
     txOf (advance s 5) 1023 = some x ∧ (frm (advance s 5) x.f).state ≠ 0) := by decide +kernel

/-! ### Tables -/

/-- A Filet entry of panel 7 at its last location. -/
def filOne (e : FilEnt) : State := { up with fil := [(2097152 * 7 + 1056767, e)] }

theorem witness_FiletLearning :
    (let e : LearnEv := { key := 5, port := 1023, arrival := 0, panel := 7 }
     ({ up with learnFly := [e] } : State).learnFly[0]? = some e ∧ learnDue e ≤ max up.now 8000) ∧
    (tabGet ({ up with learnPan := [(7, [⟨5, 1023, 0, 7⟩])] } : State).learnPan [] 7 = ⟨5, 1023, 0, 7⟩ :: []) := by decide +kernel

theorem witness_FiletSearches :
    (let s := filOne { valid := true, stg := 1 }
     rdB s (.fil 7) Fld.FIL_CMD_STAT_BUSY = false ∧ tabRising none s.fil = true ∧ filKey s 7 / 2 ^ 60 < 3 ∧
     bk s (.fil 7) Fld.FIL_CMD_ARG_CLS_SEL ≠ 3) := by decide +kernel

theorem witness_FiletDeletes :
    ∀ g ∈ [0, 1, 2],
      let s := filOne { valid := true, stg := g }
      rdB s (.fil 7) Fld.FIL_CMD_STAT_BUSY = false ∧ tabGet s.filHold false 7 = false ∧ tabRising none s.fil = true ∧
      filKey s 7 / 2 ^ 60 < 3 ∧ (filEnt s 7 1056767).valid = true ∧ (filEnt s 7 1056767).key = filKey s 7 ∧
      (filEnt s 7 1056767).stg = g := by decide +kernel

theorem witness_FiletChanges :
    (let s := filOne { valid := true, stg := 1 }
     rdB s (.fil 7) Fld.FIL_CMD_STAT_BUSY = false ∧ tabGet s.filHold false 7 = false ∧ tabRising none s.fil = true ∧
     bk s (.fil 7) Fld.FIL_CMD_ARG_CLS_SEL ≠ 3) ∧
    (let s := filOne { valid := true, stg := 0 }
     filEnt s 7 1056767 = { valid := true, stg := 0 } ∧ filKey s 7 = (filEnt s 7 1056767).key ∧ 1056767 < 2097152) ∧
    rdB (lay [(.fil 7, Fld.FIL_STATUS_CLEANUP, 1)] []) (.fil 7) Fld.FIL_STATUS_CLEANUP = true ∧
    (let s := { up with filWait := [(7, 4)] }
     tabGet s.filWait 0 7 ≠ 0 ∧ tabGet s.filHold false 7 = false) := by decide +kernel

theorem witness_SkeinCommands :
    (let c : SkChange := { digest := 9, profile := 1, op := .pin true }
     let s := { up with
       skOvl := [(31, [c])]
       ctx := [(32768 * 31 + (setWays 9).headD 0, { state := 2, img := { digest := 9, profile := 1 } })] }
     tabGet s.skOvl [] 31 = c :: [] ∧ c.op ≠ .evict ∧ (ctxFind s 31 c.digest c.profile).isSome = true) := by decide +kernel

/-! ### Bobbins -/

/-- Thread 3 of bobbin 511 at the last word of the store, which holds `w`. -/
def bobAt (w : Nat) (x : BobThr := {}) (s : State := up) : State :=
  let s := putWord s (.bobh 31) 1 65535 w
  { s with bob := { s.bob with
      thr := [(2047, { x with pc := 65535, work := if x.work = .idle then .done 0 0 else x.work })]
      seg := [(64 * 31 + 63, { state := 2 })] } }

theorem regs64_bobAt (w : Nat) : regs64 (bobAt w) 511 3 := by
  intro r
  unfold gReg
  split
  · decide
  · show tabGet ([] : Tab Nat) 0 r < 2 ^ 64
    simp [tabGet, tabFind]

theorem witness_BobbinArithmetic :
    (∀ x ∈ aluOps.zipIdx, issues (bobAt x.2) 511 3 .ok x.2 x.1) ∧
    (∀ x ∈ [(BobOp.addi, 0x04000000), (.andi, 0x08000000), (.ori, 0x0C000000), (.xori, 0x10000000), (.shiftiShl, 0x14000000),
        (.shiftiShr, 0x14000040), (.shiftiSar, 0x14000080), (.lui, 0x18000000), (.insi, 0x1C000000)],
      issues (bobAt x.2) 511 3 .ok x.2 x.1) := by
  unfold issues; decide +kernel

theorem witness_BobbinBranchesAndFaults :
    (∀ x ∈ [(BobOp.beq, 0x20000000), (.bne, 0x24000000), (.blt, 0x28000000), (.bge, 0x2C000000), (.bltu, 0x30000000),
        (.bgeu, 0x34008000), (.jal, 0x3BFFFFFF), (.jr, 0x3C000000)], issues (bobAt x.2) 511 3 .ok x.2 x.1) ∧
    (let s := bobAt 0x5C000000
     canIssue s 511 3 = true ∧ (segOf s (511 / 16) ((thrOf s 511 3).pc / 1024)).state = 2 ∧
     storeBad s (511 / 16) 1 (thrOf s 511 3).pc = false ∧ bobOp (word s (.bobh (511 / 16)) 1 (thrOf s 511 3).pc) = none) ∧
    (let s := { bobAt 0 with bob := { (bobAt 0).bob with seg := [] } }
     canIssue s 511 3 = true ∧ (segOf s (511 / 16) ((thrOf s 511 3).pc / 1024)).state < 2) := by
  unfold issues; decide +kernel

theorem witness_BobbinLocalMemory :
    (∀ x ∈ [(BobOp.ld, 0x40003FF8, 8), (.lw, 0x44003FFC, 4), (.sd, 0x48003FF8, 8), (.sw, 0x4C003FFC, 4)],
      issues (bobAt x.2.1) 511 3 .ok x.2.1 x.1 ∧
      (let a := unsigned 64 ((gReg (bobAt x.2.1) 511 3 (fRs1 x.2.1) : Int) + fSimm x.2.1)
       a % x.2.2 = 0 ∧ a + x.2.2 = 16384)) ∧
    (∀ x ∈ [(BobOp.ld, 0x40003FF9, 8), (.lw, 0x44004000, 4), (.sd, 0x48000004, 8), (.sw, 0x4C00FFFC, 4)],
      issues (bobAt x.2.1) 511 3 .ok x.2.1 x.1 ∧
      (let a := unsigned 64 ((gReg (bobAt x.2.1) 511 3 (fRs1 x.2.1) : Int) + fSimm x.2.1)
       a % x.2.2 ≠ 0 ∨ 16384 < a + x.2.2)) ∧
    (issues (bobAt 0x50000000) 511 3 .ok 0x50000000 .ldi ∧ storeBad (bobAt 0x50000000) 31 1 65535 = false) := by
  unfold issues; decide +kernel

theorem witness_BobbinReads :
    (∀ x ∈ [(BobOp.timeNs, 0x7C000000), (.timeStitch, 0x7C000001), (.timePhase, 0x7C000002), (.timeEpoch, 0x7C000003),
        (.timeStatus, 0x7C000004), (.rdid, 0x88000100), (.rdperf, 0x88000007)], issues (bobAt x.2) 511 3 .ok x.2 x.1) ∧
    (let s := bobAt 0x88000007 { perfRd := true }
     issues s 511 3 .ok 0x88000007 .rdperf ∧ (thrOf s 511 3).perfRd = true ∧ perfClocked s 511 7 = false ∧
     tabGet s.bob.clocked 0 (8 * 511 + 7) = 0) ∧
    (thrOf (bobAt 0x88000007) 511 3).perfRd = false ∧
    (let s := inBlk [(.bob 511, Fld.BOB_PERF_SEL_EVENT 7, 1)] up
     perfClocked s 511 7 = true ∧ bobOn s 511 = true) := by
  unfold issues; decide +kernel

theorem witness_BobbinFrames :
    (∀ x ∈ [(BobOp.hld, 0x54000000), (.hst, 0x58000000), (.fwd, 0x80000000), (.drop, 0x80400000)],
      let s := bobAt x.2 { work := .frame 3, hdr := List.replicate 64 0 } (stored { bytes := List.replicate 60 0 } up)
      issues s 511 3 .ok x.2 x.1 ∧ (thrOf s 511 3).work = .frame 3 ∧ (thrOf s 511 3).hst = false ∧
      hdrOffset s 511 3 x.2 + 7 < (thrOf s 511 3).hdr.length ∧ gReg s 511 3 (fErs1 x.2) % 2048 < 1024 ∧
      behindMulticast s { frm s 3 with res := { (frm s 3).res with tclass := 0, dest := .port 0 } } = false ∧ 1 ≤ freeQe s) ∧
    (let s := bobAt 0x80802000 { regs := [(2, 60)] }
     let y : Machine.Frm :=
       { bytes := lmRead s 511 0 60, inPort := 1048 + 511 / 64, hoop := 31, arrival := s.now, stitch := s.stitch, stage := .queued
         res := { epoch := s.epoch % 65536, dest := .port 0, tclass := 0 } }
     issues s 511 3 .ok 0x80802000 .new ∧ gReg s 511 3 (fErs1 0x80802000) = 0 ∧ gReg s 511 3 (fErs2 0x80802000) = 60 ∧
     emitBad 0 = false ∧ fLm 0x80802000 + 60 ≤ 16384 ∧ freeQe s ≠ 0 ∧
     (openFrame (lmErr (storeErr (advance s 0) 31 65535 .ok) 511 3 0 .ok).1 (1048 + 511 / 64) 0 y).2.isSome = true) ∧
    (let s := { up with rs := { fwait := [(511, [3])], fq := [(511, List.range 63)] } }
     fwaitOf s 511 = 3 :: [] ∧ (fqOf s 511).length < 64) := by
  unfold issues; decide +kernel

theorem witness_BobbinTables :
    (∀ x ∈ [(BobOp.install, 0x60000000), (.ctxrd, 0x60000080), (.ctxwr, 0x60000100), (.ctxevict, 0x60000180), (.fsearch, 0x64000000),
        (.flearn, 0x64000080), (.pcharge, 0x68000000), (.pread, 0x68000080)],
      issues (bobAt x.2) 511 3 .ok x.2 x.1 ∧ tabRising none (bobAt x.2).fil = true) ∧
    (let s := bobAt 0 { wait := .table 31 7 }
     bobOn s 511 = true ∧ (thrOf s 511 3).wait = .table 31 7) ∧
    (let s := bobAt 0x60000000 {} { up with ctx := [(32768 * 31, { state := 1 })] }
     (ctxOf s 31 (gReg s 511 3 (fRs1 0x60000000))).state = 1) := by
  unfold issues; decide +kernel

/-- Window 0 of hoop 31, open to bobbin 511. -/
def windowed (w : Nat) (x : BobThr := {}) : State :=
  putWord (putWord (bobAt w x) (.bobh 31) 4 0 0xE0000000) (.bobh 31) 4 1 0x8000

theorem witness_BobbinDram :
    (∀ x ∈ [(BobOp.drd, 0x70000000, false), (.dwr, 0x74000000, true)],
      let s := windowed x.2.1
      issues s 511 3 .ok x.2.1 x.1 ∧ accessFault s 511 3 x.2.1 0 8 x.2.2 = none ∧ windowFault s 511 0 x.2.2 = none) ∧
    (let s := windowed 0x70000000 { wait := .room }
     (thrOf s 511 3).wait = .room ∧
     issues (putThr s 511 3 { thrOf s 511 3 with wait := .run }) 511 3 .ok 0x70000000 .drd ∧
     accessFault s 511 3 0x70000000 0 8 false = none ∧ windowFault s 511 0 false = none ∧
     channelLoad s (servedBy s 0) < 2048) ∧
    (∀ d ∈ [none, some [1, 2, 3, 4, 5, 6, 7, 8]],
      let x : BobAcc := { tok := some 127, thread := 3, window := 0, addr := 0, lm := 0, size := 8, pc := 0, data := d }
      let s := { bobAt 0 with bob := { (bobAt 0).bob with acc := [(511, [x])] } }
      (accOf s 511)[0]? = some x ∧ accFree s 511 0 = true ∧ dramBad s x.addr x.size = false ∧
      ddrDead s (servedBy s x.addr) = false ∧ fenced s (.bob 511) = false ∧ (∀ t ∈ [1, 2, 3], (thrOf s 511 t).wait ≠ .fin)) ∧
    (∀ x ∈ [(BobOp.dawait, 0x7A700000), (.datest, 0x7A701000)],
      issues (bobAt x.2) 511 3 .ok x.2 x.1 ∧ fTok x.2 < tokCount 3) := by
  unfold issues; decide +kernel

theorem witness_BobbinThreads :
    (let ev : SkEvent := ⟨1, 0, 0, false, false, 0, 0, [], {}⟩
     let s := { up with evq := [(511, [ev])] }
     bobOn s 511 = true ∧ stitchRuns s 511 = false ∧ (thrOf s 511 3).work = .idle ∧ nextEvent s 511 = some 0 ∧
     (tabGet s.evq [] 511)[0]? = some ev ∧ nextFrame s 511 = none) ∧
    (let s := { stored {} up with rs := { (stored {} up).rs with fq := [(511, [3])] } }
     bobOn s 511 = true ∧ stitchRuns s 511 = false ∧ (thrOf s 511 3).work = .idle ∧ nextEvent s 511 = none ∧
     nextFrame s 511 = some 3) ∧
    (issues (bobAt 0x84000000) 511 3 .ok 0x84000000 .fin ∧ issues (bobAt 0x84000001) 511 3 .ok 0x84000001 .yield) ∧
    (let s := { up with bob := { thr := [(4 * 511, { work := .stitch })] } }
     stitchRuns s 511 = true ∧ bobOn s 511 = true) ∧
    (let s := lay [(.bob 511, Fld.PAGE_FENCE_FENCED, 1)] [] { up with bob := { rel := [(511, true)] } }
     tabGet s.bob.rel false 511 = true ∧ fenced s (.bob 511) = true ∧ tokOut s 511 = 0) := by
  unfold issues; decide +kernel

/-! ### The Reseau and the traffic manager -/

/-- No class is scheduled. -/
def plain (s : State) : State := lay [] [(.stitch, Fld.SMP_STITCH_CTRL_SCHED_EN, 0)] s

/-- MIN of account `a` is 100 cells. -/
def paid (a : Nat) (s : State) : State := putWord s .rsx 1 (2 * a) 100

theorem witness_IngressAndEnqueue :
    (let s := stored { bytes := List.replicate 60 0, stage := .lookup, hoop := 31 } up
     (frm s 3).used = true ∧ (frm s 3).stage = .lookup ∧ (frm s 3).state = 1 ∧
     domainOff s (.prk (frm s 3).hoop) = false ∧ hoopFenced s (frm s 3).hoop = false) ∧
    (∀ d ∈ [FDest.port 1031, .group 16383, .flood 0, .bobbin 511 0 0, .none],
      let s := stored { bytes := List.replicate 60 0, rxHeld := true, refs := 1, stage := .result, inPort := 1023
                        res := { dest := d, tclass := 7 } } (plain up)
      (frm s 3).used = true ∧ (frm s 3).stage = .result ∧ (frm s 3).state = 1 ∧ (frm s 3).res.cls.mirror = none ∧
      redPair s (frm s 3).inPort = none ∧ placeRoom s (frm s 3) 0 = true ∧ (frm s 3).rxHeld = true ∧ 1 ≤ (frm s 3).refs ∧
      (fqOf s 511).length < 64 ∧ fwaitOf s 511 = [] ∧ fenced s (.bob 511) = false ∧ flushes s 1031 = false ∧ schedOn s = false) := by
  decide +kernel

/-- The frame 3, from port 1023, awaits replication to group 16383. -/
def copying : State :=
  let s := stored { inPort := 1023, src := 1023, refs := 1, stage := .replicate, res := { dest := .group 16383, tclass := 7 } } up
  { s with rs := { s.rs with repl := [3] } }

/-- The frame 3 is in transmission on port `p`. -/
def sending (p : Nat) : State :=
  let s := stored { bytes := List.replicate 60 0, refs := 1 } up
  { s with rs := { s.rs with tx := [(p, some { f := 3, cls := 0, start := 0, cut := false, overrun := false })] } }

theorem witness_CopiesAndAccounts :
    (let s := putWord (putWord (plain copying) .rsx 3 (34 * 16383) 0x80000000) .rsx 3 (34 * 16383 + 33) 0x80
     let g := (groupOf (frm s 3)).1
     let ps := (groupMembers s g).filter (takesCopy s (frm s 3).inPort g (groupOf (frm s 3)).2)
     s.rs.repl.find? (fun g => (frm s g).src == 1023) = some 3 ∧ groupValid s g = true ∧ ps = [1031] ∧
     ps.length ≤ freeQe s ∧ (frm s 3).state = 1 ∧ schedOn s = false ∧ (frm s 3).res.tclass < 8 ∧
     (∀ p ∈ ps, flushes s p = false)) ∧
    groupValid copying (groupOf (frm copying 3)).1 = false ∧
    (let s := lay [] [(.mir 3, Fld.RSX_MIR_CTRL_MODE, 1)] (paid (8 * 1043) (sending 1043))
     let b := mirrorBytes s 3 (frm s 3).bytes
     let c := cfg s (.mir 3) Fld.RSX_MIR_CTRL_CLASS
     let y : Machine.Frm :=
       { bytes := b, inPort := 1043, arrival := max s.now 0, stitch := s.stitch, stage := .queued
         res := { epoch := s.epoch % 65536, dest := .port (cfg s (.mir 3) Fld.RSX_MIR_CTRL_DEST), tclass := c } }
     (txOf s 1043).isSome = true ∧ (frm s 3).state = 1 ∧ cfg s (.mir 3) Fld.RSX_MIR_CTRL_MODE ≠ 0 ∧ freeQe s ≠ 0 ∧
     (openFrame (advance s 0) 1043 c y).2.isSome = true) ∧
    (let s := paid (8 * 1039) (sending 1039)
     let y : Machine.Frm :=
       { bytes := egressBytes (frm s 3), inPort := 1039, hoop := 28, arrival := max s.now 0, stitch := s.stitch,
         stage := .lookup, ald := (frm s 3).ald }
     (txOf s 1039).isSome = true ∧ (frm s 3).state = 1 ∧ domainOff s (.prk 28) = false ∧
     (openFrame (advance s 0) 1039 0 y).2 ≠ some 3 ∧ (openFrame (advance s 0) 1039 0 y).2.isSome = true) ∧
    (let s := paid (8 * 1031 + 7) { up with rs := { wait := [(1031, true)] } }
     tabGet s.rs.wait false 1031 = true ∧ sourceReady s 1031 7 = true ∧ (chargeCell s (8 * 1031 + 7)).2 = true) ∧
    tabRising none up.rs.acct = true ∧
    ({ up with rs := { audit := some 5 } } : State).rs.audit = some 5 := by decide +kernel

theorem witness_TransmitPoliceAndGates :
    (let s := lay [] [(.tmg 1023, Fld.TMG_SHAPE_EN_SHAPE_EN, 0x80)] up
     shaped s 1023 7 = true ∧ 0 ≤ creditAt (settle (advance s 8) 1023) 1023 7 (max s.now 8)) ∧
    (let s := sending 1023
     (txOf s 1023).isSome = true ∧ bit (gatesAt s 1023 (max s.now 4)) 0 = true) ∧
    (let g : GateList := ⟨10, 1000, [1000]⟩
     let s := { up with tm := { port := [(1023, { pend := some g })] } }
     (tmOf s 1023).pend = some g ∧ 4 * g.t0 ≤ max s.now 40) ∧
    (let g : GateList := ⟨0, 1000, [1000]⟩
     let s := { sending 1023 with tm := { port := [(1023, { gl := some g })] } }
     bit (gatesAt s 1023 (max s.now 4)) 0 = false) := by decide +kernel

/-! ### The Sampler -/

/-- A PTP frame from port 1023, which domain page 1 traps, at the head of class 7 of port 1031. -/
def ptpWaits : State :=
  let b := List.replicate 12 0 ++ [0x88, 0xF7] ++ List.replicate 46 0
  let s := stored { bytes := b, refs := 1, inPort := 1023, stage := .queued
                    res := { dest := .port 1031, tclass := 7, parsed := { st := { hdrs := [⟨.eth, 0, 14⟩] }, head := b } } } up
  putWord (lay [] [(.ptp 1, Fld.SMP_PTP_CFG_EN, 1), (.ptp 1, Fld.SMP_PTP_CFG_DOMAIN_NUM, 0)] { s with rs := { s.rs with queue := [(8 * 1031 + 7, [⟨3, none⟩])] } })
    (.ptp 1) 1 1023 1

theorem witness_SamplerVoteAndPtp :
    voters up = [0, 1, 2] ∧ voted [5, 6, 7] = some 6 ∧ fenced up (.ch 2) = false ∧
    (let s := lay [(.ch 2, Fld.SMP_CH_STAT_REJOIN, 1)] [] { up with smp := { rejoin := [(2, 1000000)] } }
     rdB s (.ch 2) Fld.SMP_CH_STAT_REJOIN = true ∧ 1000000 ≤ tabGet s.smp.rejoin 0 2) ∧
    (hoopAsleep up 31 = false ∧ 3 ≤ tabGet ({ up with smp := { miss := [(31, 3)] } } : State).smp.miss 0 31) ∧
    (queueOf ptpWaits (8 * 1031 + 7) = [⟨3, none⟩] ∧ (frm ptpWaits 3).state = 1 ∧ ptpWaits.smp.fwHold = false ∧
     ptpPage ptpWaits (frm ptpWaits 3).inPort (frm ptpWaits 3).bytes (frm ptpWaits 3).res.parsed = some 1) ∧
    (let s := paid (8 * 1031) (lay [] [(.ptp 1, Fld.SMP_PTP_CFG_TRAP_CLASS, 0)] ptpWaits)
     let b := List.replicate 9212 0
     let y : Machine.Frm :=
       { bytes := b, inPort := 1031, arrival := max s.now 0, stitch := s.stitch, stage := .queued
         stamp := some (.pillow 1 0), res := { epoch := s.epoch % 65536, dest := .port 1023, tclass := 0 } }
     cfgB s (.ptp 1) Fld.SMP_PTP_CFG_EN = true ∧ bit (word s (.ptp 1) 1 1023) 0 = true ∧ s.smp.fwHold = false ∧
     b.length = 9212 ∧ freeQe s ≠ 0 ∧ cfg s (.ptp 1) Fld.SMP_PTP_CFG_TRAP_CLASS = 0 ∧
     (openFrame (takeStamps (advance s 0) 1) 1031 0 y).2.isSome = true) := by decide +kernel

/-- STATUS of Table 13.2 holds `v`, both domains are enabled and LOCKED, and the servo may use either. -/
def timed (v : Nat) (s : State := up) : State :=
  lay [(.tod, Fld.SMP_TOD_STAT_STATUS, v), (.ptp 0, Fld.SMP_PTP_STAT_STATE, 3), (.ptp 1, Fld.SMP_PTP_STAT_STATE, 3)]
    [(.ptp 0, Fld.SMP_PTP_CFG_EN, 1), (.ptp 1, Fld.SMP_PTP_CFG_EN, 1), (.tod, Fld.SMP_TOD_CTRL_SRC_PREF, 1)] s

theorem witness_SamplerServo :
    (let s := timed (1 + 2 * 256) { up with smp := { meas := 8 } }
     8 ≤ s.smp.meas ∧ s.smp.fwHold = false ∧ aldFollows s = false ∧ aldMember s = false ∧ servo s = 1 ∧ source s = 2) ∧
    (let s := timed (2 + 2 * 256)
     servo s = 2 ∧ source s = 2 ∧ domState s 1 ≠ 0 ∧ canSwitch s 1 = true ∧ canSwitch s (otherSrc (source s)) = true ∧
     source s ≠ 3) ∧
    (let s := lay [] [(.tod, Fld.SMP_TOD_CTRL_AUTO_SWITCH, 1)] (timed (2 + 256))
     cfgB s .tod Fld.SMP_TOD_CTRL_AUTO_SWITCH = true ∧ servo s = 2 ∧ source s = 1 ∧ canSwitch s 2 = true) ∧
    (let s := timed 3
     servo s = 3 ∧ s.smp.fwHold = false ∧ canSwitch s 2 = true) ∧
    traceable (timed 8) = true ∧
    (let s := lay [] [(.tod, Fld.SMP_TOD_CTRL_AUTO_REVERT, 1), (.tod, Fld.SMP_REVERT_PRIM_HOLD_S, 1)]
       (timed (2 + 2 * 256) { up with smp := { dom := [(0, { lockAt := some 0 })] } })
     cfgB s .tod Fld.SMP_TOD_CTRL_AUTO_REVERT = true ∧ servo s = 2 ∧ source s = 2 ∧ (domOf s 0).lockAt = some 0 ∧
     0 + cfg s .tod Fld.SMP_REVERT_PRIM_HOLD_S * 4000000000 ≤ max s.now 4000000000 ∧ canSwitch s 1 = true) ∧
    (let s := timed (2 + 16 + 2 * 256)
     status s 4 1 = 1 ∧ (-3 : Int).natAbs < 4 ∧ source s = 2) ∧
    (let s := { up with smp := { leapAt := some 1 } }
     s.smp.leapAt = some 1 ∧ 1 * 4000000000 ≤ max s.now 4000000000) := by decide +kernel

theorem witness_SamplerStamps :
    (let s := lay [] [(.cap, Fld.SMP_CAP_RISE_RISE, 0x80)] up
     bit (if true then cfg s .cap Fld.SMP_CAP_RISE_RISE else cfg s .cap Fld.SMP_CAP_FALL_FALL) 7 = true ∧ s.smp.cap.length < 64) ∧
    64 ≤ ({ up with smp := { cap := List.replicate 64 ⟨0, true, 0, 0⟩ } } : State).smp.cap.length ∧
    (let s := putWord (putWord (putWord up .pulse 1 (8 * 7) 1) .pulse 1 (8 * 7 + 2) 100) .pulse 1 (8 * 7 + 5) 65535
     ((400 : Nat) : Int) = (401 : Nat) + signed 16 (bits (pulseWord s 7 5) 15 0) ∧ 400 % 4 = 0 ∧ (pulseOf s 7).last = none ∧ pulseMode s 7 = 1 ∧ pulseStart s 7 ≤ 400 / 4 ∧ 0 < pulseWord s 7 2 ∧
     (400 / 4 - pulseStart s 7) % pulseWord s 7 2 = 0) ∧
    (let s := putWord (putWord up .pulse 1 (8 * 7) 2) .pulse 1 (8 * 7 + 3) 9
     36 % 4 = 0 ∧ (pulseOf s 7).last = none ∧ pulseMode s 7 = 2 ∧ 36 / 4 = pulseStart s 7) ∧
    (pulseOf { up with smp := { pulse := [(7, { fin := some 40 })] } } 7).fin = some 40 ∧
    (let s := putWord (putWord up .pulse 1 (8 * 7) 4) .pulse 1 (8 * 7 + 5) 4
     ((8000000000 : Nat) : Int) = (7999999996 : Nat) + signed 16 (bits (pulseWord s 7 5) 15 0) ∧ pulseMode s 7 = 4 ∧ 8000000000 % 4000000000 = 0 ∧ (pulseOf s 7).last = none) := by decide +kernel

/-! ### Aladotra -/

/-- The link on port 1023 in LSTATE `l`, with what it keeps. -/
def linked (l : Nat) (x : LinkSt := {}) (s : State := up) : State :=
  lay [(.mac 1023, Fld.MAC_ALD_STAT_LSTATE, l)] [(.lan 1023, Fld.LAN_MODE_CODING, 1)]
    { s with ald := { s.ald with link := [(1023, x)] } }

/-- A control cell of type `c` waits on that link. -/
def celled (l c : Nat) (s : State := up) (x : LinkSt := {}) : State :=
  linked l { x with inbox := [(c, List.replicate 44 0, 5, 1)] } s

theorem witness_AladotraLinks :
    (1 ≤ lstate (linked 1) 1023 ∧ lstate (linked 5) 1023 ≤ 5 ∧ isAld (linked 5) 1023 = true) ∧
    (cellHeld (celled 5 2) 1023 2 = some (2, List.replicate 44 0, 5, 1) ∧ 2 ≤ (List.replicate 44 0).length) ∧
    (let x : LinkSt := { probe := some (0, 1) }
     let s := celled 5 3 up x
     cellHeld s 1023 3 = some (3, List.replicate 44 0, 5, 1) ∧ (linkOf s 1023).probe = some (0, 1) ∧
     be16 (List.replicate 44 0) 0 = 0 ∧ (linkOf s 1023).ex = []) ∧
    (let s := celled 5 3 up { probe := some (0, 1), ex := [1000], badEx := 2 }
     let v : Int := ((5 : Int) - 1) - ((readTime (List.replicate 44 0) 12 : Int) - readTime (List.replicate 44 0) 2)
     (linkOf s 1023).ex ≠ [] ∧ 400 < (v + 2 * asym s 1023 - 2 * (1000 : Int)).natAbs ∧ fenced s (.mac 1023) = false) ∧
    (∀ b ∈ [[0x10, 0, 0, 0x40, 0, 0, 0, 0, 0, 64, 0, 7, 0, 0], [0x20, 0, 0, 13, 0, 0, 0, 0, 0, 48, 0, 7, 0, 0]],
      let h := b ++ beBytes 2 (crc16 b)
      be16 h 14 = crc16 (h.take 14) ∧ be16 h 12 = sysId up % 65536) ∧
    (takesCell (celled 2 4) 1023 4 ∧ (linkOf (celled 1 4 up { ex := [4] }) 1023).ex ≠ []) := by
  unfold takesCell; decide +kernel

/-- MSTATE and MGR, with what a device of the system holds. -/
def inSys (m g : Nat) (a : AldSt := {}) : State :=
  lay [(.ald, Fld.ALD_STAT_MSTATE, m), (.ald, Fld.ALD_STAT_MGR, g)] [] { up with ald := a }

/-- The parent port is 1023. -/
def rooted (s : State) : State := wr s .ald Fld.ALD_TREE_PARENT_PORT 1023

/-- A manager whose standby is member 5, of the best priority. -/
def revertible : State :=
  lay [(.ald, Fld.ALD_MGRS_SB_VALID, 1), (.ald, Fld.ALD_MGRS_STANDBY, 5)]
    [(.ald, Fld.ALD_CTRL_REVERT_EN, 1), (.ald, Fld.ALD_CTRL_MGR_PRIO, 1)] (inSys 4 1 { member := [(5, { state := 3 })] })

theorem witness_AladotraManagers :
    (cellHeld (celled 5 1) 1023 1 = some (1, List.replicate 44 0, 5, 1) ∧ isManager (celled 5 1) = false ∧
      isManager (celled 5 1 (inSys 4 1)) = true ∧ parentPort (rooted (celled 5 1)) = some 1023) ∧
    (let s := lay [] [(.ald, Fld.ALD_CTRL_EN, 1)] (inSys 6 3 { capable := true })
     s.ald.capable = true ∧ cfgB s .ald Fld.ALD_CTRL_EN = true ∧ mstate s = 6 ∧ s.ald.alone + 4000000000 ≤ 4000000000 ∧
     (memberOf s 0).state = 0) ∧
    (let s := rooted (wr (inSys 2 0) .tod Fld.SMP_TOD_STAT_STATUS (2 + 3 * 256))
     mstate s = 2 ∧ servo s = 2 ∧ source s = 3 ∧ s.smp.off3.natAbs ≤ 80 ∧ s.smp.fwHold = false ∧ parentPort s = some 1023) ∧
    (let s := celled 5 5 (inSys 4 1)
     takesCell s 1023 5 ∧ isManager s = true ∧ (memberOf s (memberNumber s 0)).uid = 0) ∧
    (let s := celled 5 6 (inSys 2 0) { beacon := some {} }
     takesCell s 1023 6 ∧ mstate s = 2 ∧ (linkOf s 1023).beacon = some {}) ∧
    (let s := inSys 4 2
     mgrPos s = 2 ∧ (pairLinks s).head? = none ∧
     (s.bndAt : Int) - ((s.stitch : Int) - (newestContent s + 1 : Nat)) * (4 * periodNs s : Nat)
       + (0 + 1024 + 4 * cfg s .ald Fld.ALD_MGR_CFG_MISS_TOL : Nat) < (10000000 : Nat)) ∧
    (let s := inSys 4 2 { lost := true }
     mgrPos s = 2 ∧ s.ald.lost = true ∧ filIdle s = true) ∧
    (let s := celled 5 11
     takesCell s 1023 11 ∧ isManager s = false ∧ rd s .ald Fld.ALD_MGRS_ACTIVE ≠ 1023) ∧
    (0 < periodNs revertible ∧ periodNs revertible ≤ 1000000000 ∧ isManager revertible = true ∧
      rdB revertible .ald Fld.ALD_MGRS_SB_VALID = true ∧
      (memberOf revertible (rd revertible .ald Fld.ALD_MGRS_STANDBY)).state = 3 ∧
      cfgB revertible .ald Fld.ALD_CTRL_REVERT_EN = true ∧ revertible.ald.handAt = none ∧
      revertible.ald.standbyAt + cfg revertible .ald Fld.ALD_MGR_CFG_REVERT_S * 4000000000 ≤ 4000000000000000) ∧
    takesCell (celled 5 12) 1023 12 := by
  unfold takesCell; decide +kernel

theorem witness_AladotraManagers_revert :
    (memberOf revertible (rd revertible .ald Fld.ALD_MGRS_STANDBY)).prio * 2 ^ 64 +
        (memberOf revertible (rd revertible .ald Fld.ALD_MGRS_STANDBY)).uid
      < cfg revertible .ald Fld.ALD_CTRL_MGR_PRIO * 2 ^ 64 + Config.devUid % 2 ^ 64 := by
  have a : (memberOf revertible (rd revertible .ald Fld.ALD_MGRS_STANDBY)).prio = 0 := by decide +kernel
  have b : (memberOf revertible (rd revertible .ald Fld.ALD_MGRS_STANDBY)).uid = 0 := by decide +kernel
  have c : cfg revertible .ald Fld.ALD_CTRL_MGR_PRIO = 1 := by decide +kernel
  rw [a, b, c]; omega

theorem witness_AladotraMembers :
    (let s := rooted (inSys 3 0)
     aldMember s = true ∧ isManager s = false ∧ s.smp.fwHold = false ∧ parentPort s = some 1023 ∧ mstate s = 3) ∧
    (let s := celled 5 7 (inSys 4 1 { member := [(1023, { state := 2 })] })
     takesCell s 1023 7 ∧ isManager s = true ∧ (memberOf s 1023).state = 2) ∧
    (let s := { inSys 4 1 { member := [(1023, { state := 5 })] } with stitch := 2 ^ 40 }
     isManager s = true ∧ 1023 ≠ ownMember s ∧ (memberOf s 1023).state = 5 ∧
     (memberOf s 1023).seen + cfg s .ald Fld.ALD_TIMERS_ABSENT * cfg s .ald Fld.ALD_TIMERS_STATUS_DIV < s.stitch) ∧
    (let s := celled 5 13 (inSys 4 1 { member := [(1023, { state := 2 })] })
     takesCell s 1023 13 ∧ isManager s = true ∧ (memberOf s 1023).state ≠ 0) ∧
    (takesCell (celled 5 13 (inSys 5 0)) 1023 13 ∧ mstate (celled 5 13 (inSys 5 0)) = 5) := by
  unfold takesCell; decide +kernel

theorem witness_AladotraCommits :
    (let s := inSys 4 1
     s.smp.fwHold = false ∧ filIdle s = true ∧ scReason s 0 0 ≠ 0 ∧ scReason s (2 ^ 32) 1 = 0) ∧
    (let s := rooted (celled 5 8 (inSys 3 0))
     filIdle s = true ∧ takesCell s 1023 8 ∧ parentPort s = some 1023 ∧ isManager s = false ∧ mstate s = 3) ∧
    (let c : SysCommit := { cid := 7, staged := true }
     let s := wr (inSys 3 0 { pend := [c] }) .ald Fld.ALD_SC_ACK_CID 7
     c ∈ s.ald.pend ∧ c.cid = rd s .ald Fld.ALD_SC_ACK_CID ∧ c.staged = true ∧ c.acked = false) ∧
    (takesCell (celled 5 9 (inSys 4 1)) 1023 9 ∧ isManager (celled 5 9 (inSys 4 1)) = true) ∧
    (let s := celled 5 10 (inSys 3 0)
     filIdle s = true ∧ takesCell s 1023 10 ∧ mstate s = 3) := by
  unfold takesCell; decide +kernel

/-! ### Host DMA -/

/-- Pair 63 of function 63 is on. -/
def paired (n : NdlSt := {}) : State :=
  wr { up with ndl := n } (.ndlf 63) Fld.NDL_QP_ON_ON (2 ^ 63)

/-- A send of 60 bytes, looked up by hoop 31. -/
def oneSend : Send :=
  { no := 5, first := List.replicate 8 0, ents := [⟨0, 4096, 60, 0⟩], port := 1030, cls := 7, hoop := some 31 }

/-- The key of pair 63 of function 63. -/
def pairKey : Nat := 64 * 63 + 63

theorem witness_HostSends :
    (qpOn up 63 63 = false ∧ qpMayEnable up 63 63 = false) ∧
    (let s := putWord (putWord (putWord up .ndl 2 63 0x400001) (.ndlf 63) 1 (8 * 63 + 4) 0x1010) (.ndlf 63) 1 (8 * 63 + 5) 0x4040
     qpMayEnable s 63 63 = true) ∧
    (qpOn (paired {}) 63 63 = true ∧ fnHalted (paired {}) 63 = false ∧ (txEng (paired {}) 63 63).bad = none) ∧
    (let s := paired { tx := [(pairKey, { reading := true })] }
     qpOn s 63 63 = true ∧ fnHalted s 63 = false ∧ ringParked s 63 63 false = false ∧ (txEng s 63 63).reading = true ∧
     (txEng s 63 63).chain = [] ∧ acctHeld s (txAccount s 63 63) = false) ∧
    (let s := paid (8 * 1030 + 7) (paired { tx := [(pairKey, { sends := [oneSend] })] })
     let b := List.replicate 60 0
     let y : Machine.Frm := { bytes := b, inPort := 1030, hoop := 31, arrival := max s.now 0, stitch := s.stitch, stage := .lookup }
     (txEng s 63 63).old = [] ∧ nextSend (txEng s 63 63) = some oneSend ∧ fnHalted s 63 = false ∧
     ringParked s 63 63 false = false ∧ rrTurn s 1030 (64 * 63 + 63) = true ∧ b.length = chainLen oneSend.ents ∧ bits (oneSend.first.getD 7 0) 30 29 = 0 ∧
     hoopFenced s 31 = false ∧ domainOff s (.prk 31) = false ∧ (openFrame (advance s 0) 1030 7 y).2.isSome = true) ∧
    (let s := paired { tx := [(pairKey, { sends := [{ oneSend with entered := true }] })] }
     (txEng s 63 63).sends = [{ oneSend with entered := true }] ∧ fnHalted s 63 = false ∧
     bit (oneSend.first.getD 7 0) 26 = false) ∧
    (let s := putWord (paired { irq := [(irqKey 63 63 true, ⟨true, 1, some 0⟩)] }) (.ndlf 63) 1 (8 * 63 + 6) 0x10000
     irqSrc s 63 63 true = ⟨true, 1, some 0⟩ ∧ modUs s 63 63 = 1 ∧ 0 + modUs s 63 63 * 4000 ≤ max s.now 4000 ∧
     s.ndl.down = false) := by decide +kernel

/-- The frame 3 at the head of class 7 of CPU port 1030, mapped to pair 63 of function 63. -/
def delivers : State :=
  let s := stored { bytes := List.replicate 60 0, refs := 1 } (paired { store := [(8 * 63, [9])] })
  let s := { s with rs := { s.rs with queue := [(8 * 1024 + 55, [⟨3, none⟩])] } }
  putWord (putWord (putWord s .ndl 1 55 (2 ^ 31 + 63 * 2 ^ 24 + 63 * 2 ^ 16)) .flsc 1 (4 * 63) 1) (.flsf 63) 1 2 1

/-- The same, the frame taken up by the Needle, with what else it knows of the queue. -/
def delivering (d : Option Deliv) : State := putWait delivers 55 { seen := some 3, held := d }

theorem witness_HostReceive :
    (let s := delivers
     let y := cpuTake (advance s 4) 6 7
     let w := word s .ndl 1 55
     bits w 29 24 = 63 ∧ bits w 21 16 + (frm s 3).res.sk.digest % 2 ^ 32 % 2 ^ bits w 14 12 = 63 ∧ cpuHead y 55 = some 3 ∧
     (rxWait y 55).held = none ∧ s.ndl.down = false ∧ bit w 31 = true ∧ bit w 11 = false ∧ fenced s (.ndlf 63) = false ∧
     qpOn s 63 63 = true ∧ ringParked s 63 63 true = false ∧ (rxEng s 63 63).full = false ∧
     poolFor s 63 (frmLen (frm s 3)) = some 0 ∧ poolStore y 63 0 = [9]) ∧
    (let s := delivers
     cpuHead s 55 = none ∧ rxWait s 55 = {} ∧ chooseClass (retag (advance s 4) 1030) 1030 = some 7 ∧
     readyHead (retag (advance s 4) 1030) 1030 7 = some 3) ∧
    (let s := delivering none
     cpuHead s 55 = some 3 ∧ (rxWait s 55).held = none ∧ s.ndl.down = false ∧ bit (word s .ndl 1 55) 31 = true ∧
     bit (word (putWord s .ndl 1 55 0) .ndl 1 55) 31 = false ∧
     poolFor (putWord s (.flsf 63) 1 2 0) 63 (frmLen (frm s 3)) = none) ∧
    (let d : Deliv := ⟨63, [63, 0], 9⟩
     let s := delivering (some d)
     cpuHead s 55 = some 3 ∧ (rxWait s 55).held = some d ∧ fnHalted s 63 = false ∧ d.qs.Nodup ∧
     (∀ r ∈ d.qs, ringParked s 63 r true = false)) := by decide +kernel

/-- A queue whose frames go to two rings shares a buffer of the pool. -/
theorem witness_HostReceive_shares :
    (let s := putWord (putWord delivers .ndl 1 55 (2 ^ 31 + 63 * 2 ^ 24 + 63 * 2 ^ 16 + 2 ^ 11)) .flsc 2 63 0x10000
     let w := word s .ndl 1 55
     bit w 11 = true ∧ bits w 5 0 = 0 ∧ bits w 21 16 = 63 ∧ nextShare (cpuTake s 6 7) 63 = some 0) ∧
    ((poolStore delivers 63 0).length = quota delivers 63 0 ∧ (poolStore up 63 7).length ≤ quota up 63 7) ∧
    (let s := putWord { up with ndl := { share := [(0, 1)] } } .flsc 2 63 0x10000
     shareQuota s 63 ≠ 0 ∧ shareCount s (shareBase s 63 + 4095 % shareQuota s 63) = 1) := by decide +kernel

theorem witness_HostTranslations :
    (let s := paired { tx := [(pairKey, { reading := true })] }
     qpOn s 63 63 = true ∧ fnHalted s 63 = false ∧ ringParked s 63 63 false = false ∧ (txEng s 63 63).reading = true) ∧
    (let p : Park := ⟨63, 63, true, true, 4096⟩
     let s := paired { park := [p] }
     s.ndl.park.find? (fun x => x.f == 63 && x.q == 63 && x.rx == true && x.sent) = some p ∧
     (∀ x ∈ s.ndl.park, x.f = 63 → x.sent = true) ∧ fenced s (.ndlf 63) = false) ∧
    (up.ndl.down = false ∧ ({ up with pwr := { d3 := .ready } } : State).pwr.d3 = .ready) ∧
    ({ up with ndl := { down := true } } : State).ndl.down = true := by decide +kernel

/-! ### Power -/

/-- What the power controller holds. -/
def powered (p : PwrSt) : State := { up with pwr := p }

theorem witness_PowerLevels :
    (let s := powered { seq := [(7, some { target := 3 })], thr := [(7, { pair := 3 })] }
     levelEff s 7 = 3 ∧ levelSeq s 7 = some { target := 3 }) ∧
    (let s := powered { seq := [(7, some { target := 0 })], thr := [(7, { pair := 3 })] }
     levelEff s 7 ≠ 0 ∧ levelEff s 7 < 4 ∧ levelSeq s 7 = some { target := 0 }) ∧
    (let s := powered { seq := [(7, some { target := 0, resent := true })] }
     levelSeq s 7 = some { target := 0, resent := true } ∧ levelEff s 7 = 0) ∧
    levelSeq up 7 = none := by decide +kernel

theorem witness_PowerThrottles :
    up.pwr.supply = .on ∧
    (let s := powered { skewEnd := [(7, true)], thr := [(7, { pair := 2 })] }
     tabGet s.pwr.skewEnd false 7 = true ∧ (thrOfPanel s 7).loweredAt + 40000000 ≤ max s.now 40000000 ∧ levelEff s 7 < 3) ∧
    (let s := powered { thr := [(7, { pair := 1, calmAt := 1, coolAt := 1 })] }
     let x := thrOfPanel s 7
     let v := max s.now 400000000
     (x.calmAt ≠ 0 ∧ x.calmAt + 400000000 ≤ v + 1 ∧ tabGet s.pwr.skewEnd false 7 = false ∧ x.stepAt + 400000000 ≤ v ∧
       x.loweredAt + 400000000 ≤ v ∧ x.pair ≠ 0 ∧ x.tj = 0 ∧ x.pair - 1 ≤ cfg s .pwr (Fld.PWR_LEVEL_REQ 7)) ∧
     (x.coolAt ≠ 0 ∧ x.coolAt + 400000000 ≤ v + 1)) ∧
    tabGet up.pwr.skewEnd false 7 = false ∧
    (let s := powered { temp := [(7, 801)], thr := [(7, { tj := 3 })] }
     (8 * cfg s .pwr Fld.PWR_CFG_TJ_HOT : Nat) < tileTemp s 7 ∧ kindsFor s [(7, 2)] 7 = [2] ∧ 3 ≤ levelEff s 7) :=
  by decide +kernel

theorem witness_HoopEntries :
    (let s := lay [] [(.hop 31, Fld.HOP_PWR_CTRL_IDLE_US, 10)] up
     let idle := cfg s (.hop 31) Fld.HOP_PWR_CTRL_IDLE_US
     entryMayStart s 31 = true ∧ hoopState s 31 = 0 ∧ idle ≠ 0 ∧ hoopWork s 31 = false ∧ hoopFrames s 31 = false ∧
     hoopQueued s 31 = false ∧ hoopMoves s 31 = false ∧ tabGet s.pwr.idleFrom 0 31 + 4000 * idle ≤ max s.now 40000) ∧
    (let s := lay [(.hop 31, Fld.HOP_PWR_STAT_STATE, 1)]
       [(.hop 31, Fld.HOP_PWR_CTRL_H2_EN, 1), (.hop 31, Fld.HOP_PWR_CTRL_H2_IDLE_MS, 1)] up
     let ms := cfg s (.hop 31) Fld.HOP_PWR_CTRL_H2_IDLE_MS
     entryMayStart s 31 = true ∧ hoopState s 31 = 1 ∧ cfgB s (.hop 31) Fld.HOP_PWR_CTRL_H2_EN = true ∧ ms ≠ 0 ∧
     tabGet s.pwr.h1At 0 31 + 4000000 * ms ≤ max s.now 4000000) ∧
    (let s := lay [(.hop 31, Fld.HOP_PWR_STAT_STATE, 3)] [] (powered { entry := [(31, some { h2 := true, agreed := 0 })] })
     hoopEntry s 31 = some { h2 := true, agreed := 0 } ∧ s.sleepDue = [] ∧ tabGet s.pwr.softDue false 31 = false ∧
     hoopRefuses s 31 0 = false) ∧
    hoopEntry up 31 = none := by decide +kernel

theorem witness_HoopWakes :
    (∀ v ∈ [0, 1, 2, 3, 4],
      let s := wr up (.hop 31) Fld.HOP_PWR_STAT_STATE v
      s.sleepDue = [] ∧ tabGet s.pwr.softDue false 31 = false ∧ hoopState s 31 = v ∧ hoopFenced s 31 = false ∧
      hoopEntry s 31 = none) ∧
    rdB (wr up (.hop 31) Fld.HOP_PWR_STAT_PAD_HELD 1) (.hop 31) Fld.HOP_PWR_STAT_PAD_HELD = true := by decide +kernel

theorem witness_DeviceSleep :
    (∀ k ∈ [0, 1, 3, 4, 5, 6], (powered { d3 := .entering k 0 }).pwr.d3 = .entering k 0 ∧ d3Refuses (powered {}) k = false) ∧
    d3Refuses (inSys 3 0) 0 = true ∧
    (let s := wr (powered { d3 := .entering 2 31 }) (.hop 31) Fld.HOP_PWR_STAT_STATE 2
     s.pwr.d3 = .entering 2 31 ∧ hoopState s 31 = 2) ∧
    (powered { d3 := .ready }).pwr.d3 = .ready := by decide +kernel

theorem witness_DeviceWakes :
    ((powered { d3 := .asleep }).pwr.railLost = false ∧ (powered { d3 := .asleep }).pwr.d3 = .asleep) ∧
    (up.pwr.d3 = .awake ∧ rdB up .pwr Fld.PWR_PAD_STAT_PAD_HELD = false) ∧
    (let s := lay [(.pwr, Fld.PWR_WAKE_EN_EN, 15), (.pwr, Fld.PWR_SMB_WAKE_ADDR1, 127), (.pwr, Fld.PWR_GPIO_WAKE_MASK, 2 ^ 31),
       (.pwr, Fld.PWR_WAKE_EN_TIMER_EN, 1), (.pwr, Fld.PWR_D3_CTRL_WAKE_AT_EN, 1)] [] (powered { d3 := .asleep })
     bit (rd s .pwr Fld.PWR_WAKE_EN_EN) 1 = true ∧ 127 = rd s .pwr Fld.PWR_SMB_WAKE_ADDR1 ∧ s.pwr.d3 = .asleep ∧
     bit (rd s .pwr Fld.PWR_WAKE_EN_EN) 3 = true ∧ bit (rd s .pwr Fld.PWR_GPIO_WAKE_MASK) 31 = true ∧
     rdB s .pwr Fld.PWR_WAKE_EN_TIMER_EN = true ∧ rdB s .pwr Fld.PWR_D3_CTRL_WAKE_AT_EN = true ∧
     bk s .pwr Fld.PWR_WAKE_AT_LO_AT + 2 ^ 32 * bk s .pwr Fld.PWR_WAKE_AT_HI_AT ≤ 0 ∧ s.pwr.railLost = false) ∧
    (let s := lay [(.hop 31, Fld.HOP_PWR_STAT_STATE, 2)] [(.mac 1023, Fld.MAC_WAKE_CFG_WAKE_EN, 1), (.mac 1023, Fld.MAC_WAKE_CFG_ANY_EN, 1)] up
     hoopState s 31 = 2 ∧ cfgB s (.mac 1023) Fld.MAC_WAKE_CFG_WAKE_EN = true ∧ hoopFenced s 31 = false ∧
     s.pwr.d3 ≠ .asleep ∧ wakeKind s 1023 (List.replicate 60 0) ≠ 0) := by decide +kernel

theorem witness_ChannelsAndPorts :
    (let s := lay [] [(.ddr 31, Fld.DDR_ERR_CFG_CE_LIMIT, 1)] up
     cfg s (.ddr 31) Fld.DDR_ERR_CFG_CE_LIMIT ≠ 0 ∧ cfg s (.ddr 31) Fld.DDR_ERR_CFG_CE_LIMIT < 2 ∧
     fenced s (.ddr 31) = false ∧ rd s .err Fld.ERR_DDR_SPARE_STATE = 0) ∧
    rd (wr up .err Fld.ERR_DDR_SPARE_STATE 2) .err Fld.ERR_DDR_SPARE_STATE ≠ 0 ∧
    (let s := lay [(.err, Fld.ERR_DDR_SPARE_STATE, 1), (.err, Fld.ERR_DDR_SPARE_CHANNEL, 31)] [] up
     rd s .err Fld.ERR_DDR_SPARE_CHANNEL = 31 ∧ rd s .err Fld.ERR_DDR_SPARE_STATE = 1) ∧
    (let s := powered { run := [(7, 15)] }
     rdB s (.pnl 7) Fld.PNL_D2D_STAT_TRAINING = false ∧ 16 ≤ replayRun s 7 + 1) ∧
    rdB (lay [(.pnl 7, Fld.PNL_D2D_STAT_TRAINED, 0), (.pnl 7, Fld.PNL_D2D_STAT_TRAINING, 1)] [] up) (.pnl 7)
      Fld.PNL_D2D_STAT_TRAINED = false := by decide +kernel

/-- The page `p` is fenced. -/
def walled (p : Page) (s : State := up) : State := wr s p Fld.PAGE_FENCE_FENCED 1

theorem witness_SoftwareFences :
    (pageOf (pageBase (.hop 31)) = some (.hop 31) ∧ hoopFenced up 31 = false ∧ hoopEntry up 31 = none) ∧
    (pageOf (pageBase (.bob 511)) = some (.bob 511) ∧ fenced up (.bob 511) = false ∧ hoopFenced up (511 / 16) = false) ∧
    (pageOf (pageBase (.ndlf 63)) = some (.ndlf 63) ∧ fenced up (.ndlf 63) = false) ∧
    (pageOf (pageBase (.ch 2)) = some (.ch 2) ∧ fenced up (.ch 2) = false ∧ voters up ≠ [2] ∧
      voters (walled (.ch 0) (walled (.ch 1))) = [2]) ∧
    (pageOf (pageBase (.mac 1023)) = some (.mac 1023) ∧ fenced up (.mac 1023) = false ∧ hoopFenced up (1023 / 32) = false ∧
      isAld (lay [] [(.lan 1023, Fld.LAN_MODE_CODING, 1)] up) 1023 = true) ∧
    (∀ p ∈ [Page.hop 31, .bob 511, .ch 2, .mac 1023], fenced (walled p) p = true) ∧
    rdB (wr (walled (.ch 2)) (.ch 2) Fld.SMP_CH_STAT_CLK_OK 1) (.ch 2) Fld.SMP_CH_STAT_CLK_OK = true ∧
    tabGet up.pwr.reset false 31 = false ∧
    (let s := walled (.hop 31) (powered { reset := [(31, true)] })
     tabGet s.pwr.reset false 31 = true ∧ hoopFenced s 31 = true ∧ s.sleepDue = []) := by decide +kernel

theorem witness_ResetsAndPowerLoss :
    (up.pwr.supply = .on ∧ up.pwr.railLost = false ∧ up.mor.req = none ∧
      ({ up with mor := { req := some 3 } } : State).mor.req.isSome = true) ∧
    ((powered { supply := .tripped }).pwr.supply = .tripped ∧ ∀ i < 10, tileTemp (powered { supply := .tripped }) i < 840) ∧
    (powered { supply := .off }).pwr.supply = .off ∧
    (let s := powered { temp := [(9, 920)] }
     s.pwr.supply = .on ∧ 920 ≤ tileTemp s 9) ∧
    rd up .mor Fld.MOR_BOOT_BOOT ≠ 3 ∧ (powered { d3 := .asleep }).pwr.d3 = .asleep := by decide +kernel

theorem witness_FunctionAndSoftResets :
    (up.pwr.d3 ≠ .asleep ∧ (powered { d3 := .entering 6 0 }).pwr.d3 = .entering 6 0 ∧
      (powered { d3 := .asleep }).pwr.d3 = .asleep) ∧
    (softState up = 0 ∧ (32768 + 65536 - reqStitch up % 65536) % 65536 ≤ 32769 ∧
      softState (wr up .glb Fld.GLB_RESET_CAUSE_SOFT_STATE 2) = 2) := by decide +kernel

/-! ### Registers, commits and indirect pairs -/

/-- Its stitch has come to its close, and nothing of the system is due. -/
theorem witness_CommitWindow_and_StitchBoundaries :
    (up.closed = false ∧ up.pwr.supply = .on ∧ up.pwr.d3 ≠ .asleep) ∧
    (let s := { up with closed := true }
     s.closed = true ∧ s.perReq = none ∧ s.ald.pend = [] ∧ s.ald.joinAt = none ∧ s.ald.leaveAt = none ∧
     s.ald.handAt = none ∧ isManager s = false ∧ s.pwr.softNow = false) := by decide +kernel

theorem witness_CommitAndPeriodRequests :
    pageAt up (pageBase (.hop 31)) = some (.hop 31) ∧ (pageCaps (.hop 31)).hasShadow = true ∧ 999999 < 2 ^ 20 := by
  decide +kernel

theorem witness_FirmwareAndVector0 :
    (let s := wr up .tod Fld.SMP_TOD_STAT_STATUS 2
     servo s = 2) ∧ servo up ≠ 2 ∧ irq0Cond up 63 = false := by decide +kernel

theorem witness_RegisterWrites :
    (pageAt up (pageBase .stitch + Fld.SMP_STITCH_CTRL_SCHED_EN.off) = some .stitch ∧
      Fld.SMP_STITCH_CTRL_SCHED_EN ∈ regFields .stitch ((pageBase .stitch + Fld.SMP_STITCH_CTRL_SCHED_EN.off) % 0x1000 / 4 * 4) ∧
      0x080 ≤ Fld.SMP_STITCH_CTRL_SCHED_EN.off ∧
      (∀ g ∈ regFields .stitch ((pageBase .stitch + Fld.SMP_STITCH_CTRL_SCHED_EN.off) % 0x1000 / 4 * 4), g.access ≠ .wo)) ∧
    (pageAt up (pageBase (.mac 1023) + 0x018) = some (.mac 1023) ∧ (pageBase (.mac 1023) + 0x018) % 0x1000 / 4 * 4 = 0x018 ∧
      Fld.MAC_STICKY_WAKE ∈ regFields (.mac 1023) 0x018) ∧
    (∃ a, unmapped up a = true) ∧
    (pageAt up (pageBase .pwr + 0x09C) = some .pwr ∧ (pageBase .pwr + 0x09C) % 0x1000 / 4 * 4 = 0x09C) ∧
    (pageAt up (pageBase (.fil 7) + Fld.FIL_CMD_KEY_HI_KEY.off) = some (.fil 7) ∧
      regFields (.fil 7) ((pageBase (.fil 7) + Fld.FIL_CMD_KEY_HI_KEY.off) % 0x1000 / 4 * 4) = [Fld.FIL_CMD_KEY_HI_KEY]) := by
  refine ⟨by decide +kernel, by decide +kernel, ⟨0x0FFFFFFC, by decide +kernel⟩, by decide +kernel, by decide +kernel⟩

theorem witness_AccessesAndScrubbing :
    (pageAt up (pageBase (.lan 1023)) = some (.lan 1023) ∧
      xingOf { up with xing := [(pageBase (.lan 1023), [.event 0])] } (.lan 1023) = .event 0 :: [] ∧
      domainOff up (.lan 1023) = false) ∧
    (windowAt 0x183FFFFC = some 63 ∧ pageAt up 0x183FFFFC = none) ∧
    (∃ f ∈ pageFields (.ch 2), f.access = .rwv ∧ (regFields (.ch 2) f.off).find? (fun g => g.lo == f.lo && g.access == .rwv) = some f ∧
      tabGet up.vote {} (voteKey (.ch 2) f true) = {} ∧ cfg up (.ch 2) f < 2 ^ f.width ∧
      resolve (cfg up (.ch 2) f) { a := { bad := true }, b := { bad := true } } = none ∧ voters up ≠ [2]) := by
  decide +kernel

theorem witness_CommitAndPeriodRequests' :
    (sysHeld up (pageGroup up (.hop 31)) = false ∧
      1 ≤ (32768 + reqStitch up + 65536 - reqStitch up % 65536) % 65536 ∧
      (32768 + reqStitch up + 65536 - reqStitch up % 65536) % 65536 ≤ 32768) ∧
    (1000000000 % 1000 = 0 ∧ ¬ (aldMember up = true) ∧ up.perReq = none) ∧
    ((groupSt { up with groups := [(15, { req := some .untargeted })] } 15).req ≠ none) := by decide +kernel

/-- The pair of the Reseau page stands at word `w` of space 3, with step `step`, and writes or reads. -/
def pairAt (step w : Nat) (dir : Nat) (x : IndSt := {}) : State :=
  lay [(.rsx, Fld.PAGE_IND_CTRL_SPACE, 3), (.rsx, Fld.PAGE_IND_CTRL_STEP, step), (.rsx, Fld.PAGE_IND_CTRL_DIR, dir),
    (.rsx, Fld.PAGE_IND_ADDR_ADDR, w)] [] { up with pair := [(pageBase .rsx, x)] }

theorem witness_IndirectReads :
    (pageAt up (pageBase .rsx) = some .rsx ∧ (pageCaps .rsx).hasInd = true ∧ (pairOf up .rsx).fetching = false ∧
      (pairOf up .rsx).buf = []) ∧
    (∃ sp, pageSpace .rsx (indSpace (pairAt 1 0 0) .rsx) = some sp ∧ sp.fifo = false ∧
      indErr (pairAt 1 0 0) .rsx = 0 ∧ indDir (pairAt 1 0 0) .rsx = false ∧ indStep (pairAt 1 0 0) .rsx = some 1 ∧
      (pairOf (pairAt 1 0 0 { snap := some (3, 0, []) }) .rsx).snap = some (indSpace (pairAt 1 0 0) .rsx, 0, []) ∧
      0 = indAddr (pairAt 1 0 0) .rsx / sp.width ∧ transferErr (pairAt 1 0 0) .rsx 3 0 false = 0) ∧
    indDir (pairAt 1 0 1) .rsx = true ∧
    (pageAt up (pageBase .err) = some .err ∧
      (let s := wr up .err Fld.PAGE_IND_CTRL_SPACE 2
       indErr s .err = 0 ∧ indDir s .err = false ∧ indSpace s .err = 2 ∧ (pairOf s .err).fetching = false ∧
       domainOff s .err = false)) := by
  refine ⟨by decide +kernel, ?_, by decide +kernel, by decide +kernel⟩
  exact ⟨_, by rfl, by decide +kernel⟩

theorem witness_IndirectWrites :
    (∃ sp, pageSpace .rsx (indSpace (pairAt 1 33 1) .rsx) = some sp ∧ sp.fifo = false ∧ indErr (pairAt 1 33 1) .rsx = 0 ∧
      indDir (pairAt 1 33 1) .rsx = true ∧
      (let s := pairAt 1 33 1 { staged := List.replicate 33 0, buf := [] }
       bufWords (pairOf (pairAt 1 0 1) .rsx) < 16 ∧ transferErr s .rsx 3 33 true = 0 ∧ indStep s .rsx = some 1)) ∧
    (∃ sp, pageSpace .rsx 3 = some sp ∧
      (pairOf (pairAt 1 0 1 { buf := [⟨3, 16383, []⟩] }) .rsx).buf = ⟨3, 16383, []⟩ :: []) := by
  refine ⟨⟨_, by rfl, by decide +kernel⟩, ⟨_, by rfl, by decide +kernel⟩⟩

/-! ### The whole block -/

theorem witness_StepRunsTheFront :
    ({ up with pending := [.commitClose] } : State).pending = .commitClose :: [] ∧ up.pending = [] := by decide +kernel

theorem witness_CanonicalKept : canonical up ∧ step up = .next up := by
  refine ⟨⟨by decide +kernel, by decide +kernel, by decide +kernel, by decide +kernel, by decide +kernel, by decide +kernel,
    ?_, by decide +kernel⟩, rfl⟩
  intro b t r
  unfold gReg
  split
  · decide
  · show tabGet ([] : Tab Nat) 0 r < 2 ^ 64
    simp [tabGet, tabFind]

theorem witness_LifeCycle :
    (∀ n < 5, bit ({ up with mor := { t := 0 } } : State).mor.t n = false) ∧
    (bit ({ up with mor := { t := 31 } } : State).mor.t 4 = true) ∧ bit up.mor.t 0 = true ∧
    transitionOk 1 4 = true ∧ transitionOk 4 1 = false := by decide +kernel

/-! ### The Mordant -/

/-- A request runs with its arguments, the nonce and the identity of the device; no signature stands in the buffer. -/
def asks (op : Nat) (args : List Nat) (m : MorSt := {}) : State :=
  let ws := [op + 65536 * args.length, trunc 32 (Config.free 12 m.served), Config.devUid % 2 ^ 32,
    Config.devUid / 2 ^ 32 % 2 ^ 32] ++ args
  { up with mor := { m with req := some op }, ind := ws.zipIdx.map (fun x => (wordKey .glb 1 x.2, x.1)) }

theorem asks_check2 (op : Nat) (args : List Nat) (m : MorSt) : check2 (asks op args m) = true := by
  have a : word (asks op args m) .glb 1 1 = morNonce (asks op args m) := rfl
  have b : word (asks op args m) .glb 1 2 = Config.devUid % 2 ^ 32 := rfl
  have c : word (asks op args m) .glb 1 3 = Config.devUid / 2 ^ 32 % 2 ^ 32 := rfl
  simp [check2, a, b, c]

theorem morCheck_passes (s : State) (op : Nat) (cs : List FlashCopy) (h1 : check1 s op = true) (h2 : check2 s = true)
    (h3 : check3 s op = true) (h4 : check4 s op = true) (h5 : check5 s op = true) (h6 : check6 s op cs = true) :
    morCheck s op cs = 0 := by
  simp [morCheck, h1, h2, h3, h4, h5, h6]

/-- A key of 12 words, and the lane map that changes nothing. -/
def someKey : List Nat := List.replicate 11 0 ++ [7]
def plainLanes : List Nat := (List.range 256).map (fun i => if i % 2 = 0 then 0x1B120900 else 0x3F362D24)

theorem witness_MordantBurns :
    morCheck (asks 3 someKey) 3 [] = 0 ∧ morCheck (asks 5 [128]) 5 [] = 0 ∧ morCheck (asks 6 plainLanes) 6 [] = 0 ∧
    morCheck (asks 10 someKey) 10 [] = 0 ∧ (asks 10 someKey).mor.resetDue = none ∧
    (∀ a ∈ reqArgs (asks 3 someKey), a < 2 ^ 32) ∧ (∃ a ∈ reqArgs (asks 3 someKey), a ≠ 0) := by
  refine ⟨morCheck_passes _ _ _ ?_ (asks_check2 _ _ _) ?_ ?_ ?_ ?_, morCheck_passes _ _ _ ?_ (asks_check2 _ _ _) ?_ ?_ ?_ ?_,
    morCheck_passes _ _ _ ?_ (asks_check2 _ _ _) ?_ ?_ ?_ ?_, morCheck_passes _ _ _ ?_ (asks_check2 _ _ _) ?_ ?_ ?_ ?_,
    rfl, ?_, ?_⟩ <;> decide +kernel

/-- A device in FIELD state whose owner key is `someKey`. -/
def owned : MorSt := { t := 3, keys := [(0, someKey)] }

/-- The owner of a device, who holds its key, rotates it. -/
theorem witness_MordantBurns_rotate (c : FlashCopy) (hc : c.endorsed.contains someKey = true)
    (h : reqSigned (asks 4 someKey owned) (ownerKey (asks 4 someKey owned)) = true) :
    morCheck (asks 4 someKey owned) 4 [c, c] = 0 := by
  refine morCheck_passes _ _ _ ?_ (asks_check2 _ _ _) ?_ h ?_ ?_
  · decide +kernel
  · decide +kernel
  · decide +kernel
  · have e : reqArgs (asks 4 someKey owned) = someKey := by decide +kernel
    simp only [check6, e, List.all_cons, List.all_nil, hc, Bool.and_self]

theorem witness_MordantOperations :
    morCheck (asks 8 (1024 :: List.replicate 256 0)) 8 [] = 0 ∧ morCheck (asks 9 []) 9 [] = 0 ∧
    (asks 9 []).mor.req = some 9 := by
  refine ⟨morCheck_passes _ _ _ ?_ (asks_check2 _ _ _) ?_ ?_ ?_ ?_, morCheck_passes _ _ _ ?_ (asks_check2 _ _ _) ?_ ?_ ?_ ?_, rfl⟩ <;>
  decide +kernel

/-- Where a signature by the owner's key verifies, its TRANSITION to LOCKED and its DEBUG_GRANT pass the checks. -/
theorem witness_MordantOperations_signed
    (h : reqSigned (asks 1 [3] owned) (ownerKey (asks 1 [3] owned)) = true)
    (d : reqSigned (asks 7 [] { owned with debugKey := someKey }) (some someKey) = true) :
    morCheck (asks 1 [3] owned) 1 [] = 0 ∧ morCheck (asks 7 [] { owned with debugKey := someKey }) 7 [] = 0 := by
  refine ⟨morCheck_passes _ _ _ ?_ (asks_check2 _ _ _) ?_ h ?_ ?_, morCheck_passes _ _ _ ?_ (asks_check2 _ _ _) ?_ ?_ ?_ ?_⟩
  all_goals first
    | exact d
    | decide +kernel

/-- On a device that has role bits, PROVISION changes the role without a signature. -/
theorem witness_MordantOperations_role (h : Config.variant ≠ 1) : morCheck (asks 2 [0]) 2 [] = 0 := by
  have r : roleBits (asks 2 [0]) = 1 := by simp [roleBits, h]; rfl
  have a : reqArg (asks 2 [0]) 0 = 0 := by decide +kernel
  refine morCheck_passes _ _ _ ?_ (asks_check2 _ _ _) ?_ ?_ ?_ ?_
  · have o : opArgs 2 = some (reqLen (asks 2 [0])) ∧ reqOp (asks 2 [0]) = 2 := by decide +kernel
    simp [check1, ← o.1, o.2, argBad, a, roleFuse, r]
  · decide +kernel
  · decide +kernel
  · have m : (asks 2 [0]).mor.role = 0 := rfl
    simp [check5, roleLeft, h, m]
  · decide +kernel

theorem witness_MordantRefusals :
    (asks 3 []).mor.req = some 3 ∧ check1 (asks 3 []) 3 = false ∧
    (check1 (asks 10 someKey { debugKey := someKey }) 10 = true ∧ check2 (asks 10 someKey { debugKey := someKey }) = true ∧
      check3 (asks 10 someKey { debugKey := someKey }) 10 = false) ∧
    (check1 (asks 4 someKey) 4 = true ∧ check3 (asks 4 someKey) 4 = true ∧ check4 (asks 4 someKey) 4 = false) ∧
    (check1 (asks 6 (List.replicate 256 0)) 6 = true ∧ check3 (asks 6 (List.replicate 256 0)) 6 = true ∧
      check4 (asks 6 (List.replicate 256 0)) 6 = true ∧ check5 (asks 6 (List.replicate 256 0)) 6 = true ∧
      check6 (asks 6 (List.replicate 256 0)) 6 [] = false) := by
  refine ⟨rfl, ?_, ⟨?_, asks_check2 _ _ _, ?_⟩, ?_, ?_⟩ <;> decide +kernel

/-! ### Well-formedness: for each check a term that it refuses -/

/-- News of no content. -/
def news : PtpNews := ⟨0, 0, 0, 0, false, none, 0, none⟩

theorem test_wf_refuses_1 : ([
    .perstDeassert 18446744073709551616, .registerWrite 536870912 4294967295 .host false,
    .registerWrite 536870911 4294967296 .host false, .splitHiWrite 536870912 4294967295 .host,
    .splitHiWrite 536870911 4294967296 .host, .malformedAccess 536870912 .write, .unmappedAccess 536870912 false,
    .commitGo 536870912 false 65535, .commitGo 536870911 false 65536, .commitCancel 536870912 false 65535,
    .commitCancel 536870911 false 65536, .indCtrlWrite 536870912 15 7 false, .indCtrlWrite 536870911 16 7 false,
    .indCtrlWrite 536870911 15 8 false, .indAddrWrite 536870912 4294967295, .indAddrWrite 536870911 4294967296,
    .indDataRead 536870912, .indDataWrite 536870912 4294967295, .indDataWrite 536870911 4294967296,
    .indFetchDone 536870912 [], .indWriteDone 536870912, .crossingDeliver 536870912, .scrubVisit 536870912 31 false {},
    .scrubVisit 536870911 32 false {}, .cntClr 536870912, .fenceReq 536870912, .fenceRelease 536870912,
    .hoopResetDone 32, .periodReq 1048576, .signalRise 1024, .signalFall 1024, .cdrLockAcquired 1024,
    .cdrLockLost 1024, .adaptComplete 1024 false, .trainDone 1024, .trainFail 1024, .trainRestart 1024,
    .trainStepRequest 1024 3 false, .trainStepRequest 1023 4 false, .txTapStep 1024] : List Instr).all (fun c => !c.wf) = true := by decide +kernel

theorem test_wf_refuses_2 : ([
    .stuffInsert 1024 [1] 0, .stuffInsert 1023 [2] 0, .stuffDiscard 1024 [3], .stuffDiscard 1023 [4],
    .quietEntry 1024 2000, .quietExit 1024, .quietExitBoundary 1024, .quietMaxExit 1024,
    .burstEnd 1024 false, .chkSyncAcquired 1024 [3], .chkSyncAcquired 1023 [4], .chkSyncLost 1024 [3], .chkSyncLost 1023 [4], .chkClr 1024, .evtClr 1024, .injOne 1024,
    .injectPeriodic 1024, .linkUp 1024 0, .linkDown 1024 0 false, .fecUnlock 1024 0, .remoteFaultRx 1024,
    .rxFrame 1024 0 [255] .more false [], .rxFrame 1023 0 [256] .more false [], .pauseRx 1024 0 65535,
    .pauseRx 1023 0 65536, .pfcRx 1024 0 255 [], .pfcRx 1023 0 256 [], .pauseTimerExpiry 1024 7 0,
    .pauseTimerExpiry 1023 8 0, .pauseWdFire 1024 7 0, .pauseWdFire 1023 8 0, .pauseWdIgnoreEnd 1024 7 0,
    .pauseWdIgnoreEnd 1023 8 0, .pauseHoldRequest 1024 7 0, .pauseHoldRequest 1023 8 0, .pauseReleaseRequest 1024 7 0,
    .pauseReleaseRequest 1023 8 0, .pauseRepeat 1024 0, .wakePatternMatch 1024 [255] 18446744073709551615,
    .wakePatternMatch 1023 [256] 18446744073709551615, .wakePatternMatch 1023 [255] 18446744073709551616] : List Instr).all (fun c => !c.wf) = true := by decide +kernel

theorem test_wf_refuses_3 : ([
    .mcReplicate 1056 [], .txOpportunity 1056 0 [], .txFrameComplete 1024 0 [], .internalSourceResume 1056 7,
    .internalSourceResume 1055 8, .mirrorCopy 8 0, .recircFeed 8 0, .gateEdge 1056 0, .gateListStart 1024 0,
    .glSyncDone 1024, .prkSyncDone 32, .clsRetire 8 262143, .clsRetire 7 262144, .clsUnstage 8 262143,
    .clsUnstage 7 262144, .clsKeep 8 262143, .clsKeep 7 262144, .learnApply 8 [], .filSearch 8 [], .filNext 8 [], .filInsert 8 [],
    .filDelete 8 [], .flushByPort 8 [], .filDiscardStaged 8 [], .filCleanupDone 8, .filCmdResume 8 [], .sknSearch 32 false,
    .sknRead 32 false, .sknUpdate 32, .sknEvict 32, .sknPin 32, .sknUnpin 32, .sknDiscardStaged 32,
    .sknOverlayMerge 32, .workDispatch 512 3, .workDispatch 511 4, .frameQueueAdmit 512, .bobAdd 512 3 0 .ok,
    .bobAdd 511 4 0 .ok, .bobSub 512 3 0 .ok] : List Instr).all (fun c => !c.wf) = true := by decide +kernel

theorem test_wf_refuses_4 : ([
    .bobSub 511 4 0 .ok, .bobAnd 512 3 0 .ok, .bobAnd 511 4 0 .ok, .bobOr 512 3 0 .ok, .bobOr 511 4 0 .ok,
    .bobXor 512 3 0 .ok, .bobXor 511 4 0 .ok, .bobShl 512 3 0 .ok, .bobShl 511 4 0 .ok, .bobShr 512 3 0 .ok,
    .bobShr 511 4 0 .ok, .bobSar 512 3 0 .ok, .bobSar 511 4 0 .ok, .bobMul 512 3 0 .ok, .bobMul 511 4 0 .ok,
    .bobMulhu 512 3 0 .ok, .bobMulhu 511 4 0 .ok, .bobMin 512 3 0 .ok, .bobMin 511 4 0 .ok, .bobMax 512 3 0 .ok,
    .bobMax 511 4 0 .ok, .bobMinu 512 3 0 .ok, .bobMinu 511 4 0 .ok, .bobMaxu 512 3 0 .ok, .bobMaxu 511 4 0 .ok,
    .bobSlt 512 3 0 .ok, .bobSlt 511 4 0 .ok, .bobSltu 512 3 0 .ok, .bobSltu 511 4 0 .ok, .bobPopcnt 512 3 0 .ok,
    .bobPopcnt 511 4 0 .ok, .bobBswap 512 3 0 .ok, .bobBswap 511 4 0 .ok, .bobAddi 512 3 0 .ok, .bobAddi 511 4 0 .ok,
    .bobAndi 512 3 0 .ok, .bobAndi 511 4 0 .ok, .bobOri 512 3 0 .ok, .bobOri 511 4 0 .ok, .bobXori 512 3 0 .ok] : List Instr).all (fun c => !c.wf) = true := by decide +kernel

theorem test_wf_refuses_5 : ([
    .bobXori 511 4 0 .ok, .bobShiftiShl 512 3 0 .ok, .bobShiftiShl 511 4 0 .ok, .bobShiftiShr 512 3 0 .ok,
    .bobShiftiShr 511 4 0 .ok, .bobShiftiSar 512 3 0 .ok, .bobShiftiSar 511 4 0 .ok, .bobLui 512 3 0 .ok,
    .bobLui 511 4 0 .ok, .bobInsi 512 3 0 .ok, .bobInsi 511 4 0 .ok, .bobBeq 512 3 0 .ok, .bobBeq 511 4 0 .ok,
    .bobBne 512 3 0 .ok, .bobBne 511 4 0 .ok, .bobBlt 512 3 0 .ok, .bobBlt 511 4 0 .ok, .bobBge 512 3 0 .ok,
    .bobBge 511 4 0 .ok, .bobBltu 512 3 0 .ok, .bobBltu 511 4 0 .ok, .bobBgeu 512 3 0 .ok, .bobBgeu 511 4 0 .ok,
    .bobJal 512 3 0 .ok, .bobJal 511 4 0 .ok, .bobJr 512 3 0 .ok, .bobJr 511 4 0 .ok, .bobLd 512 3 0 .ok,
    .bobLd 511 4 0 .ok, .bobLw 512 3 0 .ok, .bobLw 511 4 0 .ok, .bobSd 512 3 0 .ok, .bobSd 511 4 0 .ok,
    .bobSw 512 3 0 .ok, .bobSw 511 4 0 .ok, .bobLdi 512 3 0 .ok, .bobLdi 511 4 0 .ok, .bobHld 512 3 0 .ok,
    .bobHld 511 4 0 .ok, .bobHst 512 3 0 .ok] : List Instr).all (fun c => !c.wf) = true := by decide +kernel

theorem test_wf_refuses_6 : ([
    .bobHst 511 4 0 .ok, .bobInstall 512 3 0 .ok, .bobInstall 511 4 0 .ok, .bobCtxrd 512 3 0 .ok,
    .bobCtxrd 511 4 0 .ok, .bobCtxwr 512 3 0 .ok, .bobCtxwr 511 4 0 .ok, .bobCtxevict 512 3 0 .ok,
    .bobCtxevict 511 4 0 .ok, .bobFsearch 512 3 0 .ok, .bobFsearch 511 4 0 .ok, .bobFlearn 512 3 0 .ok,
    .bobFlearn 511 4 0 .ok, .bobPcharge 512 3 0 .ok, .bobPcharge 511 4 0 .ok, .bobPread 512 3 0 .ok,
    .bobPread 511 4 0 .ok, .tableOpComplete 512 3, .tableOpComplete 511 4, .bobDrd 512 3 0 .ok, .bobDrd 511 4 0 .ok,
    .bobDwr 512 3 0 .ok, .bobDwr 511 4 0 .ok, .dramIssueAccepted 512 3 0 .ok, .dramIssueAccepted 511 4 0 .ok,
    .drdComplete 512 0 false .ok, .dwrComplete 512 0, .bobDawait 512 3 0 .ok, .bobDawait 511 4 0 .ok,
    .bobDatest 512 3 0 .ok, .bobDatest 511 4 0 .ok, .bobTimeNs 512 3 0 .ok, .bobTimeNs 511 4 0 .ok,
    .bobTimeStitch 512 3 0 .ok, .bobTimeStitch 511 4 0 .ok, .bobTimePhase 512 3 0 .ok, .bobTimePhase 511 4 0 .ok,
    .bobTimeEpoch 512 3 0 .ok, .bobTimeEpoch 511 4 0 .ok, .bobTimeStatus 512 3 0 .ok] : List Instr).all (fun c => !c.wf) = true := by decide +kernel

theorem test_wf_refuses_7 : ([
    .bobTimeStatus 511 4 0 .ok, .bobFwd 512 3 0 .ok, .bobFwd 511 4 0 .ok, .bobDrop 512 3 0 .ok, .bobDrop 511 4 0 .ok,
    .bobNew 512 3 0 .ok, .bobNew 511 4 0 .ok, .bobEnd 512 3 0 .ok, .bobEnd 511 4 0 .ok, .bobYield 512 3 0 .ok,
    .bobYield 511 4 0 .ok, .bobRdperf 512 3 0 .ok, .bobRdperf 511 4 0 .ok, .bobRdid 512 3 0 .ok, .bobRdid 511 4 0 .ok,
    .illegalInstruction 512 3 0 .ok, .illegalInstruction 511 4 0 .ok, .thread0Overrun 512, .bobReleaseEffect 512,
    .segRetire 32 63, .segRetire 31 64, .segUnstage 32 63, .segUnstage 31 64, .segKeep 32 63, .segKeep 31 64,
    .perfClr 512, .perfCounterWrap 512 7, .perfCounterWrap 511 8,
    .voteCompare [] [] 0 8 18446744073709551615 4294967295, .voteCompare [] [] 0 7 18446744073709551616 4294967295,
    .voteCompare [] [] 0 7 18446744073709551615 4294967296, .clockLost 3, .channelRejoin 3, .sourceLost 4 0,
    .sourceRegained 4 0, .ptpMessageRx 2 7 0 news, .ptpMessageRx 1 8 0 news, .captureEdge 17 0 false,
    .pulseEdge 17 0, .irigBSecond 17 0] : List Instr).all (fun c => !c.wf) = true := by decide +kernel

theorem test_wf_refuses_8 : ([
    .highClr 32, .aldLinkFrameRx 1024 0 [255] [255] false [], .aldLinkFrameRx 1023 0 [256] [] false [],
    .aldLinkFrameRx 1023 0 [] [256] false [],
    .helloRx 1024 4294967295 15 18446744073709551615 2047 false,
    .helloRx 1023 4294967296 15 18446744073709551615 2047 false,
    .helloRx 1023 4294967295 16 18446744073709551615 2047 false,
    .helloRx 1023 4294967295 15 18446744073709551616 2047 false,
    .helloRx 1023 4294967295 15 18446744073709551615 2048 false, .probeSend 1024 0, .probeRx 1024 0,
    .probeRespRx 1024 0, .beaconRx 1024 0 false none, .joinReq 1024 18446744073709551615 15 65535 false 255,
    .joinReq 1023 18446744073709551616 15 65535 false 255, .joinReq 1023 18446744073709551615 16 65535 false 255,
    .joinReq 1023 18446744073709551615 15 65536 false 255, .joinReq 1023 18446744073709551615 15 65535 false 256,
    .joinGrant 1024 18446744073709551615 false 1023 18446744073709551615,
    .joinGrant 1023 18446744073709551616 false 1023 18446744073709551615,
    .joinGrant 1023 18446744073709551615 false 1024 18446744073709551615,
    .joinGrant 1023 18446744073709551615 false 1023 18446744073709551616, .statusRx 1024 1023 7 255 15 1023 65535 255,
    .statusRx 1023 1024 7 255 15 1023 65535 255, .statusRx 1023 1023 8 255 15 1023 65535 255,
    .statusRx 1023 1023 7 256 15 1023 65535 255, .statusRx 1023 1023 7 255 16 1023 65535 255,
    .statusRx 1023 1023 7 255 15 1024 65535 255, .statusRx 1023 1023 7 255 15 1023 65536 255,
    .statusRx 1023 1023 7 255 15 1023 65535 256, .memberAbsent 1024, .leave 1024 1023 none, .leave 1023 1024 none,
    .scDist 1024 {}, .scAck 1024 1023 65535 false, .scAck 1023 1024 65535 false, .scAck 1023 1023 65536 false,
    .tsync 1024 1023 [] false 65535 18446744073709551615, .tsync 1023 1024 [] false 65535 18446744073709551615,
    .tsync 1023 1023 [] false 65536 18446744073709551615, .tsync 1023 1023 [] false 65535 18446744073709551616] : List Instr).all (fun c => !c.wf) = true := by decide +kernel

theorem test_wf_refuses_9 : ([
    .takeover 1024 1023, .takeover 1023 1024, .handover 1024 1023 18446744073709551615,
    .handover 1023 1024 18446744073709551615, .handover 1023 1023 18446744073709551616, .txDoorbell 64 63 4294967295,
    .txDoorbell 63 64 4294967295, .txDoorbell 63 63 4294967296, .rxDoorbell 64 63 4294967295,
    .rxDoorbell 63 64 4294967295, .rxDoorbell 63 63 4294967296, .qpEnable 64 false 4294967295,
    .qpEnable 63 false 4294967296, .txEntryFetched 64 63 [] none, .txEntryFetched 63 64 [] none,
    .sendEnter 64 63 0 [255] none, .sendEnter 63 64 0 [255] none, .sendEnter 63 63 0 [256] none,
    .txCompletion 64 63 0 none, .txCompletion 63 64 0 none, .rxDelivery 7 7 0 false false none,
    .rxDelivery 6 8 0 false false none, .flsFree 64 4294967295, .flsFree 63 4294967296, .modTimerExpiry 64 63 false 0,
    .modTimerExpiry 63 64 false 0, .irq0Rearm 64, .functionLevelReset 64,
    .atsTranslationComplete 64 63 55 18446744073709551615 0 false false false,
    .atsTranslationComplete 63 64 55 18446744073709551615 0 false false false,
    .atsTranslationComplete 63 63 56 18446744073709551615 0 false false false,
    .atsTranslationComplete 63 63 55 18446744073709551616 0 false false false, .pageRequestResponse 64 63 false false,
    .pageRequestResponse 63 64 false false, .ceRateCheck 32 0, .ddrPhyFailure 32, .d2dCrcFail 8 false,
    .d2dRetrainDone 8, .d2dDeskew 8 255 false 0, .d2dDeskew 7 256 false 0] : List Instr).all (fun c => !c.wf) = true := by decide +kernel

theorem test_wf_refuses_10 : ([
    .avsAck 8, .avsTimeout 8 0, .throttleStep 8 0, .throttleRecover 8 0, .h1EntryAttempt 32 0, .h2IdleEntry 32 0,
    .h2Req 32, .handshakeAnswer 33 0, .handshakeTimeout 33, .wakeReq 32, .hoopH1Wake 32 false 0, .h2PowerUpDone 32 0,
    .h2PowerUpTimeout 32, .hoopPadRelease 32, .smbusWakeMatch 2 127 18446744073709551615,
    .smbusWakeMatch 1 128 18446744073709551615, .smbusWakeMatch 1 127 18446744073709551616,
    .gpioWake 32 18446744073709551615, .gpioWake 31 18446744073709551616, .wakeTimer 18446744073709551616,
    .softResetRequest false 65536, .remoteFaultEnd 1024, .shaperCreditZero 1024 7 0, .shaperCreditZero 1023 8 0,
    .pulseWidthEnd 17 0, .ptpMessageSend 2 1023 15 0 [255], .ptpMessageSend 1 1024 15 0 [255],
    .ptpMessageSend 1 1023 16 0 [255], .ptpMessageSend 1 1023 15 0 [256]] : List Instr).all (fun c => !c.wf) = true := by decide +kernel

theorem test_wf_accepts_1 : ([
    .perstDeassert 18446744073709551615, .registerWrite 536870911 4294967295 .host false,
    .splitHiWrite 536870911 4294967295 .host, .malformedAccess 536870911 .write, .unmappedAccess 536870911 false,
    .commitGo 536870911 false 65535, .commitCancel 536870911 false 65535, .indCtrlWrite 536870911 15 7 false,
    .indAddrWrite 536870911 4294967295, .indDataRead 536870911, .indDataWrite 536870911 4294967295,
    .indFetchDone 536870911 [], .indWriteDone 536870911, .crossingDeliver 536870911, .scrubVisit 536870911 31 false {},
    .cntClr 536870911, .fenceReq 536870911, .fenceRelease 536870911, .hoopResetDone 31, .periodReq 1048575,
    .signalRise 1023, .signalFall 1023, .cdrLockAcquired 1023, .cdrLockLost 1023, .adaptComplete 1023 false,
    .trainDone 1023, .trainFail 1023, .trainRestart 1023, .trainStepRequest 1023 3 false, .txTapStep 1023,
    .stuffInsert 1023 [1] 0, .stuffDiscard 1023 [3], .quietEntry 1023 2000, .quietExit 1023, .quietExitBoundary 1023,
    .quietMaxExit 1023, .burstEnd 1023 false, .chkSyncAcquired 1023 [3], .chkSyncLost 1023 [3], .chkClr 1023] : List Instr).all (fun c => c.wf) = true := by decide +kernel

theorem test_wf_accepts_2 : ([
    .evtClr 1023, .injOne 1023, .injectPeriodic 1023, .linkUp 1023 0, .linkDown 1023 0 false, .fecUnlock 1023 0,
    .remoteFaultRx 1023, .rxFrame 1023 0 [255] .more false [], .pauseRx 1023 0 65535, .pfcRx 1023 0 255 [],
    .pauseTimerExpiry 1023 7 0, .pauseWdFire 1023 7 0, .pauseWdIgnoreEnd 1023 7 0, .pauseHoldRequest 1023 7 0,
    .pauseReleaseRequest 1023 7 0, .pauseRepeat 1023 0, .wakePatternMatch 1023 [255] 18446744073709551615,
    .mcReplicate 1055 [], .txOpportunity 1055 0 [], .txFrameComplete 1023 0 [], .internalSourceResume 1055 7,
    .mirrorCopy 7 0, .recircFeed 7 0, .gateEdge 1055 0, .gateListStart 1023 0, .glSyncDone 1023, .prkSyncDone 31,
    .clsRetire 7 262143, .clsUnstage 7 262143, .clsKeep 7 262143, .learnApply 7 [], .filSearch 7 [], .filNext 7 [],
    .filInsert 7 [], .filDelete 7 [], .flushByPort 7 [], .filDiscardStaged 7 [], .filCleanupDone 7, .filCmdResume 7 [],
    .sknSearch 31 false] : List Instr).all (fun c => c.wf) = true := by decide +kernel

theorem test_wf_accepts_3 : ([
    .sknRead 31 false, .sknUpdate 31, .sknEvict 31, .sknPin 31, .sknUnpin 31, .sknDiscardStaged 31,
    .sknOverlayMerge 31, .workDispatch 511 3, .frameQueueAdmit 511, .bobAdd 511 3 0 .ok, .bobSub 511 3 0 .ok,
    .bobAnd 511 3 0 .ok, .bobOr 511 3 0 .ok, .bobXor 511 3 0 .ok, .bobShl 511 3 0 .ok, .bobShr 511 3 0 .ok,
    .bobSar 511 3 0 .ok, .bobMul 511 3 0 .ok, .bobMulhu 511 3 0 .ok, .bobMin 511 3 0 .ok, .bobMax 511 3 0 .ok,
    .bobMinu 511 3 0 .ok, .bobMaxu 511 3 0 .ok, .bobSlt 511 3 0 .ok, .bobSltu 511 3 0 .ok, .bobPopcnt 511 3 0 .ok,
    .bobBswap 511 3 0 .ok, .bobAddi 511 3 0 .ok, .bobAndi 511 3 0 .ok, .bobOri 511 3 0 .ok, .bobXori 511 3 0 .ok,
    .bobShiftiShl 511 3 0 .ok, .bobShiftiShr 511 3 0 .ok, .bobShiftiSar 511 3 0 .ok, .bobLui 511 3 0 .ok,
    .bobInsi 511 3 0 .ok, .bobBeq 511 3 0 .ok, .bobBne 511 3 0 .ok, .bobBlt 511 3 0 .ok, .bobBge 511 3 0 .ok] : List Instr).all (fun c => c.wf) = true := by decide +kernel

theorem test_wf_accepts_4 : ([
    .bobBltu 511 3 0 .ok, .bobBgeu 511 3 0 .ok, .bobJal 511 3 0 .ok, .bobJr 511 3 0 .ok, .bobLd 511 3 0 .ok,
    .bobLw 511 3 0 .ok, .bobSd 511 3 0 .ok, .bobSw 511 3 0 .ok, .bobLdi 511 3 0 .ok, .bobHld 511 3 0 .ok,
    .bobHst 511 3 0 .ok, .bobInstall 511 3 0 .ok, .bobCtxrd 511 3 0 .ok, .bobCtxwr 511 3 0 .ok,
    .bobCtxevict 511 3 0 .ok, .bobFsearch 511 3 0 .ok, .bobFlearn 511 3 0 .ok, .bobPcharge 511 3 0 .ok,
    .bobPread 511 3 0 .ok, .tableOpComplete 511 3, .bobDrd 511 3 0 .ok, .bobDwr 511 3 0 .ok,
    .dramIssueAccepted 511 3 0 .ok, .drdComplete 511 0 false .ok, .dwrComplete 511 0, .bobDawait 511 3 0 .ok,
    .bobDatest 511 3 0 .ok, .bobTimeNs 511 3 0 .ok, .bobTimeStitch 511 3 0 .ok, .bobTimePhase 511 3 0 .ok,
    .bobTimeEpoch 511 3 0 .ok, .bobTimeStatus 511 3 0 .ok, .bobFwd 511 3 0 .ok, .bobDrop 511 3 0 .ok,
    .bobNew 511 3 0 .ok, .bobEnd 511 3 0 .ok, .bobYield 511 3 0 .ok, .bobRdperf 511 3 0 .ok, .bobRdid 511 3 0 .ok,
    .illegalInstruction 511 3 0 .ok] : List Instr).all (fun c => c.wf) = true := by decide +kernel

theorem test_wf_accepts_5 : ([
    .thread0Overrun 511, .bobReleaseEffect 511, .segRetire 31 63, .segUnstage 31 63, .segKeep 31 63, .perfClr 511,
    .perfCounterWrap 511 7, .voteCompare [] [] 0 7 18446744073709551615 4294967295, .clockLost 2, .channelRejoin 2,
    .sourceLost 3 0, .sourceRegained 3 0, .ptpMessageRx 1 7 0 news, .captureEdge 16 0 false, .pulseEdge 16 0,
    .irigBSecond 16 0, .highClr 31, .aldLinkFrameRx 1023 0 [255] [255] false [],
    .helloRx 1023 4294967295 15 18446744073709551615 2047 false, .probeSend 1023 0, .probeRx 1023 0,
    .probeRespRx 1023 0, .beaconRx 1023 0 false none, .joinReq 1023 18446744073709551615 15 65535 false 255,
    .joinGrant 1023 18446744073709551615 false 1023 18446744073709551615, .statusRx 1023 1023 7 255 15 1023 65535 255,
    .memberAbsent 1023, .leave 1023 1023 none, .scDist 1023 {}, .scAck 1023 1023 65535 false,
    .tsync 1023 1023 [] false 65535 18446744073709551615, .takeover 1023 1023,
    .handover 1023 1023 18446744073709551615, .txDoorbell 63 63 4294967295, .rxDoorbell 63 63 4294967295,
    .qpEnable 63 false 4294967295, .txEntryFetched 63 63 [] none, .sendEnter 63 63 0 [255] none,
    .txCompletion 63 63 0 none, .rxDelivery 6 7 0 false false none] : List Instr).all (fun c => c.wf) = true := by decide +kernel

theorem test_wf_accepts_6 : ([
    .flsFree 63 4294967295, .modTimerExpiry 63 63 false 0, .irq0Rearm 63, .functionLevelReset 63,
    .atsTranslationComplete 63 63 55 18446744073709551615 0 false false false, .pageRequestResponse 63 63 false false,
    .ceRateCheck 31 0, .ddrPhyFailure 31, .d2dCrcFail 7 false, .d2dRetrainDone 7, .d2dDeskew 7 255 false 0, .avsAck 7,
    .avsTimeout 7 0, .throttleStep 7 0, .throttleRecover 7 0, .h1EntryAttempt 31 0, .h2IdleEntry 31 0, .h2Req 31,
    .handshakeAnswer 32 0, .handshakeTimeout 32, .wakeReq 31, .hoopH1Wake 31 false 0, .h2PowerUpDone 31 0,
    .h2PowerUpTimeout 31, .hoopPadRelease 31, .smbusWakeMatch 1 127 18446744073709551615,
    .gpioWake 31 18446744073709551615, .wakeTimer 18446744073709551615, .softResetRequest false 65535,
    .remoteFaultEnd 1023, .shaperCreditZero 1023 7 0, .pulseWidthEnd 16 0, .ptpMessageSend 1 1023 15 0 [255]] : List Instr).all (fun c => c.wf) = true := by decide +kernel

/-! ### Hypotheses of the clauses on coding, checkers, control frames and tables -/

/-- Lane 5 at RATE 2 with the coding `c`, in service, locked, with what it keeps beside its registers. -/
def nrzLane (c : Nat) (h : LaneHw) (act : List (Page × Field × Nat) := []) : State :=
  lay [(.lan 5, Fld.LAN_STATUS_SIGNAL, 1), (.lan 5, Fld.LAN_STATUS_CDR_LOCK, 1), (.lan 5, Fld.LAN_STATUS_LPM_STATE, 0)]
    ([(.lan 5, Fld.LAN_MODE_RATE, 2), (.lan 5, Fld.LAN_MODE_CODING, c)] ++ act) { up with lane := [(5, h)] }

theorem witness_LaneStuffing :
    (∀ s ∈ [nrzLane 1 {}, nrzLane 1 { txRun := 23, txLevel := 1, debt := 64 }],
      laneCoding s 5 = 1 ∧ laneSends s 5 = true ∧ laneLoop s 5 = 0 ∧ cfgB s (.lan 5) Fld.LAN_PAT_CTRL_GEN_EN = false ∧
      (laneHw s 5).inj.getD 1 0 = 0 ∧ cfgB s (.lan 5) Fld.LAN_MODE_PRECODE_TX = false ∧ (laneHw s 5).txRun < 24 ∧
      ((laneHw s 5).txRun ≠ 0 → (laneHw s 5).txLevel = 1)) ∧
    (let s := nrzLane 0 { inj := [0, 256, 0] }
     laneCoding s 5 = 0 ∧ laneSends s 5 = true ∧ laneRate s 5 ≤ 2 ∧ laneLoop s 5 = 0 ∧
     cfgB s (.lan 5) Fld.LAN_PAT_CTRL_GEN_EN = false ∧ rdB s (.lan 5) Fld.LAN_STATUS_EFF_TX_INV = false ∧
     (laneHw s 5).inj.getD 1 0 = 255 + 1) ∧
    (let s := nrzLane 1 { rxRun := 24, rxLevel := 1 }
     laneCoding s 5 = 1 ∧ laneRate s 5 ≠ 0 ∧ laneLpm s 5 ≠ 2 ∧ laneLoop s 5 = 0 ∧
     rdB s (.lan 5) Fld.LAN_STATUS_CDR_LOCK = true ∧ (laneHw s 5).rxRun = 24) := by decide +kernel

theorem witness_LaneInjection :
    (let s := nrzLane 0 { inj := [0, 0, 255] } [(.lan 5, Fld.LAN_INJECT_TARGET, 2), (.lan 5, Fld.LAN_INJECT_INJ_RATE, 8)]
     domainOff s (.lan 5) = false ∧ laneRate s 5 ≠ 0 ∧ 8 ≤ cfg s (.lan 5) Fld.LAN_INJECT_INJ_RATE ∧
     cfg s (.lan 5) Fld.LAN_INJECT_TARGET ≠ 0 ∧ (laneHw s 5).inj.getD (cfg s (.lan 5) Fld.LAN_INJECT_TARGET) 0 < 256) ∧
    (let s := nrzLane 0 { inj := [256, 0, 0] } [(.lan 5, Fld.LAN_PAT_CTRL_GEN_EN, 1)]
     cfgB s (.lan 5) Fld.LAN_PAT_CTRL_GEN_EN = true ∧
     256 ≤ (laneHw s 5).inj.getD (cfg s (.lan 5) Fld.LAN_INJECT_TARGET) 0) ∧
    (domainOff up (.lan 5) = false ∧ laneRate up 5 = 0) := by decide +kernel

/-- The checker of that lane is on with pattern `code`, and `n` is its CHK_SYNC. -/
def checks (code n : Nat) (x : Machine.ChkSt) : State :=
  lay [(.lan 5, Fld.LAN_STATUS_CHK_SYNC, n)] []
    (inBlk [(.lan 5, Fld.LAN_PAT_CTRL_CHK_EN, 1), (.lan 5, Fld.LAN_PAT_CTRL_CHK_PAT, code)] (nrzLane 0 { chk := x }))

theorem witness_LaneChecker :
    (let x : Machine.ChkSt := { pat := { last := 1 }, seen := 100, good := 63 }
     let s := checks 0 0 x
     hearsNrz s 5 ∧ bk s (.lan 5) Fld.LAN_PAT_CTRL_CHK_EN ≠ 0 ∧ rdB s (.lan 5) Fld.LAN_STATUS_CHK_SYNC = false ∧
     bk s (.lan 5) Fld.LAN_PAT_CTRL_CHK_PAT ≤ 5 ∧ patOrder (bk s (.lan 5) Fld.LAN_PAT_CTRL_CHK_PAT) ≤ (laneHw s 5).chk.seen ∧
     (laneHw s 5).chk.pat.last % 2 ^ patOrder (bk s (.lan 5) Fld.LAN_PAT_CTRL_CHK_PAT) ≠ 0) ∧
    (let s := checks 8 1 { bad := List.replicate 128 0 }
     hearsNrz s 5 ∧ bk s (.lan 5) Fld.LAN_PAT_CTRL_CHK_EN ≠ 0 ∧ rdB s (.lan 5) Fld.LAN_STATUS_CHK_SYNC = true ∧
     bk s (.lan 5) Fld.LAN_PAT_CTRL_CHK_PAT ≤ 8) ∧
    bk up (.lan 5) Fld.LAN_PAT_CTRL_CHK_EN = 0 ∧ 9 ≤ bk (checks 15 0 {}) (.lan 5) Fld.LAN_PAT_CTRL_CHK_PAT ∧
    domainOff up (.lan 5) = false ∧
    domainOff (wr up (.hop 0) Fld.HOP_PWR_STAT_STATE 2) (.lan 5) = true := by
  unfold hearsNrz; decide +kernel

theorem witness_PauseFrames_times :
    (let s := paused { since := [(7, 1)], timer := [(7, 400001)] } (upPort 2)
     cfg s (.mac 1023) Fld.MAC_PAUSE_WD_WD_US ≠ 0 ∧ 6 ≤ cfg s (.mac 1023) Fld.MAC_PORT_CFG_SPEED ∧
     tabGet (pauseOf s 1023).since 0 7 ≠ 0 ∧ 100 * max s.now 4000 < tabGet (pauseOf s 1023).timer 0 7 ∧
     tabGet (pauseOf s 1023).since 0 7 + 4000 * cfg s (.mac 1023) Fld.MAC_PAUSE_WD_WD_US ≤ max s.now 4000 + 1) ∧
    (let s := paused { txHold := 128 } (upPort 2)
     mayRequest s 1023 = true ∧ (pauseOf s 1023).txHold ≠ 0 ∧
     100 * (pauseOf s 1023).txAt + quanta s 1023 (cfg s (.mac 1023) Fld.MAC_PAUSE_CFG_TX_QUANTA / 2) ≤ 100 * max s.now 90000) ∧
    ctlReady (upPort 2) 1023 = true ∧ ctlReady (wr (upPort 2) (.mac 1023) Fld.MAC_STATUS_RFAULT 1) 1023 = false := by
  decide +kernel

theorem witness_PortLinks_ald :
    (let s := lay [(.lan 9, Fld.LAN_STATUS_CDR_LOCK, 1), (.lan 9, Fld.LAN_STATUS_ADAPT_DONE, 1)]
       [(.mac 9, Fld.MAC_PORT_CFG_ENABLE, 1), (.lan 9, Fld.LAN_MODE_CODING, 1)]
     portEnabled s 9 = true ∧ lanesReady s 9 = true ∧ hoopFenced s (9 / 32) = false ∧ isAld s 9 = true ∧ lstate s 9 = 0) ∧
    (let s := paused { due := true, txHold := 1 } (upPort 2)
     (pauseOf s 1023).due = true ∧ linkUp s 1023 = true ∧ txOf s 1023 = none) := by decide +kernel

theorem witness_BlockAndSegmentMaps :
    transferErr up (.cls 7) 4 262143 true = 0 ∧ transferErr up (.bobh 31) 2 63 true = 0 ∧
    transferErr (wr up (.hop 31) Fld.PAGE_FENCE_FENCED 1) (.bobh 31) 2 63 true ≠ 0 ∧
    transferErr State.reset (.cls 7) 4 262143 true ≠ 0 := by decide +kernel

theorem witness_FiletLearning_sequence :
    (let e : LearnEv := { key := 5, port := 1023, arrival := 0, panel := 7 }
     let s := { up with learnSeq := [e] }
     s.learnSeq = e :: [] ∧ learnDue e ≤ max s.now 8000 ∧ learnDue e < max s.now 16384 ∧
     ({ up with learnSeq := List.replicate 16384 e } : State).learnSeq.length = 16384) := by decide +kernel

theorem witness_Filet_waits :
    (let s := { filOne { valid := true, stg := 1 } with filHold := [(7, true)] }
     rdB s (.fil 7) Fld.FIL_CMD_STAT_BUSY = false ∧ filWaits s 7 = true) ∧
    (let s := filOne { valid := true, stg := 1 }
     rdB s (.fil 7) Fld.FIL_CMD_STAT_BUSY = false ∧ filWaits s 7 = false ∧ tabRising none s.fil = true) ∧
    (let s := { up with filWait := [(7, 3)] }
     tabGet s.filWait 0 7 ≠ 0 ∧ filWaits s 7 = false) := by decide +kernel

theorem witness_SkeinCommands_queue :
    sknFree up 31 7 ∧
    (let s := { up with skOp := [(31, 7)] }
     sknFree s 31 7 ∧ domainOff s (.skn 31) = false ∧ tabGet s.skOp 0 31 ≠ 0 ∧ tabGet s.skOp 0 31 ≠ 1) := by
  unfold sknFree; decide +kernel

theorem witness_BobbinTables_memory :
    (∀ x ∈ [(BobOp.install, 0x60000000), (.ctxwr, 0x60000100), (.pread, 0x68000080), (.ctxrd, 0x60000080)],
      let s := bobAt x.2 {} { up with ctx := [(32768 * 31, { state := 2 })] }
      issues s 511 3 (.mem true) x.2 x.1 ∧ bobCtx s 31 (gReg s 511 3 (fRs1 x.2)) ≠ none) ∧
    (BobErr.ok ≠ .mem true) := by
  unfold issues; decide +kernel

theorem witness_BobbinThreads_alternate :
    (let ev : SkEvent := ⟨1, 0, 0, false, false, 0, 0, [], {}⟩
     let s := { stored {} up with evq := [(511, [ev])], bob := { alt := [(511, true)] }
                                  rs := { (stored {} up).rs with fq := [(511, [3])] } }
     nextEvent s 511 = some 0 ∧ nextFrame s 511 = some 3 ∧ tabGet s.bob.alt false 511 = true) ∧
    (let s := { bobAt 0 with bob := { (bobAt 0).bob with acc := [] } }
     domainOff s (.bob 511) = false) := by decide +kernel

theorem witness_IngressAndEnqueue_order :
    (let x : Machine.Frm := { used := true, state := 1, stage := .lookup, inPort := 1023, serial := 1 }
     let s := { up with rs := { frm := [(3, x), (5, { x with serial := 2 })] } }
     lookupBehind s (frm s 5) = true ∧ lookupBehind s (frm s 3) = false) ∧
    (let s := stored { bytes := List.replicate 60 0, rxHeld := true, refs := 1, stage := .result, inPort := 1023
                       res := { dest := .port 1031, tclass := 7 } } (plain up)
     (frm s 3).state < 2 ∧ placeRoom s (frm s 3) 0 = true) := by decide +kernel

theorem witness_CopiesAndAccounts_pool :
    (let s := stored { inPort := 1023, src := 1023, refs := 1, stage := .replicate, copies := some [1030, 1031]
                       res := { dest := .group 16383, tclass := 7 } } (plain up)
     let s := { s with rs := { s.rs with repl := [3] } }
     s.rs.repl.find? (fun g => (frm s g).src == 1023) = some 3 ∧ (frm s 3).copies ≠ none ∧ (frm s 3).state ≠ 2 ∧
     schedOn s = false ∧ (frm s 3).res.tclass < 8 ∧ [1030, 1031].Nodup ∧ (∀ p ∈ [1030, 1031], flushes s p = false)) ∧
    (let s := sending 1043
     let x : TxSt := { f := 3, cls := 0, start := 0, cut := false, overrun := false }
     txOf s 1043 = some x ∧ (frm s 3).state = 1 ∧ cfg s (.mir 3) Fld.RSX_MIR_CTRL_MODE = 0) := by decide +kernel

theorem witness_SamplerPtp :
    (let s := ptpWaits
     let x := retag (takeStamps (advance s 4) 1) 1031
     s.smp.fwHold = false ∧ chooseClass x 1031 = some 7 ∧ readyHead x 1031 7 = some 3 ∧
     ptpPage s (frm s 3).inPort (frm s 3).bytes (frm s 3).res.parsed = some 1) ∧
    (∀ k ∈ [11, 0],
      let s := paid (8 * 1031) (lay [] [(.ptp 1, Fld.SMP_PTP_CFG_TRAP_CLASS, 0)] ptpWaits)
      let b := ptpAddr s 1 1023 k ++ List.replicate 6 0 ++ [0x88, 0xF7, k, 2, 0, 44, 0, 0, 2] ++ List.replicate 39 0
      cfgB s (.ptp 1) Fld.SMP_PTP_CFG_EN = true ∧ bit (word s (.ptp 1) 1 1023) 0 = true ∧
      ptpConforms s 1 1023 k b = true ∧ s.smp.fwHold = false ∧ b.length = 60 ∧ freeQe s ≠ 0 ∧
      cfg s (.ptp 1) Fld.SMP_PTP_CFG_TRAP_CLASS = 0 ∧
      (openFrame (takeStamps (advance s 0) 1) 1031 0
        { bytes := b, inPort := 1031, arrival := max s.now 0, stitch := s.stitch, stage := .queued
          stamp := some (.pillow 1 k), res := { epoch := s.epoch % 65536, dest := .port 1023, tclass := 0 } }).2.isSome
        = true) := by decide +kernel

theorem witness_SamplerServo_follows :
    (let s := rooted (timed (1 + 3 * 256) (inSys 2 0 {}))
     let s := { s with smp := { s.smp with meas := 8 } }
     aldFollows s = true ∧ servo s ≤ 1 ∧ 8 ≤ s.smp.meas ∧ s.smp.fwHold = false ∧ aldMember s = false) ∧
    (let s := timed (2 + 2 * 256)
     servo s = 2 ∧ source s = 2 ∧ domState s 1 ≠ 0 ∧ canSwitch s (3 - 2) = true ∧
     cfgB s .tod Fld.SMP_TOD_CTRL_AUTO_SWITCH = true ∧
     cfgB (lay [] [(.tod, Fld.SMP_TOD_CTRL_AUTO_SWITCH, 0)] s) .tod Fld.SMP_TOD_CTRL_AUTO_SWITCH = false) ∧
    (let s := timed (1 + 256)
     servo s = 1 ∧ source s = 1 ∧ domState s 0 ≠ 0) ∧
    (servo (timed (2 + 3 * 256)) = 2 ∧ source (timed (2 + 3 * 256)) = 3) ∧
    (servo (timed 4) = 4 ∧ (timed 4).smp.fwHold = false ∧ canSwitch (timed 4) 1 = true) ∧
    (aldFollows (rooted (timed 3 (inSys 2 0 {}))) = true ∧ servo (rooted (timed 3 (inSys 2 0 {}))) = 3) := by
  decide +kernel

theorem witness_SamplerStamps_crossing :
    (let e : Machine.CapEnt := ⟨65535, true, 16, 9⟩
     let s := { up with smp := { capWait := [e] } }
     pageAt s (pageBase .cap) = some .cap ∧ s.smp.capWait = e :: [] ∧ s.smp.cap.length < 64) ∧
    8 ≤ (({ up with smp := { capWait := List.replicate 8 ⟨0, true, 7, 0⟩ } } : State).smp.capWait.filter
      (fun e => e.input == 7)).length ∧
    (let s := { putWord up .pulse 1 (8 * 7) (3 + 1 * 65536) with bndAt := 40, stitch := 10 }
     pulseMode s 7 = 3 ∧ 40 = s.bndAt ∧ 0 < bits (pulseWord s 7 0) 31 16 ∧ s.stitch % bits (pulseWord s 7 0) 31 16 = 0 ∧
     s.pwr.d3 ≠ .asleep) ∧
    (let s := { putWord up .pulse 1 (8 * 7) 4 with smp := { pulse := [(7, { irig := List.replicate 100 1 })] } }
     pulseMode s 7 = 4 ∧ 3960000000 / 4 % 10000000 = 0 ∧ 3960000000 / 4 % 1000000000 / 10000000 = 99 ∧
     (pulseOf s 7).irig[99]? = some 1) ∧
    (powered { d3 := .asleep }).pwr.d3 = .asleep ∧ domainOff up (.ts 31) = false ∧
    domainOff (wr up (.hop 31) Fld.HOP_PWR_STAT_STATE 1) (.ts 31) = true ∧
    eventsOf (xingOf (wr up (.hop 31) Fld.HOP_PWR_STAT_STATE 1) (.ts 31)) < 256 := by decide +kernel

theorem witness_AladotraLinks_descrambler :
    (isAld (linked 1) 1023 = true ∧ 1 ≤ lstate (linked 1) 1023 ∧ lstate (linked 1) 1023 ≤ 5) ∧
    58 ≤ (linkOf (linked 5 { dsc := (58, 0) }) 1023).dsc.1 + 8 * 0 ∧
    (linkOf (linked 5) 1023).dsc.1 + 8 * 7 < 58 ∧ 58 ≤ (linkOf (linked 5) 1023).dsc.1 + 8 * 8 := by decide +kernel

theorem witness_AladotraManagers_times :
    (cellHeld (celled 2 1) 1023 1 = some (1, List.replicate 44 0, 5, 1) ∧ 2 ≤ lstate (celled 2 1) 1023) ∧
    mstate (lay [] [(.ald, Fld.ALD_CTRL_EN, 1)] (inSys 1 3 { capable := true })) = 1 ∧
    (let s := inSys 4 2
     let d := match (pairLinks s).head? with | some n => linkDelay s n | none => 0
     d = 0 ∧ (s.bndAt : Int) - ((s.stitch : Int) - (newestContent s + 1 : Nat)) * (4 * periodNs s : Nat)
       + (d + 1024 + 4 * cfg s .ald Fld.ALD_MGR_CFG_MISS_TOL : Nat) < (10000000 : Nat)) := by decide +kernel

theorem witness_AladotraMembers_states :
    (∀ m ∈ [3, 4], let s := rooted (inSys m 0)
      mstate s = m ∧ isManager s = false ∧ parentPort s = some 1023) ∧
    (∀ m ∈ [2, 3, 5], let s := { inSys 4 1 { member := [(1023, { state := m })] } with stitch := 2 ^ 40 }
      isManager s = true ∧ 1023 ≠ ownMember s ∧ (memberOf s 1023).state = m ∧ (memberOf s 1023).state ≠ 4 ∧
      (memberOf s 1023).seen + cfg s .ald Fld.ALD_TIMERS_ABSENT * cfg s .ald Fld.ALD_TIMERS_STATUS_DIV < s.stitch) ∧
    (∀ m ∈ [3, 4, 5], let s := rooted (celled 5 8 (inSys m 0))
      filIdle s = true ∧ takesCell s 1023 8 ∧ parentPort s = some 1023 ∧ isManager s = false ∧ mstate s = m) := by
  unfold takesCell; decide +kernel

theorem witness_HostSends_forms :
    (let s := paid (8 * 1030 + 7) (paired { tx := [(pairKey, { sends := [{ oneSend with hoop := none }] })] })
     let b := List.replicate 60 0
     let y : Machine.Frm := {
       bytes := b, inPort := 1030, src := 1030, arrival := max s.now 0, stitch := s.stitch, stage := .queued
       res := { epoch := s.epoch % 65536, dest := .port 0, tclass := 7 }, serial := s.rs.serial }
     nextSend (txEng s 63 63) = some { oneSend with hoop := none } ∧ rrTurn s 1030 (64 * 63 + 63) = true ∧ b.length = chainLen oneSend.ents ∧
     placeRoom (advance s 0) y 0 = true ∧ lookupBehind (advance s 0) y = false ∧
     (openFrame (advance s 0) 1030 7 y).2.isSome = true) ∧
    (let z : Send := { oneSend with first := [0, 0, 0, 54 * 2 ^ 9 + 64 * 2 ^ 18, 14 + 34 * 2 ^ 8, 0, 0, 2 ^ 29], ents := [⟨0, 4096, 182, 0⟩] }
     let b := List.replicate 12 0 ++ [8, 0, 0x45] ++ List.replicate 8 0 ++ [6] ++ List.replicate 22 0 ++ [0x50] ++
       List.replicate 135 0
     let s := paired { tx := [(pairKey, { sends := [z] })] }
     nextSend (txEng s 63 63) = some z ∧ z.bytes = none ∧ z.frames = 0 ∧ fnHalted s 63 = false ∧
     ringParked s 63 63 false = false ∧ rrTurn s 1030 (64 * 63 + 63) = true ∧ b.length = chainLen z.ents ∧ bits (z.first.getD 7 0) 30 29 = 1 ∧
     cutStackOk (cutReq z.first) b = true ∧ hoopFenced s 31 = false ∧ cutCount (cutReq z.first) (b.length - 54) = 2) ∧
    (let s := paired { tx := [(pairKey, { sends := [{ oneSend with first := [0, 0, 0, 0, 0, 0, 0, 2 ^ 26], entered := true }] })] }
     ∃ x, (txEng s 63 63).sends = x :: [] ∧ x.entered = true ∧ bit (x.first.getD 7 0) 26 = true ∧ x.fail = false ∧
       fnHalted s 63 = false) ∧
    (let s := walled (.hop 31) (paired { tx := [(pairKey, { sends := [oneSend] })] })
     nextSend (txEng s 63 63) = some oneSend ∧ hoopFenced s 31 = true ∧ fnHalted s 63 = false ∧
     ringParked s 63 63 false = false ∧ rrTurn s 1030 (64 * 63 + 63) = true) := by
  refine ⟨by decide +kernel, by decide +kernel, ⟨_, rfl, by decide +kernel⟩, by decide +kernel⟩

theorem witness_HostTranslations_parks :
    (let p : Park := ⟨63, 63, true, true, 4096⟩
     let w : Park := ⟨63, 0, false, false, 8192⟩
     let s := paired { park := [p, w] }
     s.ndl.park.find? (fun x => x.f == 63 && x.q == 63 && x.rx == true && x.sent) = some p ∧
     (s.ndl.park.erase p).find? (fun x => x.f == 63 && !x.sent) = some w ∧ fenced s (.ndlf 63) = false) ∧
    (let p : Park := ⟨63, 63, false, true, 4096⟩
     (paired { park := [p] }).ndl.park.find? (fun x => x.f == 63 && x.q == 63 && x.rx == false && x.sent) = some p) ∧
    (let s := delivering (some ⟨63, [63], 9⟩)
     let y := rxWait (rxBegin s 55 true true) 55
     qpOn s 63 63 = true ∧ fnHalted s 63 = false ∧ ringParked s 63 63 true = false ∧ y.held = some ⟨63, [63], 9⟩) := by
  decide +kernel

theorem witness_PowerLevels_target :
    let s := powered { seq := [(7, some { target := 2, resent := true })], thr := [(7, { pair := 3 })] }
    levelSeq s 7 = some { target := 2, resent := true } ∧ levelEff s 7 ≠ 2 ∧ levelEff s 7 < 4 ∧ levelCur s 7 < 4 := by
  decide +kernel

/-- What nothingHeld asks of a hoop, over the entries that its tables list. -/
theorem nothingHeld_of (s : State) (h : Nat) (a : s.xing = []) (b : s.sleepDue = []) (c : tabGet s.pwr.softDue false h = false) :
    nothingHeld s h := by
  refine ⟨fun p _ => by rw [a]; rfl, ?_, fun p _ _ => by rw [b]; rfl, c⟩
  intro e m; rw [b] at m; cases m

theorem witness_HoopWakes_held :
    (∀ v ∈ [0, 1, 2, 3, 4], nothingHeld (wr up (.hop 31) Fld.HOP_PWR_STAT_STATE v) 31) ∧
    (let s := wr { up with xing := [(pageBase (.skn 31), [.value (fieldKey (.skn 31) Fld.SKN_CMD_MASK_MASK) 1])] } (.hop 31)
       Fld.HOP_PWR_STAT_STATE 1
     tabGet s.xing [] (pageBase (.skn 31)) = [.value (fieldKey (.skn 31) Fld.SKN_CMD_MASK_MASK) 1] ∧
     fieldAt (.skn 31) (fieldKey (.skn 31) Fld.SKN_CMD_MASK_MASK) = some Fld.SKN_CMD_MASK_MASK ∧
     nothingHeld { s with xing := tabErase s.xing (pageBase (.skn 31)) } 31 ∧ hoopState s 31 = 1 ∧
     hoopFenced s 31 = false) := by
  refine ⟨?_, ?_⟩
  · intro v _; exact nothingHeld_of _ _ rfl rfl rfl
  · exact ⟨by decide +kernel, by decide +kernel, nothingHeld_of _ _ (by decide +kernel) rfl rfl, by decide +kernel,
      by decide +kernel⟩

theorem witness_SoftwareFences_shells :
    (∀ p ∈ [Page.hop 31, .bob 511, .ndlf 63, .ch 2, .mac 1023], shellHolds up p = false ∧ pageOf (pageBase p) = some p) ∧
    (let s := wr up (.hop 31) Fld.HOP_PWR_STAT_STATE 2
     ∀ p ∈ [Page.bob 511, .mac 1023], shellHolds s p = true ∧ noCrossing p = false ∧ eventsOf (xingOf s p) < 256) ∧
    (let s := walled (.hop 31) (powered { reset := [(31, true)] })
     tabGet s.pwr.reset false 31 = true ∧ hoopFenced s 31 = true ∧ tabGet s.sleepDue 0 (16 * 31) = 0) := by decide +kernel

theorem witness_FirmwareReady :
    (State.reset.pwr.supply = .on ∧ rd State.reset .mor Fld.MOR_BOOT_BOOT ≠ 3 ∧ State.reset.xing = []) ∧
    (let p := Page.fil 7
     let k := fieldKey p Fld.FIL_CMD_ARG_CLS_SEL
     let s := { State.reset with xing := [(pageBase p, [.value k 1])] }
     pageOf (pageBase p) = some p ∧ fieldAt p k = some Fld.FIL_CMD_ARG_CLS_SEL ∧ pageHoop p = none ∧
     s.xing = [(pageBase p, [.value k 1])]) ∧
    (let s := wr State.reset (.hop 31) Fld.HOP_PWR_STAT_STATE 2
     pageHoop (.bob 511) = some 31 ∧ hoopAsleep s 31 = true) := by decide +kernel

theorem witness_RegisterWrites_more :
    (pageAt up (pageBase (.lan 1023) + 0x010) = some (.lan 1023) ∧ hasCntClr (.lan 1023) = false) ∧
    (let a := pageBase (.ndlf 63) + 0xC08
     pageAt up a = some (.ndlf 63) ∧ 0x800 ≤ a % 0x1000 ∧ a % 0x1000 < 0xC10 ∧ a % 0x1000 / 4 * 4 % 16 ≠ 12) ∧
    (∃ f ∈ regFields (.lan 1023) 0x080, f.access = .rw ∨ f.access = .rws ∨ f.access = .rwv) := by decide +kernel

theorem witness_AccessesAndScrubbing_more :
    (let a := pageBase (.ndlf 63) + 0xC08
     pageAt up a = some (.ndlf 63) ∧ a % 8 = 0 ∧ a % 16 = 8 ∧ 0x800 ≤ a % 0x1000 ∧ a % 0x1000 < 0xC10) ∧
    (msixAt up (pageBase .glb) = none ∧ unmapped up 0x0FFFFFFC = true ∧ unmapped up (pageBase .glb) = false) ∧
    (pageAt up (pageBase .cap) = some .cap ∧ up.smp.capWait = []) ∧
    (let p := Page.fil 7
     let s := { up with xing := [(pageBase p, [.split (fieldKey p Fld.FIL_CMD_KEY_LO_KEY) 1
       (fieldKey p Fld.FIL_CMD_KEY_HI_KEY) 2])] }
     xingOf s p = [.split (fieldKey p Fld.FIL_CMD_KEY_LO_KEY) 1 (fieldKey p Fld.FIL_CMD_KEY_HI_KEY) 2] ∧
     shellHolds s p = false ∧ fieldAt p (fieldKey p Fld.FIL_CMD_KEY_LO_KEY) = some Fld.FIL_CMD_KEY_LO_KEY ∧
     fieldAt p (fieldKey p Fld.FIL_CMD_KEY_HI_KEY) = some Fld.FIL_CMD_KEY_HI_KEY ∧
     fieldKey p Fld.FIL_CMD_KEY_LO_KEY ≠ fieldKey p Fld.FIL_CMD_KEY_HI_KEY) ∧
    (hasCntClr (.fil 7) = true ∧ shellHolds State.reset (.fil 7) = true ∧ noCrossing (.fil 7) = false ∧
      xingOf State.reset (.fil 7) = [] ∧ hasCntClr (.lan 0) = false) := by decide +kernel

theorem witness_PeriodRequest_worker :
    (∀ m ∈ [3, 6], 3 ≤ mstate (inSys m 0) ∧ mstate (inSys m 0) ≤ 6 ∧ isManager (inSys m 0) = false) ∧
    mstate up < 3 := by decide +kernel

/-- The pair of a page reads the entry at word `w` of space `n`. -/
def fetching (p : Page) (n w : Nat) : State :=
  lay [(p, Fld.PAGE_IND_CTRL_SPACE, n), (p, Fld.PAGE_IND_ADDR_ADDR, w)] [] { up with pair := [(pageBase p, { fetching := true })] }

theorem witness_IndirectReads_errors :
    (∀ x ∈ [(Page.prk 31, 1, 255), (.prk 31, 2, 255), (.cls 7, 1, 4194303), (.fil 7, 1, 1056767), (.pol, 1, 262143)],
      let w (n : Nat) : Nat := ((pageSpace x.1 n).map (·.width)).getD 1
      let a := if x.1 = .cls 7 then 0 else w x.2.1 * 0
      let s := fetching x.1 x.2.1 a
      pageAt s (pageBase x.1) = some x.1 ∧ (pairOf s x.1).fetching = true ∧ (pairOf s x.1).ahead = false ∧
      transferErr s x.1 (indSpace s x.1) (indAddr s x.1) false = 0 ∧
      eccRewritten s x.1 (indSpace s x.1) 0 = false ∧ indAddr s x.1 / w (indSpace s x.1) = 0) ∧
    (let s := pairAt 1 0 0 { snap := some (3, 0, []) }
     (pairOf s .rsx).aheadErr = 0 ∧ indAddr s .rsx + 1 < 2 ^ 32 ∧ wordBad s .rsx 3 0 34 = false) ∧
    (transferErr (pairAt 1 0x7FFFFFFF 0) .rsx 3 0x7FFFFFFF false ≠ 0) := by decide +kernel

theorem witness_IndirectWrites_more :
    (indErr (pairAt 1 0 0) .rsx = 0 ∧ indDir (pairAt 1 0 0) .rsx = false) ∧
    (let s := pairAt 1 0x7FFFFFFF 1
     indErr s .rsx = 0 ∧ indDir s .rsx = true ∧ bufWords (pairOf s .rsx) < 16 ∧
     transferErr s .rsx (indSpace s .rsx) (indAddr s .rsx) true ≠ 0) ∧
    (∀ c ∈ [(0, 0), (0, 1), (33, 33)],
      let s := pairAt 1 c.1 1 { staged := List.replicate c.2 0 }
      transferErr s .rsx (indSpace s .rsx) (indAddr s .rsx) true = 0 ∧ indStep s .rsx = some 1 ∧
      indAddr s .rsx + 1 < 2 ^ 32 ∧ (pairOf s .rsx).staged.length = c.2) ∧
    (pairOf up .rsx).buf = [] := by decide +kernel

theorem witness_StitchBoundaries_period :
    let b : Beacon := { period := 8000 }
    let s := rooted (linked 5 { beacon := some b } (inSys 4 0))
    let s := { s with closed := true, nextBnd := 4_000_000_000 }
    s.pwr.supply = .on ∧ s.pwr.d3 ≠ .asleep ∧ s.ald.pend = [] ∧ s.ald.joinAt = none ∧ s.ald.leaveAt = none ∧
    s.ald.handAt = none ∧ isManager s = false ∧ s.pwr.softNow = false ∧ latchedGroups s = [] ∧ aldMember s = true ∧
    parentContent s = some b ∧ b.period ≠ 0 ∧ b.period < 2 ^ 20 ∧ s.nextBnd % 4_000_000_000 = 0 := by decide +kernel

theorem witness_AladotraLinks_cadence :
    (let s := { linked 1 { probeAt := some 6 } with stitch := 7 }
     lstate s 1023 = 1 ∧ (linkOf s 1023).probeAt = some 6 ∧ 6 + 1 ≤ s.stitch ∧ txOf s 1023 = none) ∧
    (let s := { linked 5 { probeAt := some 6 } with stitch := 2 ^ 20 }
     let s := putTx s 1023 (some ⟨0, 0, 0, false, false⟩)
     lstate s 1023 = 5 ∧ (linkOf s 1023).probeAt = some 6 ∧ 6 + cfg s .ald Fld.ALD_TIMERS_PROBE_DIV ≤ s.stitch ∧
     txOf s 1023 ≠ none) := by decide +kernel

theorem witness_AladotraMembers_cadence :
    let s := { rooted (inSys 3 0 { statusAt := some 6 }) with stitch := 2 ^ 20 }
    aldMember s = true ∧ isManager s = false ∧ s.smp.fwHold = false ∧ parentPort s = some 1023 ∧ s.ald.statusAt = some 6 ∧
    6 + cfg s .ald Fld.ALD_TIMERS_STATUS_DIV ≤ s.stitch := by decide +kernel

theorem witness_PowerLevels_timeout :
    (let s := powered { seq := [(7, some { target := 0, since := 9 })] }
     levelSeq s 7 = some { target := 0, since := 9 } ∧
     max s.now 9 < 9 + 4000 * cfg s .pwr Fld.PWR_CFG_AVS_TIMEOUT_US ∧
     9 + 4000 * cfg s .pwr Fld.PWR_CFG_AVS_TIMEOUT_US ≤ max s.now 4000009) := by decide +kernel

theorem witness_LaneQuietAndChecker_idle :
    let idle := cfg litLane (.lan 5) Fld.LAN_POWER_IDLE_100NS
    (if idle = 0 then 100 else 100 * idle) ≤ 2000 ∧ 1999 < (if idle = 0 then 100 else 100 * idle) := by decide +kernel

theorem witness_IndirectReads_transfers :
    let s := fetching (.pnl 7) 1 2
    pageAt s (pageBase (.pnl 7)) = some (.pnl 7) ∧ indSpace s (.pnl 7) = 1 ∧ indAddr s (.pnl 7) / 2 = 1 ∧
    (pairOf s (.pnl 7)).fetching = true ∧ transferErr s (.pnl 7) 1 2 false = 0 ∧ countFree (.pnl 7) 1 = true ∧
    countFree (.pnl 7) 2 = false := by decide +kernel

theorem witness_ChannelsAndPorts_copy :
    let s := lay [(.err, Fld.ERR_DDR_SPARE_STATE, 1), (.err, Fld.ERR_DDR_SPARE_CHANNEL, 31),
      (.err, Fld.ERR_DDR_COPY_LINES, 4194303), (.ddr 31, Fld.DDR_STATUS_COPYING, 1), (.ddr 31, Fld.DDR_STATUS_REMAPPED, 1)] [] up
    linesCopied s = 4194303 ∧ servedAt s (256 * (32 * 4194303 + 31)) = 256 * (32 * 4194303 + 31) ∧
    servedAt s (256 * 31) = 0x7_8000_0000 := by decide +kernel

/-- R574's worked case, Table 19.4 and Table 19.3 at three balls, R592's worked case, and the sums of R579. -/
theorem test_package :
    [laneBall 907 true 0, laneBall 907 true 1, laneBall 907 false 0, laneBall 907 false 1, laneBall 907 true 2]
      = [(36, 9), (35, 9), (36, 10), (35, 10), (34, 9)] ∧
    ballAt 36 9 = .lane 907 true false ∧ ballAt 35 10 = .lane 907 false true ∧ ballAt 34 9 = .vss ∧
    ballAt 59 58 = .signal .aldMgrSel ∧ ballAt 44 78 = .rail (.vcoreP 3) ∧ ballAt 19 60 = .rail .vlane ∧
    junction (lidOver 40000000 10 5 1380000) 1380000 = 77260000 ∧ typicalPower = 1379660000 ∧ largestPower = 1679940000 ∧
    mayRise [.vaon] .vdd1 = true ∧ mayRise [.vaon, .vdd1] .vcoreC = false := by decide +kernel

/-! ### Results worked out by hand from the spec -/

/-- The value of g3 after one instruction of thread 3 of bobbin 511, whose g1 and g2 hold `a` and `b`. -/
def g3After (c : Nat → Nat → Nat → BobErr → Instr) (w a b : Nat) : Nat :=
  gReg (after (exec (c 511 3 0 .ok) (bobAt w { regs := [(1, a), (2, b)] })) State.reset) 511 3 3

/-- Words of Table 10.3 with rd 3, rs1 1, rs2 2, and of Table 10.4: ADD wraps at 2^64, SUB below 0, MULHU takes the high
half, SAR copies the sign, SLT compares signed and SLTU unsigned, BSWAP reverses the bytes, POPCNT counts. -/
theorem test_bobbin_alu :
    g3After .bobAdd 0x00611000 (2 ^ 64 - 1) 2 = 1 ∧ g3After .bobSub 0x00611001 0 1 = 2 ^ 64 - 1 ∧
    g3After .bobMulhu 0x00611009 (2 ^ 64 - 1) (2 ^ 64 - 1) = 2 ^ 64 - 2 ∧
    g3After .bobSar 0x00611007 (2 ^ 63) 63 = 2 ^ 64 - 1 ∧ g3After .bobShl 0x00611005 1 64 = 1 ∧
    g3After .bobSlt 0x0061100E (2 ^ 64 - 1) 0 = 1 ∧ g3After .bobSltu 0x0061100F (2 ^ 64 - 1) 0 = 0 ∧
    g3After .bobBswap 0x00611011 0x0102030405060708 0 = 0x0807060504030201 ∧
    g3After .bobPopcnt 0x00611010 (2 ^ 64 - 1) 0 = 64 := by decide +kernel

/-- ADDI takes imm signed, ORI takes it zero-extended, LUI shifts it by 16 and extends its sign, INSI replaces lane 1. -/
theorem test_bobbin_immediates :
    g3After .bobAddi 0x0461FFFF 0 0 = 2 ^ 64 - 1 ∧ g3After .bobOri 0x0C61FFFF 0 0 = 0xFFFF ∧
    g3After .bobLui 0x18618000 0 0 = 2 ^ 64 - 2 ^ 31 ∧ g3After .bobInsi 0x1C611234 0 0 = 0x12340000 := by decide +kernel

/-- The program counter after one instruction at 65,535, whose g1 and g2 hold `a` and `b`. -/
def pcAfter (c : Nat → Nat → Nat → BobErr → Instr) (w a b : Nat) : Nat :=
  (thrOf (after (exec (c 511 3 0 .ok) (bobAt w { regs := [(1, a), (2, b)] })) State.reset) 511 3).pc

/-- BLT and BLTU of g1 and g2 by -1: the offset counts from the instruction's own address; a branch not taken goes on at
the next address, modulo 65,536. -/
theorem test_bobbin_branches :
    pcAfter .bobBlt 0x2822FFFF (2 ^ 64 - 1) 0 = 65534 ∧ pcAfter .bobBltu 0x3022FFFF (2 ^ 64 - 1) 0 = 0 := by decide +kernel

/-- Check values of the CRCs for the digits 1 to 9. -/
theorem test_crcs :
    crc32 [49, 50, 51, 52, 53, 54, 55, 56, 57] = 0xCBF43926 ∧ crc16 [49, 50, 51, 52, 53, 54, 55, 56, 57] = 0x29B1 ∧
    crc32c [49, 50, 51, 52, 53, 54, 55, 56, 57] = 0xE3069283 := by decide +kernel

/-- R45: 3 us divides no second and is refused for reason 1; 8 us is accepted for a boundary at least 1 ms ahead. -/
theorem test_period_request :
    rd (after (exec (.periodReq 3000) up) up) .stitch Fld.SMP_PERIOD_STAT_REASON = 1 ∧
    (after (exec (.periodReq 8000) up) up).perReq = some (8000, 4000000) := by decide +kernel

/-- R53: from the stitch after the one in progress, a target 32,768 ahead is taken and one further has passed. -/
theorem test_commit_targets :
    (groupSt (after (exec (.commitGo (pageBase (.hop 31)) true 40) up) up) (pageGroup up (.hop 31))).req =
      some (.targeted 40) ∧
    (groupSt (after (exec (.commitGo (pageBase (.hop 31)) true 65535) up) up) (pageGroup up (.hop 31))).state = 3 := by
  decide +kernel

/-- R105: a write of a RWS field changes its shadow alone. -/
theorem test_shadow_write :
    let u := after (exec (.registerWrite (pageBase (.tmg 1023) + Fld.TMG_PORT_CFG_OVERHEAD.off) 0xFFFFFFFF .host false) up) up
    shw u (.tmg 1023) Fld.TMG_PORT_CFG_OVERHEAD = 2 ^ Fld.TMG_PORT_CFG_OVERHEAD.width - 1 ∧
    cfg u (.tmg 1023) Fld.TMG_PORT_CFG_OVERHEAD = cfg up (.tmg 1023) Fld.TMG_PORT_CFG_OVERHEAD := by decide +kernel

/-- R404: LATCH at 2.5 s and three quarters of a nanosecond. -/
theorem test_latch :
    let u := after (exec (.latch 10000000003) up) up
    rd u .tod Fld.SMP_LATCH_SEC_SEC = 2 ∧ rd u .tod Fld.SMP_LATCH_NS_NS = 500000000 ∧ rd u .tod Fld.SMP_LATCH_NS_QUARTER = 3 := by
  decide +kernel

/-- The middle of three channels is the voted time. -/
theorem test_vote : (after (exec (.voteCompare [(0, 900), (0, 700), (0, 800)] [0, 0, 0] 0 7 0 0) up) up).now = 800 := by decide +kernel

/-- R163: two quanta of 512 bit times at 100 Gbit/s hold class 0 for 10.24 ns. -/
theorem test_pauseRx :
    tabGet (pauseOf (after (exec (.pauseRx 1023 0 2) (lay [] [(.mac 1023, Fld.MAC_PORT_CFG_SPEED, 3)] (upPort 1))) up) 1023).timer 0 0
      = 4096 := by decide +kernel
/-- Table 19.9: in D3 the lanes are off and the receivers unterminated, and PPS_OUT stands at its idle level; after the
wake the lanes idle, as a lane of RATE 0 does. -/
theorem test_pads :
    let d := { up with pwr := { up.pwr with d3 := .asleep } }
    let r := lay [(.lan 3, Fld.LAN_STATUS_LPM_STATE, 0)] [(.lan 3, Fld.LAN_MODE_RATE, 5)] up
    let w := wr up .pwr Fld.PWR_PAD_STAT_PAD_HELD 1
    (padState d (.laneTx 3) = .highImpedance ∧ padState d (.laneRx 3) = .unterminated ∧
      padState d (.pulseOut 16) = .level false) ∧ padState w (.laneTx 3) = .electricalIdle ∧ padState r (.laneTx 3) = .byRule ∧
      padState up (.laneTx 3) = .electricalIdle := by
  decide +kernel

/-- R123: on PAM4 the bit pairs 00, 01, 11 and 10 are the levels 0 to 3. -/
theorem test_gray : grayLevels [0, 0, 0, 1, 1, 1, 1, 0] = [0, 1, 2, 3] := by decide +kernel

/-- R129: zeros from the state of all ones stay zeros until s(39) = 0 XOR s(0) XOR s(-19) = 1, bit 7 of byte 4. -/
theorem test_scrambler : (scramble scrambleStart (List.replicate 5 0)).1 = [0, 0, 0, 0, 0x80] := by decide +kernel

/-- R129: one wrong line bit reaches the link layer as three, at its place, 39 and 58 bits later. -/
theorem test_line_error : (unscramble 0 [1, 0, 0, 0, 0, 0, 0, 0]).1 = [1, 0, 0, 0, 0x80, 0, 0, 4] := by decide +kernel

/-- R130: the 24th symbol of a run of ones is followed by a stuff symbol of 0, which LAN_STUFF_COUNT counts. -/
theorem test_stuffing :
    let u := after (exec (.stuffInsert 5 [1] 0) (nrzLane 1 { txRun := 23, txLevel := 1 })) up
    (laneHw u 5).line = [1, 0] ∧ rd u (.lan 5) Fld.LAN_STUFF_COUNT_STUFFED = 1 := by decide +kernel

/-- Table 4.5: the square wave is 8 symbols high and 8 low, and the user pattern comes bit 0 first. -/
theorem test_patterns :
    (patTake 1 7 0 16 {}).1 = List.replicate 8 1 ++ List.replicate 8 0 ∧ (patTake 1 8 5 4 {}).1 = [1, 0, 1, 0] := by
  decide +kernel

end Sys2Proof.Tests
end

section
/-! The laws of sparse tables that a search of the whole table needs: what is listed is what is found, once, and how a
write changes the number of listed values of a kind. -/

namespace Sys2Proof.Machine

variable {V : Type}

theorem lt_of_mem_tabRising {b : Nat} {m : Tab V} (hm : tabRising (some b) m = true) {e : Nat × V} (he : e ∈ m) :
    b < e.1 := by
  induction m generalizing b with
  | nil => cases he
  | cons x m ih =>
    simp only [tabRising, Bool.and_eq_true, decide_eq_true_eq] at hm
    rcases List.mem_cons.mp he with rfl | he
    · exact hm.1
    · exact hm.1.trans (ih hm.2 he)

theorem mem_of_tabFind {m : Tab V} {k : Nat} {v : V} (h : tabFind m k = some v) : (k, v) ∈ m := by
  induction m with
  | nil => cases h
  | cons x m ih =>
    by_cases hx : x.1 = k
    · obtain rfl : x.2 = v := by simpa [tabFind, hx] using h
      exact hx ▸ List.mem_cons_self
    · exact List.mem_cons_of_mem _ (ih (by simpa [tabFind, hx] using h))

/-- A table with rising numbers lists each number once, so what is listed is what is found. -/
theorem tabFind_of_mem {m : Tab V} (hm : tabRising none m = true) {k : Nat} {v : V} (h : (k, v) ∈ m) :
    tabFind m k = some v := by
  induction m with
  | nil => cases h
  | cons x m ih =>
    rcases List.mem_cons.mp h with rfl | h
    · simp [tabFind]
    · have hx : x.1 ≠ k := (lt_of_mem_tabRising (b := x.1) hm h).ne
      simpa [tabFind, hx] using ih (tabRising_none hm) h

theorem tabFind_eq_none_of_not_key {m : Tab V} {k : Nat} (h : k ∉ tabKeys m) : tabFind m k = none :=
  Option.eq_none_iff_forall_ne_some.mpr fun _ hv => h (List.mem_map_of_mem (mem_of_tabFind hv))

theorem countP_tabInsert (q : Nat × V → Bool) (m : Tab V) (k : Nat) (v : V) :
    (tabInsert m k v).countP q = m.countP q + (q (k, v)).toNat := by
  induction m with
  | nil => cases hq : q (k, v) <;> simp [tabInsert, hq]
  | cons x m ih =>
    unfold tabInsert
    split
    · cases hq : q (k, v) <;> simp [List.countP_cons, hq]
    · simp only [List.countP_cons, ih]
      omega

theorem countP_tabErase {q : Nat × V → Bool} {m : Tab V} {d : V} {k : Nat} (hm : tabRising none m = true)
    (hd : q (k, d) = false) : (tabErase m k).countP q + (q (k, tabGet m d k)).toNat = m.countP q := by
  induction m with
  | nil => simp [tabErase, tabGet, tabFind, hd]
  | cons x m ih =>
    have ih := ih (tabRising_none hm)
    by_cases hx : x.1 = k
    · have hk : tabFind m k = none := tabFind_eq_none_of_not_key fun hk => by
        obtain ⟨e, he, hek⟩ := List.mem_map.mp hk
        exact absurd (lt_of_mem_tabRising (b := x.1) hm he) (by omega)
      obtain ⟨k', v⟩ := x
      obtain rfl : k' = k := hx
      cases hq : q (k', v) <;> simp_all [tabErase, tabGet, tabFind]
    · simp only [tabErase, tabGet, tabFind, hx, if_false, List.countP_cons] at ih ⊢
      omega

variable [DecidableEq V]

theorem tabRising_put {m : Tab V} (d : V) (k : Nat) (v : V) (hm : tabRising none m = true) :
    tabRising none (tabPut m d k v) = true := by
  unfold tabPut
  split
  · exact tabRising_erase k hm
  · exact tabRising_insert (by simp) (tabFind_erase_same m k) (tabRising_erase k hm)

/-- A write changes the number of listed values of a kind by what it overwrites and by what it writes. -/
theorem countP_tabPut {q : Nat × V → Bool} {m : Tab V} {d : V} {k : Nat} (v : V) (hm : tabRising none m = true)
    (hd : q (k, d) = false) :
    (tabPut m d k v).countP q + (q (k, tabGet m d k)).toNat = m.countP q + (q (k, v)).toNat := by
  have he := countP_tabErase hm hd
  unfold tabPut
  split
  · next hv => simpa [hv, hd] using he
  · rw [countP_tabInsert]
    omega

end Sys2Proof.Machine
end

section
/-! What a chain of register writes leaves as it was: `regsKept` and `onlyRegsIrq` compose. -/

namespace Sys2Proof.Safety

open Sys2Proof.Machine

/-- A register that neither state lists is kept as well. -/
theorem regsKept_iff {s t : State} {ks : List Nat} :
    regsKept s t ks ↔ ∀ k ∉ ks, tabFind t.reg k = tabFind s.reg k := by
  refine ⟨fun h k hk => ?_, fun h k _ hk => h k hk⟩
  by_cases hm : k ∈ tabKeys s.reg ++ tabKeys t.reg
  · exact h k hm hk
  · rw [List.mem_append, not_or] at hm
    rw [tabFind_eq_none_of_not_key hm.1, tabFind_eq_none_of_not_key hm.2]

theorem regsKept_of_reg_eq {s t : State} {ks : List Nat} (h : t.reg = s.reg) : regsKept s t ks :=
  fun _ _ _ => h ▸ rfl

theorem regsKept_trans {s t u : State} {ks : List Nat} (h₁ : regsKept s t ks) (h₂ : regsKept t u ks) :
    regsKept s u ks :=
  regsKept_iff.mpr fun k hk => (regsKept_iff.mp h₂ k hk).trans (regsKept_iff.mp h₁ k hk)

theorem regsKept_wr {s : State} {p : Page} {f : Field} {v : Nat} {ks : List Nat} (h : fieldKey p f ∈ ks) :
    regsKept s (wr s p f v) ks :=
  regsKept_iff.mpr fun _ hk => tabFind_put_other _ _ _ fun e => hk (e ▸ h)

theorem regsKept_stick {s : State} {p : Page} {f : Field} {ks : List Nat} (h : fieldKey p f ∈ ks) :
    regsKept s (stick s p f) ks :=
  regsKept_trans (regsKept_wr h) (regsKept_of_reg_eq (stick_reg s p f))

theorem rd_of_regsKept {s t : State} {ks : List Nat} (h : regsKept s t ks) {p : Page} {f : Field}
    (hf : fieldKey p f ∉ ks) : rd t p f = rd s p f := by
  rw [rd, rd, tabGet, tabGet, regsKept_iff.mp h _ hf]

theorem onlyRegsIrq_trans {s t u : State} {ks : List Nat} (h₁ : onlyRegsIrq s t ks) (h₂ : onlyRegsIrq t u ks) :
    onlyRegsIrq s u ks := by
  obtain ⟨f₁, r₁⟩ := h₁
  obtain ⟨f₂, r₂⟩ := h₂
  have hu := congrArg (fun x : State =>
    { x with reg := s.reg, irqLevel := s.irqLevel, msgs := s.msgs, msixPend := s.msixPend }) f₂
  exact ⟨hu.trans f₁, regsKept_trans r₁ r₂⟩

theorem onlyRegsIrq_wr {s : State} {p : Page} {f : Field} {v : Nat} {ks : List Nat} (h : fieldKey p f ∈ ks) :
    onlyRegsIrq s (wr s p f v) ks := ⟨rfl, regsKept_wr h⟩

theorem onlyRegsIrq_stick {s : State} {p : Page} {f : Field} {ks : List Nat} (h : fieldKey p f ∈ ks) :
    onlyRegsIrq s (stick s p f) ks := ⟨stick_frame s p f, regsKept_stick h⟩

section

variable {s t : State}
  (h : { t with reg := s.reg, irqLevel := s.irqLevel, msgs := s.msgs, msixPend := s.msixPend } = s)

include h

theorem fil_of_frame : t.fil = s.fil := by
  have hf := congrArg State.fil h
  exact hf

theorem counter_of_frame (g : Page) (i : Nat) : counter t g i = counter s g i := by
  have hc := congrArg State.cnt h
  exact congrArg (fun c => tabGet c 0 (cntKey g i)) hc

end

end Sys2Proof.Safety
end

section
/-! The Filet's entries (R230 to R232): which entries a table lists, what a search by key finds, and what a written entry
leaves as it was. -/

namespace Sys2Proof.Machine

open Sys2Proof.Safety

/-! ### Entries -/

@[simp] theorem filEnt_putFil_same (s : State) (p l : Nat) (e : FilEnt) : filEnt (putFil s p l e) p l = e := by
  simp [filEnt, putFil]

theorem tabGet_fil_putFil_other (s : State) {p l k : Nat} (e : FilEnt) (h : k ≠ 2097152 * p + l) :
    tabGet (putFil s p l e).fil {} k = tabGet s.fil {} k := tabGet_put_other _ _ _ _ h

theorem filEnt_putFil_other (s : State) {p l k : Nat} (e : FilEnt) (h : k ≠ l) :
    filEnt (putFil s p l e) p k = filEnt s p k := tabGet_fil_putFil_other s e (by omega)

theorem putFil_frame (s : State) (p l : Nat) (e : FilEnt) :
    { putFil s p l e with fil := s.fil, ecc := s.ecc } = s := rfl

theorem tabRising_putFil {s : State} (p l : Nat) (e : FilEnt) (h : tabRising none s.fil = true) :
    tabRising none (putFil s p l e).fil = true := tabRising_put _ _ _ h

/-- The list of a panel's entries holds its valid entries, each at its location. -/
theorem mem_filList {s : State} (hs : tabRising none s.fil = true) {p : Nat} {x : Nat × FilEnt} :
    x ∈ filList s p ↔ x.1 < 2097152 ∧ filEnt s p x.1 = x.2 ∧ x.2.valid = true := by
  obtain ⟨l, e⟩ := x
  constructor
  · intro h
    obtain ⟨hmap, hv⟩ := List.mem_filter.mp h
    obtain ⟨⟨k, e'⟩, hsel, he⟩ := List.mem_map.mp hmap
    obtain ⟨hlist, hk⟩ := List.mem_filter.mp hsel
    obtain ⟨rfl, rfl⟩ : k % 2097152 = l ∧ e' = e := by simpa using he
    have hp : k / 2097152 = p := by simpa using hk
    have hkey : 2097152 * p + k % 2097152 = k := by omega
    exact ⟨Nat.mod_lt _ (by decide), by simp [filEnt, tabGet, hkey, tabFind_of_mem hs hlist], hv⟩
  · rintro ⟨hl, he, hv⟩
    refine List.mem_filter.mpr ⟨List.mem_map.mpr ⟨(2097152 * p + l, e), List.mem_filter.mpr ⟨?_, ?_⟩, ?_⟩, hv⟩
    · obtain rfl : filEnt s p l = e := he
      cases hf : tabFind s.fil (2097152 * p + l) with
      | none => simp [filEnt, tabGet, hf] at hv
      | some e' => exact mem_of_tabFind (by simp [filEnt, tabGet, hf])
    · simp only [beq_iff_eq]
      omega
    · simp only [Prod.mk.injEq, and_true]
      omega

theorem mem_ovfList {s : State} (hs : tabRising none s.fil = true) {p : Nat} {x : Nat × FilEnt} :
    x ∈ ovfList s p ↔ (1048576 ≤ x.1 ∧ x.1 < 2097152) ∧ filEnt s p x.1 = x.2 ∧ x.2.valid = true := by
  simp only [ovfList, List.mem_filter, mem_filList hs, decide_eq_true_eq]
  tauto

theorem lt_of_mem_bucketLocs {s : State} {p key l : Nat} (h : l ∈ bucketLocs s p key) : l < 1048576 := by
  obtain ⟨i, hi, rfl⟩ := List.mem_map.mp h
  have hb : bucketOf s p key < 2 ^ 18 := Nat.mod_lt _ (by decide)
  have hi := List.mem_range.mp hi
  omega

theorem filAt_lt {s : State} {p l : Nat} (h : filAt s p l) : l < 2 ^ 21 := by
  obtain ⟨hb | ho, -⟩ := h
  · exact (lt_of_mem_bucketLocs hb).trans (by decide)
  · exact ho.2

/-! ### Searches by the command key (R232) -/

theorem filAt_of_filFind {s : State} (hs : tabRising none s.fil = true) {p l : Nat} {f : FilEnt → Bool}
    (h : filFind s p (filKey s p) f = some l) : filAt s p l ∧ f (filEnt s p l) = true := by
  unfold filFind at h
  dsimp only at h
  split at h
  · next l' hb =>
    obtain rfl : l' = l := by simpa using h
    have hit := List.find?_some hb
    simp only [Bool.and_eq_true, beq_iff_eq] at hit
    obtain ⟨⟨hv, hk⟩, hf⟩ := hit
    exact ⟨⟨.inl (List.mem_of_find?_eq_some hb), hv, hk⟩, hf⟩
  · obtain ⟨x, ho, rfl⟩ := Option.map_eq_some_iff.mp h
    have hit := List.find?_some ho
    obtain ⟨hx, he, -⟩ := (mem_ovfList hs).mp (List.mem_of_find?_eq_some ho)
    rw [← he] at hit
    simp only [Bool.and_eq_true, beq_iff_eq] at hit
    obtain ⟨⟨hv, hk⟩, hf⟩ := hit
    exact ⟨⟨.inr hx, hv, hk⟩, hf⟩

theorem filFind_none_imp {s : State} (hs : tabRising none s.fil = true) {p : Nat} {f : FilEnt → Bool}
    (h : filFind s p (filKey s p) f = none) {l : Nat} (hl : filAt s p l) : f (filEnt s p l) = false := by
  obtain ⟨hloc, hv, hk⟩ := hl
  unfold filFind at h
  dsimp only at h
  split at h
  · cases h
  · next hb =>
    rcases hloc with hloc | hloc
    · simpa [hv, hk] using List.find?_eq_none.mp hb l hloc
    · have ho := Option.map_eq_none_iff.mp h
      simpa [hv, hk] using List.find?_eq_none.mp ho (l, filEnt s p l) ((mem_ovfList hs).mpr ⟨hloc, rfl, hv⟩)

theorem stg_ne_of_filFind_none {s : State} (hs : tabRising none s.fil = true) {p v : Nat}
    (h : filFind s p (filKey s p) (fun e => e.stg == v) = none) : ∀ k, filAt s p k → (filEnt s p k).stg ≠ v :=
  fun _ hk => beq_eq_false_iff_ne.mp (filFind_none_imp hs h hk)

/-! ### Staged changes (R252) -/

/-- An entry that counts as a staged change. -/
def isStaged (e : FilEnt) : Bool := e.valid && e.stg != 0

theorem filStaged_eq_countP (s : State) (p : Nat) :
    filStaged s p = s.fil.countP (fun x => x.1 / 2097152 == p && isStaged x.2) := by
  rw [filStaged, filList, tabSel, List.filter_filter, List.filter_map, List.length_map, List.filter_filter,
    ← List.countP_eq_length_filter]
  refine List.countP_congr fun x _ => ?_
  simp [isStaged, and_comm]

/-- A written entry changes the number of staged changes by what it replaces and by what it is. -/
theorem filStaged_putFil {s : State} (hs : tabRising none s.fil = true) {p l : Nat} (hl : l < 2097152) (e : FilEnt) :
    filStaged (putFil s p l e) p + (isStaged (filEnt s p l)).toNat = filStaged s p + (isStaged e).toNat := by
  have hp : (2097152 * p + l) / 2097152 = p := by omega
  have h := countP_tabPut (q := fun x => x.1 / 2097152 == p && isStaged x.2) (d := {}) (k := 2097152 * p + l) e hs
    (by simp [isStaged])
  simpa [filStaged_eq_countP, putFil, filEnt, hp] using h

/-! ### The end of a command -/

@[simp] theorem stick_fil (s : State) (g : Page) (f : Field) : (stick s g f).fil = s.fil :=
  fil_of_frame (stick_frame s g f)

@[simp] theorem stick_filHold (s : State) (g : Page) (f : Field) : (stick s g f).filHold = s.filHold := by
  have h := congrArg State.filHold (stick_frame s g f)
  exact h

theorem counter_stick (s : State) (p g : Page) (f : Field) (i : Nat) : counter (stick s p f) g i = counter s g i :=
  counter_of_frame (stick_frame s p f) g i

theorem fieldKey_ne {p : Page} {f g : Field} (h : f.off * 32 + f.lo ≠ g.off * 32 + g.lo) :
    fieldKey p f ≠ fieldKey p g := by
  unfold fieldKey
  omega

/-- Another field of the same page is left alone. -/
theorem rd_wr_page {s : State} {p : Page} {f g : Field} (v : Nat) (h : g.off * 32 + g.lo ≠ f.off * 32 + f.lo) :
    rd (wr s p f v) p g = rd s p g := rd_wr_other s v (fieldKey_ne h)

@[simp] theorem filEnd_busy (s : State) (p r : Nat) : rd (filEnd s p r) (.fil p) Fld.FIL_CMD_STAT_BUSY = 0 := by
  rw [filEnd, rd_wr_page _ (by decide), rd_wr_same]
  rfl

@[simp] theorem filEnd_result (s : State) (p r : Nat) :
    rd (filEnd s p r) (.fil p) Fld.FIL_CMD_STAT_RESULT = trunc 4 r := rd_wr_same _ _ _ _

theorem rd_filEnd {s : State} {p : Nat} (r : Nat) {f : Field}
    (hb : f.off * 32 + f.lo ≠ Fld.FIL_CMD_STAT_BUSY.off * 32 + Fld.FIL_CMD_STAT_BUSY.lo)
    (hr : f.off * 32 + f.lo ≠ Fld.FIL_CMD_STAT_RESULT.off * 32 + Fld.FIL_CMD_STAT_RESULT.lo) :
    rd (filEnd s p r) (.fil p) f = rd s (.fil p) f := by
  rw [filEnd, rd_wr_page _ hr, rd_wr_page _ hb]

@[simp] theorem filEnd_loc (s : State) (p r : Nat) :
    rd (filEnd s p r) (.fil p) Fld.FIL_CMD_STAT_LOC = rd s (.fil p) Fld.FIL_CMD_STAT_LOC :=
  rd_filEnd r (by decide) (by decide)

/-- OUT0 to OUT3 stand apart from every field below or above them. -/
theorem outWord_apart {f : Field} {i : Nat} (hi : i < 4) (h : f.off * 32 + f.lo < 5248 ∨ 5632 < f.off * 32 + f.lo) :
    (Fld.FIL_CMD_OUT_WORDn i).off * 32 + (Fld.FIL_CMD_OUT_WORDn i).lo ≠ f.off * 32 + f.lo := by
  simp only [Fld.FIL_CMD_OUT_WORDn]
  omega

theorem filEnd_out (s : State) (p r : Nat) {i : Nat} (hi : i < 4) :
    rd (filEnd s p r) (.fil p) (Fld.FIL_CMD_OUT_WORDn i) = rd s (.fil p) (Fld.FIL_CMD_OUT_WORDn i) :=
  rd_filEnd r (outWord_apart hi (by decide)) (outWord_apart hi (by decide))

@[simp] theorem filRefuse_busy (s : State) (p : Nat) : rd (filRefuse s p) (.fil p) Fld.FIL_CMD_STAT_BUSY = 0 := by
  rw [filRefuse, rd_stick, rd_wr_page _ (by decide), filEnd_busy]

@[simp] theorem filRefuse_result (s : State) (p : Nat) : rd (filRefuse s p) (.fil p) Fld.FIL_CMD_STAT_RESULT = 5 := by
  rw [filRefuse, rd_stick, rd_wr_page _ (by decide), filEnd_result]
  rfl

@[simp] theorem filRefuse_sticky (s : State) (p : Nat) :
    rd (filRefuse s p) (.fil p) Fld.FIL_STICKY_CMD_REFUSED = 1 := by
  rw [filRefuse, rd_stick, rd_wr_same]
  rfl

theorem onlyRegsIrq_filEnd {s : State} {p r : Nat} {ks : List Nat}
    (hb : fieldKey (.fil p) Fld.FIL_CMD_STAT_BUSY ∈ ks) (hr : fieldKey (.fil p) Fld.FIL_CMD_STAT_RESULT ∈ ks) :
    onlyRegsIrq s (filEnd s p r) ks := onlyRegsIrq_trans (onlyRegsIrq_wr hb) (onlyRegsIrq_wr hr)

theorem onlyRegsIrq_filRefuse {s : State} {p : Nat} {ks : List Nat}
    (hb : fieldKey (.fil p) Fld.FIL_CMD_STAT_BUSY ∈ ks) (hr : fieldKey (.fil p) Fld.FIL_CMD_STAT_RESULT ∈ ks)
    (hc : fieldKey (.fil p) Fld.FIL_STICKY_CMD_REFUSED ∈ ks) : onlyRegsIrq s (filRefuse s p) ks :=
  onlyRegsIrq_trans (onlyRegsIrq_filEnd hb hr) (onlyRegsIrq_stick hc)

/-- A refusal touches the page's registers and the interrupt of vector 0. -/
theorem filRefuse_frame (s : State) (p : Nat) :
    { filRefuse s p with reg := s.reg, irqLevel := s.irqLevel, msgs := s.msgs, msixPend := s.msixPend } = s :=
  (onlyRegsIrq_filRefuse (ks := on (.fil p) [Fld.FIL_CMD_STAT_BUSY, Fld.FIL_CMD_STAT_RESULT, Fld.FIL_STICKY_CMD_REFUSED])
    (by simp [on]) (by simp [on]) (by simp [on])).1

theorem filEnd_frame (s : State) (p r : Nat) :
    { filEnd s p r with reg := s.reg, irqLevel := s.irqLevel, msgs := s.msgs, msixPend := s.msixPend } = s :=
  (onlyRegsIrq_filEnd (ks := on (.fil p) [Fld.FIL_CMD_STAT_BUSY, Fld.FIL_CMD_STAT_RESULT])
    (by simp [on]) (by simp [on])).1

@[simp] theorem filEnd_fil (s : State) (p r : Nat) : (filEnd s p r).fil = s.fil := by simp [filEnd]

@[simp] theorem filRefuse_fil (s : State) (p : Nat) : (filRefuse s p).fil = s.fil := by simp [filRefuse]

theorem onlyRegsIrq_filLoc {s : State} {p l : Nat} {ks : List Nat}
    (h : fieldKey (.fil p) Fld.FIL_CMD_STAT_LOC ∈ ks) : onlyRegsIrq s (filLoc s p l) ks := onlyRegsIrq_wr h

@[simp] theorem filLoc_loc (s : State) (p l : Nat) :
    rd (filLoc s p l) (.fil p) Fld.FIL_CMD_STAT_LOC = trunc 21 l := rd_wr_same _ _ _ _

/-- The words of an entry are written one after the other, then its location. -/
theorem filOut_eq (s : State) (p l : Nat) :
    filOut s p l = filLoc ((List.range 4).foldl (fun s' i =>
      wr s' (.fil p) (Fld.FIL_CMD_OUT_WORDn i) ((filWords (filEnt s p l)).getD i 0)) s) p l := rfl

@[simp] theorem filOut_loc (s : State) (p l : Nat) :
    rd (filOut s p l) (.fil p) Fld.FIL_CMD_STAT_LOC = trunc 21 l := filLoc_loc _ p l

/-- Of OUT0 to OUT3, written in turn from `ws`, each holds its own word. -/
theorem rd_outWords {p : Nat} (ws : List Nat) {n i : Nat} (hi : i < n) (s : State) :
    rd ((List.range n).foldl (fun s' j => wr s' (.fil p) (Fld.FIL_CMD_OUT_WORDn j) (ws.getD j 0)) s) (.fil p)
      (Fld.FIL_CMD_OUT_WORDn i) = trunc 32 (ws.getD i 0) := by
  induction n with
  | zero => omega
  | succ n ih =>
    rw [List.range_succ, List.foldl_append]
    rcases Nat.lt_succ_iff_lt_or_eq.mp hi with h | rfl
    · exact (rd_wr_page _ (by simp only [Fld.FIL_CMD_OUT_WORDn]; omega)).trans (ih h)
    · exact rd_wr_same _ _ _ _

theorem filOut_out (s : State) (p l : Nat) {i : Nat} (hi : i < 4) :
    rd (filOut s p l) (.fil p) (Fld.FIL_CMD_OUT_WORDn i) = trunc 32 ((filWords (filEnt s p l)).getD i 0) := by
  rw [filOut_eq, filLoc, rd_wr_page _ (outWord_apart hi (by decide)), rd_outWords _ hi]

@[simp] theorem bk_filPos (s : State) (p pos : Nat) :
    bk (filPos s p pos) (.fil p) Fld.FIL_WALK_POS_POS = trunc 21 pos := bk_wrBlk_same _ _ _ _

theorem rd_filPos {s : State} {p : Nat} (pos : Nat) {f : Field}
    (h : f.off * 32 + f.lo ≠ Fld.FIL_WALK_POS_POS.off * 32 + Fld.FIL_WALK_POS_POS.lo) :
    rd (filPos s p pos) (.fil p) f = rd s (.fil p) f := rd_wr_page (s := s) pos h

@[simp] theorem filPos_loc (s : State) (p pos : Nat) :
    rd (filPos s p pos) (.fil p) Fld.FIL_CMD_STAT_LOC = rd s (.fil p) Fld.FIL_CMD_STAT_LOC := rd_filPos pos (by decide)

theorem filPos_out (s : State) (p pos : Nat) {i : Nat} (hi : i < 4) :
    rd (filPos s p pos) (.fil p) (Fld.FIL_CMD_OUT_WORDn i) = rd s (.fil p) (Fld.FIL_CMD_OUT_WORDn i) :=
  rd_filPos pos (outWord_apart hi (by decide))

/-! ### Memory errors that a command meets (R258) -/

/-- The register fields that the memory errors of a command in panel `p` can set. -/
def memErrKeys (p : Nat) : List Nat :=
  on (.prk (4 * p)) [Fld.PRK_STICKY_PAT_UNCORR] ++ on (.cls p) [Fld.CLS_STICKY_CNT_UNCORR] ++
    on (.fil p) [Fld.FIL_ERR_LOC_VALID, Fld.FIL_ERR_LOC_LOC, Fld.FIL_STICKY_ECC_UNCORR]

/-- What a memory error leaves of the state that the commands of panel `p` read. -/
structure ErrKeeps (p : Nat) (s t : State) : Prop where
  regs : regsKept s t (memErrKeys p)
  hold : t.filHold = s.filHold
  rising : tabRising none s.fil = true → tabRising none t.fil = true

theorem ErrKeeps.refl (p : Nat) (s : State) : ErrKeeps p s s := ⟨regsKept_of_reg_eq rfl, rfl, id⟩

theorem ErrKeeps.trans {p : Nat} {s t u : State} (h₁ : ErrKeeps p s t) (h₂ : ErrKeeps p t u) : ErrKeeps p s u :=
  ⟨regsKept_trans h₁.regs h₂.regs, h₂.hold.trans h₁.hold, h₂.rising ∘ h₁.rising⟩

theorem errKeeps_counters (p : Nat) (s : State) (c : Tab Nat) : ErrKeeps p s { s with cnt := c } :=
  ⟨regsKept_of_reg_eq rfl, rfl, id⟩

theorem errKeeps_bump (p : Nat) (s : State) (g : Page) (i n : Nat) : ErrKeeps p s (bump s g i n) :=
  errKeeps_counters p s _

theorem errKeeps_wr {p : Nat} (s : State) {g : Page} {f : Field} (v : Nat) (h : fieldKey g f ∈ memErrKeys p) :
    ErrKeeps p s (wr s g f v) := ⟨regsKept_wr h, rfl, id⟩

theorem errKeeps_stick {p : Nat} (s : State) {g : Page} {f : Field} (h : fieldKey g f ∈ memErrKeys p) :
    ErrKeeps p s (stick s g f) := ⟨regsKept_stick h, stick_filHold s g f, fun hs => (stick_fil s g f).symm ▸ hs⟩

theorem errKeeps_mark (p : Nat) (s : State) (m : Tab Bool) : ErrKeeps p s { s with ecc := m } :=
  ⟨regsKept_of_reg_eq rfl, rfl, id⟩

/-- An entry in uncorrectable error is cleared and marked, then counted, located and reported. -/
theorem memError_filet_uncorr (s : State) (p loc : Nat) :
    memError (4 * p) s (.filet loc true) =
      stick (wr (wr (bump { clearFil s p loc with
          ecc := tabPut (clearFil s p loc).ecc false (wordKey (.fil p) 1 loc) true } (.fil p) 22 1)
        (.fil p) Fld.FIL_ERR_LOC_VALID 1) (.fil p) Fld.FIL_ERR_LOC_LOC loc) (.fil p) Fld.FIL_STICKY_ECC_UNCORR := by
  simp [memError]

theorem errKeeps_memError (p : Nat) (s : State) (e : MemErr) : ErrKeeps p s (memError (4 * p) s e) := by
  have hp : 4 * p / 4 = p := by omega
  cases e with
  | filet loc uncorr =>
    cases uncorr with
    | false => exact errKeeps_bump ..
    | true =>
      have hclear : ErrKeeps p s (clearFil s p loc) := ⟨regsKept_of_reg_eq rfl, rfl, tabRising_putFil p loc _⟩
      rw [memError_filet_uncorr]
      refine (hclear.trans ((errKeeps_mark p _ _).trans (errKeeps_bump p _ _ _ _))).trans
        ((errKeeps_wr _ _ ?_).trans ((errKeeps_wr _ _ ?_).trans (errKeeps_stick _ ?_))) <;> simp [memErrKeys, on]
  | pattern i uncorr | selection i uncorr =>
    cases uncorr with
    | false => exact errKeeps_bump ..
    | true =>
      simp only [memError, if_true]
      exact ((errKeeps_mark p _ _).trans (errKeeps_bump p _ _ _ _)).trans (errKeeps_stick _ (by simp [memErrKeys, on]))
  | rule k uncorr =>
    cases uncorr with
    | false => exact errKeeps_bump ..
    | true => exact errKeeps_mark ..
  | ruleCounter c =>
    simp only [memError, hp]
    exact (errKeeps_counters p s _).trans (errKeeps_stick _ (by simp [memErrKeys, on]))
  | _ => exact ErrKeeps.refl p s

theorem errKeeps_filErrs (p : Nat) (errs : List MemErr) (s : State) : ErrKeeps p s (filErrs s p errs) := by
  induction errs generalizing s with
  | nil => exact ErrKeeps.refl p s
  | cons e errs ih => exact (errKeeps_memError p s e).trans (ih _)

theorem rdB_busy_filErrs (s : State) (p : Nat) (errs : List MemErr) :
    rdB (filErrs s p errs) (.fil p) Fld.FIL_CMD_STAT_BUSY = rdB s (.fil p) Fld.FIL_CMD_STAT_BUSY := by
  have h : fieldKey (.fil p) Fld.FIL_CMD_STAT_BUSY ∉ memErrKeys p := by
    simp [memErrKeys, on, fieldKey, pageBase, panelBase, hoopBase, Fld.FIL_CMD_STAT_BUSY, Fld.PRK_STICKY_PAT_UNCORR,
      Fld.CLS_STICKY_CNT_UNCORR, Fld.FIL_ERR_LOC_VALID, Fld.FIL_ERR_LOC_LOC, Fld.FIL_STICKY_ECC_UNCORR]
    omega
  rw [rdB, rdB, rd_of_regsKept (errKeeps_filErrs p errs s).regs h]

theorem filWaits_filErrs (s : State) (p : Nat) (errs : List MemErr) : filWaits (filErrs s p errs) p = filWaits s p := by
  have h : fieldKey (.fil p) Fld.FIL_STATUS_CLEANUP ∉ memErrKeys p := by
    simp [memErrKeys, on, fieldKey, pageBase, panelBase, hoopBase, Fld.FIL_STATUS_CLEANUP, Fld.PRK_STICKY_PAT_UNCORR,
      Fld.CLS_STICKY_CNT_UNCORR, Fld.FIL_ERR_LOC_VALID, Fld.FIL_ERR_LOC_LOC, Fld.FIL_STICKY_ECC_UNCORR]
    omega
  have keeps := errKeeps_filErrs p errs s
  rw [filWaits, filWaits, rdB, rdB, rd_of_regsKept keeps.regs h, keeps.hold]

end Sys2Proof.Machine
end

section
/-! The Filet commands SEARCH, NEXT and DELETE (R245 to R250): what each can do, said once, then the obligations. -/

namespace Sys2Proof.Machine

open Sys2Proof.Safety

/-! ### The start of a command (R245) -/

/-- A command that does not wait runs at once where none is in progress. -/
theorem filStart_of_idle {s : State} {p op : Nat} (hb : rdB s (.fil p) Fld.FIL_CMD_STAT_BUSY = false)
    (hw : (filChanges op && filWaits s p) = false) : filStart s p op = filRun s p op := by
  simp [filStart, hb, hw]

theorem filStart_of_busy {s : State} {p op : Nat} (hb : rdB s (.fil p) Fld.FIL_CMD_STAT_BUSY = true) :
    filStart s p op = stick s (.fil p) Fld.FIL_STICKY_CMD_REFUSED := by
  simp [filStart, hb]

theorem filRun_search (s : State) (p : Nat) {op : Nat} (h : op = 1) : filRun s p op = filSearch s p := by
  unfold filRun
  split <;> trivial

theorem filRun_next (s : State) (p : Nat) {op : Nat} (h : op = 2) : filRun s p op = filNext s p := by
  unfold filRun
  split <;> trivial

theorem filRun_delete (s : State) (p : Nat) {op : Nat} (h : op = 4) : filRun s p op = filDelete s p := by
  unfold filRun
  split <;> trivial

theorem filStart_search {s : State} {p : Nat} (errs : List MemErr)
    (hb : rdB s (.fil p) Fld.FIL_CMD_STAT_BUSY = false) :
    filStart (filErrs s p errs) p 1 = filSearch (filErrs s p errs) p := by
  rw [filStart_of_idle ((rdB_busy_filErrs s p errs).trans hb) (by simp [filChanges]), filRun_search _ _ rfl]

theorem filStart_next {s : State} {p : Nat} (errs : List MemErr)
    (hb : rdB s (.fil p) Fld.FIL_CMD_STAT_BUSY = false) :
    filStart (filErrs s p errs) p 2 = filNext (filErrs s p errs) p := by
  rw [filStart_of_idle ((rdB_busy_filErrs s p errs).trans hb) (by simp [filChanges]), filRun_next _ _ rfl]

theorem filStart_delete {s : State} {p : Nat} (errs : List MemErr)
    (hb : rdB s (.fil p) Fld.FIL_CMD_STAT_BUSY = false) (hw : filWaits s p = false) :
    filStart (filErrs s p errs) p 4 = filDelete (filErrs s p errs) p := by
  rw [filStart_of_idle ((rdB_busy_filErrs s p errs).trans hb) (by simp [filWaits_filErrs, hw]), filRun_delete _ _ rfl]

theorem completes_filSearch {s : State} {p : Nat} {errs : List MemErr} {P : State → Prop}
    (h : P (filStart (filErrs s p errs) p 1)) : completes (.filSearch p errs) s P := ⟨_, rfl, h⟩

theorem completes_filNext {s : State} {p : Nat} {errs : List MemErr} {P : State → Prop}
    (h : P (filStart (filErrs s p errs) p 2)) : completes (.filNext p errs) s P := ⟨_, rfl, h⟩

theorem completes_filDelete {s : State} {p : Nat} {errs : List MemErr} {P : State → Prop}
    (h : P (filStart (filErrs s p errs) p 4)) : completes (.filDelete p errs) s P := ⟨_, rfl, h⟩

/-! ### DELETE (R250) -/

/-- A command ends DONE with `e` written at the location that it names. -/
def filWrote (s : State) (p l : Nat) (e : FilEnt) : State := filEnd (filLoc (putFil s p l e) p l) p 0

@[simp] theorem filWrote_fil (s : State) (p l : Nat) (e : FilEnt) : (filWrote s p l e).fil = (putFil s p l e).fil := by
  simp [filWrote, filLoc]

@[simp] theorem filWrote_busy (s : State) (p l : Nat) (e : FilEnt) :
    rd (filWrote s p l e) (.fil p) Fld.FIL_CMD_STAT_BUSY = 0 := filEnd_busy ..

@[simp] theorem filWrote_result (s : State) (p l : Nat) (e : FilEnt) :
    rd (filWrote s p l e) (.fil p) Fld.FIL_CMD_STAT_RESULT = 0 := filEnd_result ..

theorem filWrote_loc (s : State) {p l : Nat} (e : FilEnt) (hl : l < 2 ^ 21) :
    rd (filWrote s p l e) (.fil p) Fld.FIL_CMD_STAT_LOC = l := by
  rw [filWrote, filEnd_loc, filLoc_loc, trunc_of_lt hl]

/-- Beside the entry, a command that writes one touches registers only. -/
theorem filWrote_frame (s : State) (p l : Nat) (e : FilEnt) :
    let u := putFil s p l e
    { filWrote s p l e with reg := u.reg, irqLevel := u.irqLevel, msgs := u.msgs, msixPend := u.msixPend } = u :=
  (onlyRegsIrq_trans (onlyRegsIrq_filLoc (ks := on (.fil p) [Fld.FIL_CMD_STAT_BUSY, Fld.FIL_CMD_STAT_RESULT,
    Fld.FIL_CMD_STAT_LOC]) (by simp [on])) (onlyRegsIrq_filEnd (by simp [on]) (by simp [on]))).1

/-- A change of an entry followed by a change of registers. -/
theorem entryFrame_trans {s u t : State} (h₁ : { u with fil := s.fil, ecc := s.ecc } = s)
    (h₂ : { t with reg := u.reg, irqLevel := u.irqLevel, msgs := u.msgs, msixPend := u.msixPend } = u) :
    { t with fil := s.fil, ecc := s.ecc, reg := s.reg, irqLevel := s.irqLevel, msgs := s.msgs,
             msixPend := s.msixPend } = s := by
  have ht := congrArg (fun x : State => { x with fil := s.fil, ecc := s.ecc, reg := s.reg, irqLevel := s.irqLevel,
                                                 msgs := s.msgs, msixPend := s.msixPend }) h₂
  have hu := congrArg (fun x : State => { x with reg := s.reg, irqLevel := s.irqLevel, msgs := s.msgs,
                                                 msixPend := s.msixPend }) h₁
  exact ht.trans hu

theorem filStaged_filWrote (s : State) (p l : Nat) (e : FilEnt) :
    filStaged (filWrote s p l e) p = filStaged (putFil s p l e) p := by
  rw [filStaged_eq_countP, filStaged_eq_countP, filWrote_fil]

/-- What DELETE can do: refuse a reserved key type, free the staged add of its key, stage a delete of the entry in
force, or end STAGE_FULL or NOT_FOUND. -/
inductive DeleteOutcome (s : State) (p : Nat) : State → Prop
  | refused (hk : 3 ≤ filKey s p / 2 ^ 60) : DeleteOutcome s p (filRefuse s p)
  | freed {l : Nat} (hk : filKey s p / 2 ^ 60 < 3) (hl : filAt s p l) (h1 : (filEnt s p l).stg = 1) :
      DeleteOutcome s p (filWrote s p l { filEnt s p l with valid := false })
  | staged {l : Nat} (hk : filKey s p / 2 ^ 60 < 3) (hl : filAt s p l) (h0 : (filEnt s p l).stg = 0)
      (hadd : ∀ k, filAt s p k → (filEnt s p k).stg ≠ 1) :
      DeleteOutcome s p (filWrote s p l { filEnt s p l with stg := 2 })
  | full {l : Nat} (hk : filKey s p / 2 ^ 60 < 3) (hl : filAt s p l) (h0 : (filEnt s p l).stg = 0)
      (hadd : ∀ k, filAt s p k → (filEnt s p k).stg ≠ 1) (hfull : 65536 ≤ filStaged s p) :
      DeleteOutcome s p (filEnd s p 4)
  | absent (hk : filKey s p / 2 ^ 60 < 3) (hadd : ∀ k, filAt s p k → (filEnt s p k).stg ≠ 1)
      (hold : ∀ k, filAt s p k → (filEnt s p k).stg ≠ 0) : DeleteOutcome s p (filEnd s p 1)

theorem deleteOutcome_filDelete {s : State} (hs : tabRising none s.fil = true) (p : Nat) :
    DeleteOutcome s p (filDelete s p) := by
  unfold filDelete
  dsimp only
  split
  · next hk => exact .refused hk
  · next hk =>
    have hk := Nat.lt_of_not_le hk
    split
    · next l h1 =>
      obtain ⟨hl, h1⟩ := filAt_of_filFind hs h1
      exact .freed hk hl (beq_iff_eq.mp h1)
    · next hadd =>
      have hadd := stg_ne_of_filFind_none hs hadd
      split
      · next l h0 =>
        obtain ⟨hl, h0⟩ := filAt_of_filFind hs h0
        have h0 := beq_iff_eq.mp h0
        split
        · next hfull => exact .full hk hl h0 hadd hfull
        · exact .staged hk hl h0 hadd
      · next hold => exact .absent hk hadd (stg_ne_of_filFind_none hs hold)

namespace DeleteOutcome

variable {s t : State} {p : Nat}

theorem busy (h : DeleteOutcome s p t) : rd t (.fil p) Fld.FIL_CMD_STAT_BUSY = 0 := by
  cases h <;> simp

theorem refused_iff (h : DeleteOutcome s p t) :
    rd t (.fil p) Fld.FIL_CMD_STAT_RESULT = 5 ↔ 3 ≤ filKey s p / 2 ^ 60 := by
  cases h with
  | refused hk => simpa using hk
  | freed hk | staged hk => simpa using hk
  | full hk | absent hk => simpa [trunc] using hk

/-- A staged add of the key is found first, and freed. -/
theorem of_staged_add (h : DeleteOutcome s p t) (hk : filKey s p / 2 ^ 60 < 3)
    (hadd : ∃ k, filAt s p k ∧ (filEnt s p k).stg = 1) :
    rd t (.fil p) Fld.FIL_CMD_STAT_RESULT = 0 ∧ (filEnt s p (rd t (.fil p) Fld.FIL_CMD_STAT_LOC)).stg = 1 := by
  obtain ⟨k, hk1, hst⟩ := hadd
  cases h with
  | refused hk' => omega
  | freed _ hl h1 => exact ⟨filWrote_result .., by rwa [filWrote_loc _ _ (filAt_lt hl)]⟩
  | staged _ _ _ hno | full _ _ _ hno | absent _ hno => exact absurd hst (hno k hk1)

theorem of_in_force (h : DeleteOutcome s p t) (hk : filKey s p / 2 ^ 60 < 3)
    (hadd : ∀ k, filAt s p k → (filEnt s p k).stg ≠ 1) (hold : ∃ k, filAt s p k ∧ (filEnt s p k).stg = 0) :
    rd t (.fil p) Fld.FIL_CMD_STAT_RESULT = 0 ∧ (filEnt s p (rd t (.fil p) Fld.FIL_CMD_STAT_LOC)).stg = 0 ∨
      rd t (.fil p) Fld.FIL_CMD_STAT_RESULT = 4 ∧ 65536 ≤ filStaged s p := by
  obtain ⟨k, hk1, hst⟩ := hold
  cases h with
  | refused hk' => omega
  | freed _ hl h1 => exact absurd h1 (hadd _ hl)
  | staged _ hl h0 => exact .inl ⟨filWrote_result .., by rwa [filWrote_loc _ _ (filAt_lt hl)]⟩
  | full _ _ _ _ hfull => exact .inr ⟨filEnd_result .., hfull⟩
  | absent _ _ hno => exact absurd hst (hno k hk1)

theorem of_absent (h : DeleteOutcome s p t) (hk : filKey s p / 2 ^ 60 < 3)
    (hno : ∀ k, filAt s p k → (filEnt s p k).stg ≠ 0 ∧ (filEnt s p k).stg ≠ 1) :
    rd t (.fil p) Fld.FIL_CMD_STAT_RESULT = 1 := by
  cases h with
  | refused hk' => omega
  | freed _ hl h1 => exact absurd h1 (hno _ hl).2
  | staged _ hl h0 | full _ hl h0 => exact absurd h0 (hno _ hl).1
  | absent => exact filEnd_result ..

/-- A delete that is done changes the entry that it names and no other. -/
theorem of_done (h : DeleteOutcome s p t) (hr : rd t (.fil p) Fld.FIL_CMD_STAT_RESULT = 0) :
    filAt s p (rd t (.fil p) Fld.FIL_CMD_STAT_LOC) ∧
    ((filEnt s p (rd t (.fil p) Fld.FIL_CMD_STAT_LOC)).stg = 1 ∧
        filEnt t p (rd t (.fil p) Fld.FIL_CMD_STAT_LOC) =
          { filEnt s p (rd t (.fil p) Fld.FIL_CMD_STAT_LOC) with valid := false } ∨
      (filEnt s p (rd t (.fil p) Fld.FIL_CMD_STAT_LOC)).stg = 0 ∧
        filEnt t p (rd t (.fil p) Fld.FIL_CMD_STAT_LOC) =
          { filEnt s p (rd t (.fil p) Fld.FIL_CMD_STAT_LOC) with stg := 2 }) ∧
    ∀ k, k ≠ 2097152 * p + rd t (.fil p) Fld.FIL_CMD_STAT_LOC → tabGet t.fil {} k = tabGet s.fil {} k := by
  cases h with
  | refused => simp at hr
  | freed _ hl h1 =>
    rw [filWrote_loc _ _ (filAt_lt hl)]
    exact ⟨hl, .inl ⟨h1, filEnt_putFil_same ..⟩, fun k hk => tabGet_fil_putFil_other s _ hk⟩
  | staged _ hl h0 =>
    rw [filWrote_loc _ _ (filAt_lt hl)]
    exact ⟨hl, .inr ⟨h0, filEnt_putFil_same ..⟩, fun k hk => tabGet_fil_putFil_other s _ hk⟩
  | full | absent => simp [trunc] at hr

/-- A freed add no longer counts as a staged change. -/
theorem staged_of_freed (h : DeleteOutcome s p t) (hs : tabRising none s.fil = true)
    (hr : rd t (.fil p) Fld.FIL_CMD_STAT_RESULT = 0)
    (h1 : (filEnt s p (rd t (.fil p) Fld.FIL_CMD_STAT_LOC)).stg = 1) : filStaged t p + 1 = filStaged s p := by
  cases h with
  | refused => simp at hr
  | @freed l _ hl h1' =>
    have hv : (filEnt s p l).valid = true := hl.2.1
    have hput := filStaged_putFil hs (p := p) (filAt_lt hl) { filEnt s p l with valid := false }
    simpa [isStaged, hv, h1', filStaged_filWrote] using hput
  | staged _ hl h0 =>
    rw [filWrote_loc _ _ (filAt_lt hl)] at h1
    omega
  | full | absent => simp [trunc] at hr

theorem fil_of_not_done (h : DeleteOutcome s p t) (hr : rd t (.fil p) Fld.FIL_CMD_STAT_RESULT ≠ 0) :
    t.fil = s.fil := by
  cases h with
  | refused => exact filRefuse_fil s p
  | freed | staged => exact absurd (filWrote_result ..) hr
  | full | absent => exact filEnd_fil ..

theorem frame (h : DeleteOutcome s p t) :
    { t with fil := s.fil, ecc := s.ecc, reg := s.reg, irqLevel := s.irqLevel, msgs := s.msgs,
             msixPend := s.msixPend } = s := by
  cases h with
  | refused => exact entryFrame_trans rfl (filRefuse_frame s p)
  | freed | staged => exact entryFrame_trans (putFil_frame ..) (filWrote_frame ..)
  | full | absent => exact entryFrame_trans rfl (filEnd_frame ..)

end DeleteOutcome

/-- Settles O10, by the outcomes of DELETE on the state in which the memory errors are handled. -/
theorem filetDeletes : Obligations.FiletDeletes := by
  intro s p errs hbusy hwait hs
  have hm := (errKeeps_filErrs p errs s).rising hs
  have h := deleteOutcome_filDelete hm p
  rw [← filStart_delete errs hbusy hwait] at h
  exact completes_filDelete ⟨h.busy, h.refused_iff, fun hk => ⟨h.of_staged_add hk, h.of_in_force hk, h.of_absent hk⟩,
    h.of_done, h.staged_of_freed hm, h.fil_of_not_done, h.frame⟩

end Sys2Proof.Machine
end

section
/-! The Filet commands that read entries: SEARCH and NEXT (R247, R248), and the entry in uncorrectable error that a
command meets (R258). -/

namespace Sys2Proof.Machine

open Sys2Proof.Safety

/-! ### SEARCH (R247) -/

/-- What SEARCH can do: refuse a reserved key type, return an entry of its key, a staged add first, or end NOT_FOUND. -/
inductive SearchOutcome (s : State) (p : Nat) : State → Prop
  | refused (hk : 3 ≤ filKey s p / 2 ^ 60) : SearchOutcome s p (filRefuse s p)
  | found {l : Nat} (hk : filKey s p / 2 ^ 60 < 3) (hl : filAt s p l)
      (hfirst : (filEnt s p l).stg = 1 ∨ ∀ k, filAt s p k → (filEnt s p k).stg ≠ 1) :
      SearchOutcome s p (filEnd (filOut s p l) p 0)
  | absent (hk : filKey s p / 2 ^ 60 < 3) (hno : ∀ k, ¬ filAt s p k) : SearchOutcome s p (filEnd s p 1)

theorem searchOutcome_filSearch {s : State} (hs : tabRising none s.fil = true) (p : Nat) :
    SearchOutcome s p (filSearch s p) := by
  unfold filSearch
  dsimp only
  split
  · next hk => exact .refused hk
  · next hk =>
    have hk := Nat.lt_of_not_le hk
    cases hadd : filFind s p (filKey s p) (fun e => e.stg == 1) with
    | some l =>
      obtain ⟨hl, h1⟩ := filAt_of_filFind hs hadd
      exact .found hk hl (.inl (beq_iff_eq.mp h1))
    | none =>
      have hadd := stg_ne_of_filFind_none hs hadd
      cases hany : filFind s p (filKey s p) (fun _ => true) with
      | some l => exact .found hk (filAt_of_filFind hs hany).1 (.inr hadd)
      | none => exact .absent hk fun k hk => Bool.noConfusion (filFind_none_imp hs hany hk)

/-- The register fields that SEARCH can change. -/
def searchKeys (p : Nat) : List Nat :=
  on (.fil p) ([Fld.FIL_CMD_STAT_BUSY, Fld.FIL_CMD_STAT_RESULT, Fld.FIL_CMD_STAT_LOC, Fld.FIL_STICKY_CMD_REFUSED] ++
    (List.range 4).map Fld.FIL_CMD_OUT_WORDn)

theorem out_mem_searchKeys (p : Nat) {i : Nat} (hi : i < 4) :
    fieldKey (.fil p) (Fld.FIL_CMD_OUT_WORDn i) ∈ searchKeys p :=
  List.mem_map_of_mem (List.mem_append_right _ (List.mem_map_of_mem (List.mem_range.mpr hi)))

theorem mem_searchKeys (p : Nat) {f : Field} (hf : f ∈ [Fld.FIL_CMD_STAT_BUSY, Fld.FIL_CMD_STAT_RESULT,
    Fld.FIL_CMD_STAT_LOC, Fld.FIL_STICKY_CMD_REFUSED]) : fieldKey (.fil p) f ∈ searchKeys p :=
  List.mem_map_of_mem (List.mem_append_left _ hf)

theorem onlyRegsIrq_outWords {p : Nat} {ks : List Nat} (ws : List Nat) (n : Nat) (s : State)
    (h : ∀ i < n, fieldKey (.fil p) (Fld.FIL_CMD_OUT_WORDn i) ∈ ks) :
    onlyRegsIrq s ((List.range n).foldl
      (fun s' j => wr s' (.fil p) (Fld.FIL_CMD_OUT_WORDn j) (ws.getD j 0)) s) ks := by
  induction n with
  | zero => exact ⟨rfl, regsKept_of_reg_eq rfl⟩
  | succ n ih =>
    rw [List.range_succ, List.foldl_append]
    exact onlyRegsIrq_trans (ih fun i hi => h i (hi.trans n.lt_succ_self)) (onlyRegsIrq_wr (h n n.lt_succ_self))

theorem onlyRegsIrq_filOut (s : State) (p l : Nat) : onlyRegsIrq s (filOut s p l) (searchKeys p) :=
  onlyRegsIrq_trans (onlyRegsIrq_outWords _ 4 s fun _ => out_mem_searchKeys p)
    (onlyRegsIrq_filLoc (mem_searchKeys p (by simp)))

theorem onlyRegsIrq_searchEnd (s : State) (p r : Nat) : onlyRegsIrq s (filEnd s p r) (searchKeys p) :=
  onlyRegsIrq_filEnd (mem_searchKeys p (by simp)) (mem_searchKeys p (by simp))

namespace SearchOutcome

variable {s t : State} {p : Nat}

theorem busy (h : SearchOutcome s p t) : rd t (.fil p) Fld.FIL_CMD_STAT_BUSY = 0 := by
  cases h <;> simp

theorem of_reserved (h : SearchOutcome s p t) (hk : 3 ≤ filKey s p / 2 ^ 60) :
    rd t (.fil p) Fld.FIL_CMD_STAT_RESULT = 5 ∧ rd t (.fil p) Fld.FIL_STICKY_CMD_REFUSED = 1 := by
  cases h with
  | refused => exact ⟨filRefuse_result s p, filRefuse_sticky s p⟩
  | found hk' | absent hk' => omega

theorem of_key (h : SearchOutcome s p t) (hk : filKey s p / 2 ^ 60 < 3) :
    (rd t (.fil p) Fld.FIL_CMD_STAT_RESULT = 0 ∧ filAt s p (rd t (.fil p) Fld.FIL_CMD_STAT_LOC) ∧
      ((filEnt s p (rd t (.fil p) Fld.FIL_CMD_STAT_LOC)).stg = 1 ∨ ∀ k, filAt s p k → (filEnt s p k).stg ≠ 1) ∧
      ∀ i < 4, rd t (.fil p) (Fld.FIL_CMD_OUT_WORDn i) =
        trunc 32 ((filWords (filEnt s p (rd t (.fil p) Fld.FIL_CMD_STAT_LOC))).getD i 0)) ∨
    (rd t (.fil p) Fld.FIL_CMD_STAT_RESULT = 1 ∧ ∀ k, ¬ filAt s p k) := by
  cases h with
  | refused hk' => omega
  | found _ hl hfirst =>
    rw [filEnd_loc, filOut_loc, trunc_of_lt (filAt_lt hl)]
    exact .inl ⟨filEnd_result .., hl, hfirst, fun i hi => (filEnd_out _ p 0 hi).trans (filOut_out s p _ hi)⟩
  | absent _ hno => exact .inr ⟨filEnd_result .., hno⟩

end SearchOutcome

theorem onlyRegsIrq_filSearch (s : State) (p : Nat) : onlyRegsIrq s (filSearch s p) (searchKeys p) := by
  unfold filSearch
  dsimp only
  split
  · exact onlyRegsIrq_filRefuse (mem_searchKeys p (by simp)) (mem_searchKeys p (by simp)) (mem_searchKeys p (by simp))
  · split
    · exact onlyRegsIrq_trans (onlyRegsIrq_filOut s p _) (onlyRegsIrq_searchEnd _ p 0)
    · exact onlyRegsIrq_searchEnd s p 1

/-- SEARCH changes no more than its own registers, whether it runs or is discarded. -/
theorem onlyRegsIrq_filStart_search (s : State) (p : Nat) : onlyRegsIrq s (filStart s p 1) (searchKeys p) := by
  cases hb : rdB s (.fil p) Fld.FIL_CMD_STAT_BUSY with
  | false =>
    rw [filStart_of_idle hb (by simp [filChanges]), filRun_search _ _ rfl]
    exact onlyRegsIrq_filSearch s p
  | true =>
    rw [filStart_of_busy hb]
    exact onlyRegsIrq_stick (mem_searchKeys p (by simp))

/-! ### NEXT (R248) -/

/-- Whether NEXT returns an entry: it stands at the walk position or behind it and passes the filters. -/
def filFits (s : State) (p : Nat) (e : Nat × FilEnt) : Bool :=
  decide (bk s (.fil p) Fld.FIL_WALK_POS_POS ≤ e.1) && filSel s p e.2 && filVidOk s p e.2 &&
    (bk s (.fil p) Fld.FIL_CMD_ARG_PORT_EN == 0 || filAtPort s p e.2)

/-- What NEXT can do: refuse CLS_SEL 3, return an entry that fits, or end the walk. -/
inductive NextOutcome (s : State) (p : Nat) : State → Prop
  | refused (hc : bk s (.fil p) Fld.FIL_CMD_ARG_CLS_SEL = 3) : NextOutcome s p (filRefuse s p)
  | found {e : Nat × FilEnt} (hc : bk s (.fil p) Fld.FIL_CMD_ARG_CLS_SEL ≠ 3) (he : e ∈ filList s p)
      (hf : filFits s p e = true) : NextOutcome s p (filEnd (filPos (filOut s p e.1) p (e.1 + 1)) p 0)
  | done (hc : bk s (.fil p) Fld.FIL_CMD_ARG_CLS_SEL ≠ 3) (hno : ∀ e ∈ filList s p, filFits s p e = false) :
      NextOutcome s p (filEnd (filPos s p 0) p 3)

theorem nextOutcome_filNext (s : State) (p : Nat) : NextOutcome s p (filNext s p) := by
  unfold filNext
  dsimp only
  split
  · next hc => exact .refused hc
  · next hc =>
    split
    · next e he => exact .found hc (List.mem_of_find?_eq_some he) (List.find?_some he)
    · next hno => exact .done hc fun e he => Bool.eq_false_of_not_eq_true (List.find?_eq_none.mp hno e he)

theorem filPos_frame (s : State) (p pos : Nat) : { filPos s p pos with reg := s.reg, blk := s.blk } = s := rfl

/-- A change of the walk position between changes of registers. -/
theorem walkFrame_trans {s u v t : State}
    (h₁ : { u with reg := s.reg, irqLevel := s.irqLevel, msgs := s.msgs, msixPend := s.msixPend } = s)
    (h₂ : { v with reg := u.reg, blk := u.blk } = u)
    (h₃ : { t with reg := v.reg, irqLevel := v.irqLevel, msgs := v.msgs, msixPend := v.msixPend } = v) :
    { t with reg := s.reg, blk := s.blk, irqLevel := s.irqLevel, msgs := s.msgs, msixPend := s.msixPend } = s := by
  have ht := congrArg (fun x : State => { x with reg := s.reg, blk := s.blk, irqLevel := s.irqLevel, msgs := s.msgs,
                                                 msixPend := s.msixPend }) h₃
  have hv := congrArg (fun x : State => { x with reg := s.reg, blk := s.blk, irqLevel := s.irqLevel, msgs := s.msgs,
                                                 msixPend := s.msixPend }) h₂
  have hu := congrArg (fun x : State => { x with blk := s.blk }) h₁
  exact ht.trans (hv.trans hu)

@[simp] theorem bk_filEnd (s : State) (p r : Nat) (g : Page) (f : Field) : bk (filEnd s p r) g f = bk s g f := by
  simp [filEnd]

namespace NextOutcome

variable {s t : State} {p : Nat}

theorem busy (h : NextOutcome s p t) : rd t (.fil p) Fld.FIL_CMD_STAT_BUSY = 0 := by
  cases h <;> simp

theorem of_reserved (h : NextOutcome s p t) (hc : bk s (.fil p) Fld.FIL_CMD_ARG_CLS_SEL = 3) :
    rd t (.fil p) Fld.FIL_CMD_STAT_RESULT = 5 ∧ rd t (.fil p) Fld.FIL_STICKY_CMD_REFUSED = 1 := by
  cases h with
  | refused => exact ⟨filRefuse_result s p, filRefuse_sticky s p⟩
  | found hc' | done hc' => exact absurd hc hc'

theorem of_walk (h : NextOutcome s p t) (hc : bk s (.fil p) Fld.FIL_CMD_ARG_CLS_SEL ≠ 3) :
    (rd t (.fil p) Fld.FIL_CMD_STAT_RESULT = 0 ∧ ∃ e ∈ filList s p, filFits s p e = true ∧
      rd t (.fil p) Fld.FIL_CMD_STAT_LOC = trunc 21 e.1 ∧
      bk t (.fil p) Fld.FIL_WALK_POS_POS = trunc 21 (e.1 + 1) ∧
      ∀ i < 4, rd t (.fil p) (Fld.FIL_CMD_OUT_WORDn i) = trunc 32 ((filWords (filEnt s p e.1)).getD i 0)) ∨
    (rd t (.fil p) Fld.FIL_CMD_STAT_RESULT = 3 ∧ bk t (.fil p) Fld.FIL_WALK_POS_POS = 0 ∧
      ∀ e ∈ filList s p, filFits s p e = false) := by
  cases h with
  | refused hc' => exact absurd hc' hc
  | @found e _ he hf =>
    have hout : ∀ i < 4, rd (filEnd (filPos (filOut s p e.1) p (e.1 + 1)) p 0) (.fil p) (Fld.FIL_CMD_OUT_WORDn i) =
        trunc 32 ((filWords (filEnt s p e.1)).getD i 0) := fun i hi => by
      rw [filEnd_out _ _ _ hi, filPos_out _ _ _ hi, filOut_out _ _ _ hi]
    exact .inl ⟨filEnd_result .., e, he, hf, by simp, by simp, hout⟩
  | done _ hno => exact .inr ⟨filEnd_result .., by simp [trunc], hno⟩

theorem frame (h : NextOutcome s p t) :
    { t with reg := s.reg, blk := s.blk, irqLevel := s.irqLevel, msgs := s.msgs, msixPend := s.msixPend } = s := by
  cases h with
  | refused => exact walkFrame_trans rfl rfl (filRefuse_frame s p)
  | found => exact walkFrame_trans (onlyRegsIrq_filOut s p _).1 (filPos_frame ..) (filEnd_frame ..)
  | done => exact walkFrame_trans rfl (filPos_frame ..) (filEnd_frame ..)

end NextOutcome

/-! ### An entry in uncorrectable error (R258) -/

theorem filErrs_singleton (s : State) (p : Nat) (e : MemErr) : filErrs s p [e] = memError (4 * p) s e := rfl

/-- The entry is cleared and no other changes; the error is counted, located and reported. -/
theorem memError_filet_uncorr_effect (s : State) {p l : Nat} (hl : l < 2 ^ 21) :
    let m := memError (4 * p) s (.filet l true)
    m.fil = (clearFil s p l).fil ∧ counter m (.fil p) 22 = trunc 64 (counter s (.fil p) 22 + 1) ∧
    rd m (.fil p) Fld.FIL_ERR_LOC_VALID = 1 ∧ rd m (.fil p) Fld.FIL_ERR_LOC_LOC = l ∧
    rd m (.fil p) Fld.FIL_STICKY_ECC_UNCORR = 1 := by
  rw [memError_filet_uncorr]
  refine ⟨by simp, ?_, ?_, ?_, ?_⟩
  · rw [counter_stick, counter_wr, counter_wr, counter_bump_same]
    rfl
  · rw [rd_stick, rd_wr_page _ (by decide), rd_wr_page _ (by decide), rd_wr_same]
    rfl
  · rw [rd_stick, rd_wr_page _ (by decide), rd_wr_same, Fld.FIL_ERR_LOC_LOC, trunc_of_lt hl]
  · rw [rd_stick, rd_wr_same]
    rfl

/-- A SEARCH leaves the report of an error as it stands. -/
theorem errReport_not_mem_searchKeys (p : Nat) {f : Field}
    (hf : f ∈ [Fld.FIL_ERR_LOC_VALID, Fld.FIL_ERR_LOC_LOC, Fld.FIL_STICKY_ECC_UNCORR]) :
    fieldKey (.fil p) f ∉ searchKeys p := by
  intro h
  obtain ⟨g, hg, hk⟩ := List.mem_map.mp h
  have apart : ∀ f ∈ [Fld.FIL_ERR_LOC_VALID, Fld.FIL_ERR_LOC_LOC, Fld.FIL_STICKY_ECC_UNCORR],
      ∀ g ∈ [Fld.FIL_CMD_STAT_BUSY, Fld.FIL_CMD_STAT_RESULT, Fld.FIL_CMD_STAT_LOC, Fld.FIL_STICKY_CMD_REFUSED] ++
        (List.range 4).map Fld.FIL_CMD_OUT_WORDn, g.off * 32 + g.lo ≠ f.off * 32 + f.lo := by decide
  exact fieldKey_ne (apart f hf g hg) hk

/-- Settles O9: SEARCH and NEXT by their outcomes on the state in which the memory errors are handled, the entry in
error by what the error does and what SEARCH leaves alone. -/
theorem filetSearches : Obligations.FiletSearches := by
  refine ⟨fun s p errs hbusy hs => ?_, fun s p errs hbusy => ?_, fun s p l _ hl => ?_⟩
  · have h := searchOutcome_filSearch ((errKeeps_filErrs p errs s).rising hs) p
    rw [← filStart_search errs hbusy] at h
    exact completes_filSearch ⟨h.busy, h.of_reserved, h.of_key, filStart_search errs hbusy ▸ onlyRegsIrq_filSearch _ p⟩
  · have h := nextOutcome_filNext (filErrs s p errs) p
    rw [← filStart_next errs hbusy] at h
    exact completes_filNext ⟨h.busy, h.of_reserved, h.of_walk, h.frame⟩
  · obtain ⟨hfil, hcount, hvalid, hloc, hsticky⟩ := memError_filet_uncorr_effect s (p := p) (hl.trans (by decide))
    obtain ⟨hframe, hregs⟩ := onlyRegsIrq_filStart_search (memError (4 * p) s (.filet l true)) p
    have hent (k : Nat) : filEnt (filStart (memError (4 * p) s (.filet l true)) p 1) p k =
        filEnt (clearFil s p l) p k := by
      rw [filEnt, filEnt, fil_of_frame hframe, hfil]
    have hreg {f : Field} (hf : f ∈ [Fld.FIL_ERR_LOC_VALID, Fld.FIL_ERR_LOC_LOC, Fld.FIL_STICKY_ECC_UNCORR]) :=
      rd_of_regsKept hregs (errReport_not_mem_searchKeys p hf)
    refine completes_filSearch ?_
    rw [filErrs_singleton]
    exact ⟨(hent l).trans (filEnt_putFil_same ..),
      fun k _ hk => (hent k).trans (filEnt_putFil_other s _ hk), (counter_of_frame hframe _ 22).trans hcount,
      (hreg (by simp)).trans hvalid, (hreg (by simp)).trans hloc, (hreg (by simp)).trans hsticky⟩

end Sys2Proof.Machine
end

section
/-! What leaves the Mordant alone: for each operation that the commands are made of, that it changes neither a fuse nor
a request of the Mordant (R558 to R571). -/

namespace Sys2Proof.Machine

/-! ### What the lemmas below are made of -/

@[simp] theorem mor_ite (c : Prop) [Decidable c] (a b : State) :
    (if c then a else b).mor = if c then a.mor else b.mor := apply_ite State.mor c a b

@[simp] theorem fst_mor_ite {α : Type} (c : Prop) [Decidable c] (a b : State × α) :
    (if c then a else b).1.mor = if c then a.1.mor else b.1.mor := apply_ite (fun x : State × α => x.1.mor) c a b

@[simp] theorem snd_mor_ite {α : Type} (c : Prop) [Decidable c] (a b : α × State) :
    (if c then a else b).2.mor = if c then a.2.mor else b.2.mor := apply_ite (fun x : α × State => x.2.mor) c a b

@[simp] theorem foldl_mor {α : Type} {f : State → α → State} (h : ∀ s x, (f s x).mor = s.mor) (l : List α) (s : State) :
    (l.foldl f s).mor = s.mor :=
  l.foldlRecOn f (motive := fun t => t.mor = s.mor) rfl fun t ht x _ => (h t x).trans ht

@[simp] theorem foldl_fst_mor {α β : Type} {f : State × β → α → State × β} (h : ∀ s x, (f s x).1.mor = s.1.mor)
    (l : List α) (s : State × β) : (l.foldl f s).1.mor = s.1.mor :=
  l.foldlRecOn f (motive := fun t => t.1.mor = s.1.mor) rfl fun t ht x _ => (h t x).trans ht

theorem foldl_snd_mor {α β : Type} {f : β × State → α → β × State} (h : ∀ s x, (f s x).2.mor = s.2.mor)
    (l : List α) (s : β × State) : (l.foldl f s).2.mor = s.2.mor :=
  l.foldlRecOn f (motive := fun t => t.2.mor = s.2.mor) rfl fun t ht x _ => (h t x).trans ht

theorem mor_of_eq {α : Type} {x : State × α} {t : State} {a : α} (h : x = (t, a)) : t.mor = x.1.mor := by rw [h]

theorem setAld_mor (s : State) (a : AldSt) : ({ s with ald := a } : State).mor = s.mor := rfl

theorem setLeap_mor (s : State) (t : Option Nat) (x : SmpSt) :
    ({ s with leapLast := t, smp := x } : State).mor = s.mor := rfl

@[simp] theorem after_next (u s : State) : after (.next u) s = u := rfl

@[simp] theorem after_ite (c : Prop) [Decidable c] (a b : Host.Outcome State Fault Refusal) (s : State) :
    after (if c then a else b) s = if c then after a s else after b s := apply_ite (after · s) c a b

/-! ### Registers, counters, sticky bits and fences -/

@[simp] theorem countSat_mor (s : State) (p : Page) (f : Field) : (countSat s p f).mor = s.mor := by simp [countSat]

@[simp] theorem countWrap_mor (s : State) (p : Page) (f : Field) : (countWrap s p f).mor = s.mor := by
  simp [countWrap]

@[simp] theorem sendMsix_mor (s : State) (f v : Nat) : (sendMsix s f v).mor = s.mor := by simp [sendMsix]
@[simp] theorem irqUpdate_mor (s : State) (f : Nat) : (irqUpdate s f).mor = s.mor := by simp [irqUpdate]
@[simp] theorem irqPage_mor (s : State) (p : Page) : (irqPage s p).mor = s.mor := by simp [irqPage]
@[simp] theorem stick_mor (s : State) (p : Page) (f : Field) : (stick s p f).mor = s.mor := by simp [stick]

@[simp] theorem stickIf_mor (c : Bool) (s : State) (p : Page) (f : Field) : (stickIf c s p f).mor = s.mor := by
  simp [stickIf]

@[simp] theorem resetPage_mor (s : State) (p : Page) : (resetPage s p).mor = s.mor := by simp [resetPage]
@[simp] theorem draw_mor (s : State) (site w : Nat) : (draw s site w).2.mor = s.mor := by simp [draw]

@[simp] theorem logFence_mor (s : State) (p : Page) (fin : Bool) (cause detail : Nat) :
    (logFence s p fin cause detail).mor = s.mor := by
  simp [logFence]

@[simp] theorem fenceUnit_mor (s : State) (p : Page) (cause detail : Nat) :
    (fenceUnit s p cause detail).mor = s.mor := by
  simp [fenceUnit]

@[simp] theorem unfence_mor (s : State) (p : Page) : (unfence s p).mor = s.mor := by simp [unfence]
@[simp] theorem fatalReport_mor (s : State) (p : Page) : (fatalReport s p).mor = s.mor := by simp [fatalReport]

@[simp] theorem putXing_mor (s : State) (p : Page) (xs : List Xing) : (putXing s p xs).mor = s.mor := by
  simp [putXing]

@[simp] theorem queueEvent_mor (s : State) (p : Page) (f : Field) : (queueEvent s p f).mor = s.mor := by
  simp [queueEvent]

@[simp] theorem eventNow_mor (s : State) (p : Page) (f : Field) {act : State → State} (h : ∀ s, (act s).mor = s.mor) :
    (eventNow s p f act).mor = s.mor := by
  simp [eventNow, h]

@[simp] theorem advance_mor (s : State) (t : Nat) : (advance s t).mor = s.mor := by simp [advance]

/-! ### The parser -/

@[simp] theorem putCredit8_mor (s : State) (h c : Nat) : (putCredit8 s h c).mor = s.mor := by simp [putCredit8]
@[simp] theorem scanSettle_mor (s : State) (h : Nat) : (scanSettle s h).mor = s.mor := by simp [scanSettle]
@[simp] theorem scanApplied_mor (old s : State) (h : Nat) : (scanApplied old s h).mor = s.mor := by simp [scanApplied]

@[simp] theorem inspect_mor (s : State) (h : Nat) (front : Option Nat) (b : List Nat) (p : Parsed) :
    (inspect s h front b p).1.mor = s.mor := by
  unfold inspect
  split <;> simp

@[simp] theorem countIf_mor (c : Bool) (s : State) (p : Page) (i : Nat) : (countIf c s p i).mor = s.mor := by
  simp [countIf]

@[simp] theorem parseIn_mor (s : State) (h : Nat) (front : Option Nat) (prpOn : Bool) (b : List Nat) :
    (parseIn s h front prpOn b).1.mor = s.mor := by
  simp [parseIn]

/-! ### The classifier -/

@[simp] theorem putClsBlk_mor (s : State) (p k : Nat) (b : MapBlk) : (putClsBlk s p k b).mor = s.mor := by
  simp [putClsBlk]

@[simp] theorem clsRefuse_mor (s : State) (p : Nat) : (clsRefuse s p).mor = s.mor := by simp [clsRefuse]

@[simp] theorem clsBlockWrite_mor (s : State) (p space k : Nat) (w : List Nat) :
    (clsBlockWrite s p space k w).1.mor = s.mor := by
  simp only [clsBlockWrite]
  split
  · simp
  · split
    · simp
    · rw [putClsBlk_mor, foldl_mor fun _ _ => putWord_mor ..]

@[simp] theorem clsMapWrite_mor (s : State) (p k w : Nat) : (clsMapWrite s p k w).1.mor = s.mor := by
  unfold clsMapWrite
  split <;> simp [clsKeep, clsUnstage, clsRetire]

@[simp] theorem treeFault_mor (p : Nat) (s : State) (t reason loc : Nat) :
    (treeFault p s t reason loc).mor = s.mor := by
  simp only [treeFault]
  split
  · rw [stick_mor, bump_mor, stick_mor, wr_mor, wr_mor, wr_mor, bump_mor]
  · rw [stick_mor, wr_mor, wr_mor, wr_mor, bump_mor]

@[simp] theorem clsCounts_mor (s : State) (p len : Nat) (r : ClsResult) : (clsCounts s p len r).mor = s.mor := by
  unfold clsCounts
  split <;> simp

@[simp] theorem classify_mor (s : State) (p port len : Nat) (pr : Parsed) :
    (classify s p port len pr).1.mor = s.mor := by
  unfold classify
  dsimp only
  rw [clsCounts_mor, foldl_mor]
  intro s t
  split <;> simp

@[simp] theorem clsMapAll_mor (s : State) (p : Nat) (f : MapBlk → MapBlk) : (clsMapAll s p f).mor = s.mor := rfl
@[simp] theorem clsApplied_mor (s : State) (p : Nat) : (clsApplied s p).mor = s.mor := by simp [clsApplied]
@[simp] theorem clsFree_mor (s : State) (p : Nat) : (clsFree s p).mor = s.mor := by simp [clsFree]

/-! ### The Filet -/

@[simp] theorem putFil_mor (s : State) (p loc : Nat) (e : FilEnt) : (putFil s p loc e).mor = s.mor := by simp [putFil]

@[simp] theorem placeFil_mor (s : State) (p loc : Nat) (e : FilEnt) : (placeFil s p loc e).mor = s.mor := by
  simp [placeFil, ovfCheck]

@[simp] theorem clearFil_mor (s : State) (p loc : Nat) : (clearFil s p loc).mor = s.mor := by simp [clearFil]

@[simp] theorem destProbe_mor (s : State) (p port : Nat) (pr : Parsed) : (destProbe s p port pr).1.mor = s.mor := by
  unfold destProbe
  dsimp only
  repeat' split
  all_goals simp [destHit]

@[simp] theorem destResult_mor (s : State) (p port : Nat) (pr : Parsed) (fwd : Bool) (hit : Option Nat) :
    (destResult s p port pr fwd hit).1.mor = s.mor := by
  unfold destResult
  split <;> simp

@[simp] theorem raiseLearn_mor (s : State) (h key port arrival : Nat) :
    (raiseLearn s h key port arrival).mor = s.mor := by
  simp [raiseLearn]

@[simp] theorem sourceLearn_mor (s : State) (p h port arrival key : Nat) :
    (sourceLearn s p h port arrival key).mor = s.mor := by
  unfold sourceLearn
  split <;> simp

@[simp] theorem sourceProbe_mor (s : State) (p h port arrival : Nat) (pr : Parsed) (front learns : Bool)
    (disp : Nat) :
    (sourceProbe s p h port arrival pr front learns disp).mor = s.mor := by
  simp only [sourceProbe]
  split <;> simp

@[simp] theorem filLookup_mor (s : State) (h port arrival : Nat) (pr : Parsed) (front learns : Bool) (disp : Nat) :
    (filLookup s h port arrival pr front learns disp).1.mor = s.mor := by
  simp [filLookup]

@[simp] theorem learnOut_mor (s : State) (e : LearnEv) : (learnOut s e).mor = s.mor := by simp [learnOut]

@[simp] theorem execLearnEventArrival_mor (i t : Nat) (s : State) :
    (after (execLearnEventArrival i t s) s).mor = s.mor := by
  unfold execLearnEventArrival
  split
  · rfl
  · extract_lets s₁
    have h₁ : s₁.mor = s.mor := advance_mor _ t
    split_ifs
    · rw [after_next, stick_mor, bump_mor, learnOut_mor, h₁]
    · rw [after_next, stick_mor, bump_mor, h₁]
    · exact h₁

@[simp] theorem execLearnRelease_mor (t : Nat) (s : State) : (after (execLearnRelease t s) s).mor = s.mor := by
  simp only [execLearnRelease]
  split <;> simp

@[simp] theorem memError_mor (h : Nat) (s : State) (e : MemErr) : (memError h s e).mor = s.mor := by
  simp only [memError]
  split
  · split
    · rw [stick_mor, bump_mor]
    · rw [bump_mor]
  · split
    · rw [stick_mor, bump_mor]
    · rw [bump_mor]
  · split
    · rfl
    · rw [bump_mor]
  · rw [stick_mor]
  · split
    · rw [stick_mor, wr_mor, wr_mor, bump_mor]
      rfl
    · rw [bump_mor]
  · rfl

@[simp] theorem filErrs_mor (s : State) (p : Nat) (errs : List MemErr) : (filErrs s p errs).mor = s.mor := by
  simp [filErrs]

@[simp] theorem learnMove_mor (s : State) (p loc : Nat) (ev : LearnEv) : (learnMove s p loc ev).mor = s.mor := by
  simp [learnMove]

@[simp] theorem learnNew_mor (s : State) (p : Nat) (ev : LearnEv) : (learnNew s p ev).mor = s.mor := by
  unfold learnNew
  dsimp only
  repeat' split
  all_goals simp

@[simp] theorem learnApply_mor (s : State) (p : Nat) (ev : LearnEv) : (learnApply s p ev).mor = s.mor := by
  unfold learnApply
  dsimp only
  repeat' split
  all_goals simp

@[simp] theorem execLearnApply_mor (p : Nat) (errs : List MemErr) (s : State) :
    (after (execLearnApply p errs s) s).mor = s.mor := by
  simp only [execLearnApply]
  split <;> simp

@[simp] theorem filSweep_mor (s : State) (p n : Nat) : (filSweep s p n).mor = s.mor := by simp [filSweep, sweepVisit]
@[simp] theorem filEnd_mor (s : State) (p result : Nat) : (filEnd s p result).mor = s.mor := by simp [filEnd]
@[simp] theorem filRefuse_mor (s : State) (p : Nat) : (filRefuse s p).mor = s.mor := by simp [filRefuse]
@[simp] theorem filLoc_mor (s : State) (p loc : Nat) : (filLoc s p loc).mor = s.mor := by simp [filLoc]

@[simp] theorem filOut_mor (s : State) (p loc : Nat) : (filOut s p loc).mor = s.mor := by
  rw [filOut, filLoc_mor, foldl_mor fun _ _ => wr_mor ..]

@[simp] theorem filPos_mor (s : State) (p pos : Nat) : (filPos s p pos).mor = s.mor := by simp [filPos]

@[simp] theorem filSearch_mor (s : State) (p : Nat) : (filSearch s p).mor = s.mor := by
  unfold filSearch
  dsimp only
  repeat' split
  all_goals simp

@[simp] theorem filNext_mor (s : State) (p : Nat) : (filNext s p).mor = s.mor := by
  unfold filNext
  dsimp only
  repeat' split
  all_goals simp

@[simp] theorem userSlot_mor (s : State) (p key : Nat) : (userSlot s p key).1.mor = s.mor := by
  unfold userSlot
  dsimp only
  repeat' split
  all_goals simp

@[simp] theorem filInsert_mor (s : State) (p : Nat) : (filInsert s p).mor = s.mor := by
  simp only [filInsert]
  split
  · exact filRefuse_mor s p
  · split
    · rw [filEnd_mor, filLoc_mor, putFil_mor]
    · split
      · rw [filEnd_mor]
      · have h := userSlot_mor s p (filKey s p)
        split
        · next heq =>
          rw [heq] at h
          rw [filEnd_mor, h]
        · next heq =>
          rw [heq] at h
          rw [filEnd_mor, filLoc_mor, placeFil_mor]
          split
          · rw [putFil_mor, h]
          · exact h

@[simp] theorem filDelete_mor (s : State) (p : Nat) : (filDelete s p).mor = s.mor := by
  simp only [filDelete]
  split
  · exact filRefuse_mor s p
  · split
    · rw [filEnd_mor, filLoc_mor, clearFil_mor]
    · split
      · split
        · rw [filEnd_mor]
        · rw [filEnd_mor, filLoc_mor, putFil_mor]
      · rw [filEnd_mor]

@[simp] theorem filFlushLoop_mor (p : Nat) (es : List (Nat × FilEnt)) (s : State) :
    (filFlushLoop p es s).mor = s.mor := by
  induction es generalizing s with
  | nil => simp [filFlushLoop]
  | cons e es ih => simp [filFlushLoop, ih]

@[simp] theorem filFlush_mor (s : State) (p : Nat) : (filFlush s p).mor = s.mor := by simp [filFlush]
@[simp] theorem filDiscard_mor (s : State) (p : Nat) : (filDiscard s p).mor = s.mor := by simp [filDiscard]

@[simp] theorem filRun_mor (s : State) (p op : Nat) : (filRun s p op).mor = s.mor := by
  unfold filRun
  split
  · rw [filSearch_mor]
  · rw [filNext_mor]
  · rw [filInsert_mor]
  · rw [filDelete_mor]
  · rw [filFlush_mor]
  · rw [filDiscard_mor]
  · rw [filRefuse_mor]

@[simp] theorem filStart_mor (s : State) (p op : Nat) : (filStart s p op).mor = s.mor := by simp [filStart]
@[simp] theorem filApplied_mor (s : State) (p : Nat) : (filApplied s p).mor = s.mor := by simp [filApplied]

/-! ### Lanes -/

@[simp] theorem putLane_mor (s : State) (l : Nat) (x : LaneHw) : (putLane s l x).mor = s.mor := by simp [putLane]

@[simp] theorem measureLatency_mor (s : State) (l : Nat) : (measureLatency s l).mor = s.mor := by
  simp [measureLatency]

@[simp] theorem clearLatency_mor (s : State) (l : Nat) : (clearLatency s l).mor = s.mor := by simp [clearLatency]
@[simp] theorem showMap_mor (s : State) (l : Nat) : (showMap s l).mor = s.mor := by simp [showMap]
@[simp] theorem chkUnsync_mor (s : State) (l : Nat) : (chkUnsync s l).mor = s.mor := by simp [chkUnsync]
@[simp] theorem eqFree_mor (s : State) (l : Nat) : (eqFree s l).mor = s.mor := by simp [eqFree]
@[simp] theorem reacquire_mor (s : State) (l : Nat) : (reacquire s l).mor = s.mor := by simp [reacquire]

@[simp] theorem laneRestart_mor (s : State) (l : Nat) : (laneRestart s l).mor = s.mor := by
  rw [laneRestart, putLane_mor, wr_mor, wr_mor, showMap_mor, reacquire_mor]

@[simp] theorem loseLock_mor (s : State) (l : Nat) : (loseLock s l).mor = s.mor := by simp [loseLock]
@[simp] theorem laneOff_mor (s : State) (l : Nat) : (laneOff s l).mor = s.mor := by simp [laneOff]
@[simp] theorem laneDown_mor (s : State) (l : Nat) : (laneDown s l).mor = s.mor := by simp [laneDown]

@[simp] theorem execCdrLockLost_mor (l : Nat) (s : State) : (after (execCdrLockLost l s) s).mor = s.mor := by
  unfold execCdrLockLost
  split
  · rw [after_next, loseLock_mor]
  · rfl

@[simp] theorem execTrainFail_mor (l : Nat) (s : State) : (after (execTrainFail l s) s).mor = s.mor := by
  unfold execTrainFail
  dsimp only
  split
  · rfl
  · rw [after_next, stick_mor, wr_mor]

@[simp] theorem execTrainRestart_mor (l : Nat) (s : State) : (after (execTrainRestart l s) s).mor = s.mor := by
  unfold execTrainRestart
  dsimp only
  split
  · rfl
  · rw [after_next, wr_mor, wr_mor]

@[simp] theorem execTxTapStep_mor (l : Nat) (s : State) : (after (execTxTapStep l s) s).mor = s.mor := by
  unfold execTxTapStep
  split
  · rfl
  · extract_lets w g w' s₁
    rw [after_next]
    split
    · rw [putLane_mor, wr_mor]
    · rw [wr_mor]

@[simp] theorem laneTake_mor (s : State) (l : Nat) (xs : List Nat) : (laneTake s l xs).mor = s.mor := by
  simp [laneTake, countViols, chkBit]

@[simp] theorem laneHears_mor (s : State) (l : Nat) (xs : List Nat) : (laneHears s l xs).mor = s.mor := by
  simp [laneHears]

@[simp] theorem execStuffInsert_mor (l : Nat) (bs : List Nat) (repaid : Nat) (s : State) :
    (after (execStuffInsert l bs repaid s) s).mor = s.mor := by
  simp [execStuffInsert, laneReturns, laneSend, putLine]

@[simp] theorem quietExit_mor (s : State) (l : Nat) : (quietExit s l).mor = s.mor := by simp [quietExit]
@[simp] theorem chkClear_mor (s : State) (l : Nat) : (chkClear s l).mor = s.mor := by simp [chkClear]
@[simp] theorem evtClear_mor (s : State) (l : Nat) : (evtClear s l).mor = s.mor := by simp [evtClear]
@[simp] theorem inject_mor (s : State) (l : Nat) : (inject s l).mor = s.mor := by simp [inject]

@[simp] theorem eqDraw_mor (s : State) : (eqDraw s).2.mor = s.mor := by
  rw [eqDraw, foldl_snd_mor]
  intro r i
  exact draw_mor r.2 17 (if i = 0 then 4 else 16)

@[simp] theorem eqWords_mor (s : State) (l : Nat) : (eqWords s l).2.mor = s.mor := by
  unfold eqWords
  split <;> simp

@[simp] theorem laneApplied_mor (old s : State) (l : Nat) : (laneApplied old s l).mor = s.mor := by
  simp [laneApplied, adaptApplied]

/-! ### Ports -/

@[simp] theorem putFrm_mor (s : State) (f : Nat) (x : Frm) : (putFrm s f x).mor = s.mor := by simp [putFrm]

@[simp] theorem countChosen_mor (s : State) (p c len : Nat) : (countChosen s p c len).mor = s.mor := by
  simp [countChosen]

@[simp] theorem putQueue_mor (s : State) (q : Nat) (es : List QEnt) : (putQueue s q es).mor = s.mor := by
  simp [putQueue]

@[simp] theorem putTx_mor (s : State) (p : Nat) (x : Option TxSt) : (putTx s p x).mor = s.mor := by simp [putTx]
@[simp] theorem putTm_mor (s : State) (p : Nat) (x : TmSt) : (putTm s p x).mor = s.mor := by simp [putTm]
@[simp] theorem putPause_mor (s : State) (p : Nat) (x : PauseSt) : (putPause s p x).mor = s.mor := by simp [putPause]
@[simp] theorem settle_mor (s : State) (p : Nat) : (settle s p).mor = s.mor := by simp [settle]

@[simp] theorem untag_mor (s : State) (p c : Nat) : (untag s p c).mor = s.mor := by
  simp only [untag]
  split <;> simp

/-! ### The shared buffer -/

@[simp] theorem putCell_mor (s : State) (c : Nat) (x : Cell) : (putCell s c x).mor = s.mor := by simp [putCell]
@[simp] theorem putAcct_mor (s : State) (a : Nat) (x : Acct) : (putAcct s a x).mor = s.mor := by simp [putAcct]
@[simp] theorem holdEval_mor (s : State) (a : Nat) : (holdEval s a).mor = s.mor := by simp [holdEval]
@[simp] theorem holdSet_mor (s : State) (a : Nat) : (holdSet s a).mor = s.mor := by simp [holdSet]
@[simp] theorem chargeCell_mor (s : State) (a : Nat) : (chargeCell s a).1.mor = s.mor := by simp [chargeCell, noteMax]

@[simp] theorem takeCell_mor (s : State) (a : Nat) (prev : Option Nat) : (takeCell s a prev).1.mor = s.mor := by
  unfold takeCell
  split
  · rfl
  · split <;> next heq => simp [mor_of_eq heq]

@[simp] theorem takeCells_mor (a n : Nat) (s : State) (cs : List Nat) : (takeCells a n s cs).1.mor = s.mor := by
  induction n generalizing s cs with
  | zero => rfl
  | succ n ih =>
    have h := takeCell_mor s a cs.getLast?
    unfold takeCells
    split <;> simp_all

@[simp] theorem releaseCell_mor (s : State) (c : Nat) : (releaseCell s c).mor = s.mor := by
  simp [releaseCell, creditCell]

@[simp] theorem freeCell_mor (s : State) (c : Nat) : (freeCell s c).mor = s.mor := by simp [freeCell]
@[simp] theorem exempt_mor (s : State) (f : Nat) : (exempt s f).mor = s.mor := by simp [exempt]

@[simp] theorem freeFrm_mor (s : State) (f : Nat) : (freeFrm s f).mor = s.mor := by
  have h : (((frm s f).cells ++ (frm s f).headCell.toList).foldl freeCell s).mor = s.mor := foldl_mor freeCell_mor _ _
  unfold freeFrm
  dsimp only
  rw [putFrm_mor, exempt_mor]
  split <;> exact h

@[simp] theorem dropRef_mor (s : State) (f : Nat) : (dropRef s f).mor = s.mor := by simp [dropRef]
@[simp] theorem addRef_mor (s : State) (f : Nat) : (addRef s f).mor = s.mor := by simp [addRef]
@[simp] theorem nextSerial_mor (s : State) : (nextSerial s).mor = s.mor := by simp [nextSerial]
@[simp] theorem qeCheck_mor (s : State) : (qeCheck s).mor = s.mor := by simp [qeCheck]
@[simp] theorem unqueue_mor (s : State) (q f : Nat) : (unqueue s q f).mor = s.mor := by simp [unqueue]

@[simp] theorem flushCount_mor (s : State) (p : Nat) (count : Bool) : (flushCount s p count).mor = s.mor := by
  simp [flushCount, countFlush]

@[simp] theorem budget_mor (s : State) (p f n : Nat) : (budget s p f n).1.mor = s.mor := by simp [budget]

@[simp] theorem enqPort_mor (s : State) (p c f : Nat) : (enqPort s p c f).mor = s.mor := by
  simp only [enqPort]
  split
  · rw [bump_mor, settle_mor]
  · split
    · rw [flushCount_mor, settle_mor]
    · split
      · rw [qeCheck_mor, addRef_mor, putQueue_mor, settle_mor]
      · split
        · next heq => rw [mor_of_eq heq, budget_mor, settle_mor]
        · next heq => rw [qeCheck_mor, addRef_mor, putQueue_mor, mor_of_eq heq, budget_mor, settle_mor]

@[simp] theorem flushPort_mor (s : State) (p : Nat) (count : Bool) : (flushPort s p count).mor = s.mor := by
  simp [flushPort]

@[simp] theorem markBad_mor (s : State) (f : Nat) : (markBad s f).mor = s.mor := by simp [markBad]

@[simp] theorem openFrame_mor (s : State) (src c : Nat) (x : Frm) : (openFrame s src c x).1.mor = s.mor := by
  simp only [openFrame]
  split
  · rfl
  · split
    · rw [holdSet_mor]
    · next heq =>
      rw [exempt_mor, bump_mor, nextSerial_mor, putFrm_mor, mor_of_eq heq, takeCells_mor]

@[simp] theorem handOver_mor (s : State) (f : Nat) : (handOver s f).mor = s.mor := by simp [handOver]

@[simp] theorem redivideAcct_mor (a n : Nat) (s : State) : (redivideAcct a n s).mor = s.mor := by
  induction n generalizing s with
  | zero => rfl
  | succ n ih => simp [redivideAcct, ih]

@[simp] theorem rsxApplied_mor (s : State) : (rsxApplied s).mor = s.mor := by simp [rsxApplied]

@[simp] theorem auditLog_mor (s : State) (kind index : Nat) : (auditLog s kind index).mor = s.mor := by
  simp [auditLog]

@[simp] theorem walkCell_mor (f : Nat) (a : State × Walk) (c : Nat) : (walkCell f a c).1.mor = a.1.mor := by
  simp only [walkCell]
  split <;> simp

@[simp] theorem execAuditPassEnd_mor (s : State) : (after (execAuditPassEnd s) s).mor = s.mor := by
  unfold execAuditPassEnd
  split
  · rfl
  · have hwalk := foldl_fst_mor
      (fun a f => foldl_fst_mor (walkCell_mor f) ((frm s f).cells ++ (frm s f).headCell.toList) a)
      (usedFrms s) (s, ({} : Walk))
    simp [walkRefs, walkOrphan, hwalk, -List.foldl_append]

@[simp] theorem rsxErrLoc_mor (s : State) (space loc : Nat) : (rsxErrLoc s space loc).mor = s.mor := by
  simp [rsxErrLoc]

@[simp] theorem rsxError_mor (s : State) (e : MemErr) : (rsxError s e).mor = s.mor := by
  unfold rsxError
  dsimp only
  repeat' split
  all_goals simp [descUncorr]

/-! ### DRAM -/

@[simp] theorem dramPut_mor (s : State) (a : Nat) (bs : List Nat) : (dramPut s a bs).mor = s.mor := by
  induction bs generalizing s a with
  | nil => rfl
  | cons b bs ih => simp [dramPut, ih]

@[simp] theorem dramChunk_mor (s : State) (a : Nat) (bs : List Nat) : (dramChunk s a bs).mor = s.mor := by
  simp [dramChunk]

@[simp] theorem dramWriteLoop_mor (n : Nat) (s : State) (a : Nat) (bs : List Nat) :
    (dramWriteLoop n s a bs).mor = s.mor := by
  induction n generalizing s a bs with
  | zero => rfl
  | succ n ih => simp [dramWriteLoop, ih]

@[simp] theorem dramWrite_mor (s : State) (a : Nat) (bs : List Nat) : (dramWrite s a bs).mor = s.mor := by
  simp [dramWrite]

@[simp] theorem ddrFence_mor (s : State) (c detail : Nat) : (ddrFence s c detail).mor = s.mor := by simp [ddrFence]
@[simp] theorem ddrUncorr_mor (s : State) (a : Nat) : (ddrUncorr s a).mor = s.mor := by simp [ddrUncorr]

/-! ### Performance counters -/

@[simp] theorem putPerf_mor (s : State) (b n v : Nat) : (putPerf s b n v).mor = s.mor := by simp [putPerf]
@[simp] theorem perfWrap_mor (s : State) (b n : Nat) : (perfWrap s b n).mor = s.mor := by simp [perfWrap]
@[simp] theorem perfAdd_mor (s : State) (b n k : Nat) : (perfAdd s b n k).mor = s.mor := by simp [perfAdd]

@[simp] theorem perfCount_mor (s : State) (b e : Nat) (t : Option Nat) (on : State → Nat → Bool) :
    (perfCount s b e t on).mor = s.mor := by
  simp [perfCount]

@[simp] theorem perfPulse_mor (s : State) (b e : Nat) (t : Option Nat) : (perfPulse s b e t).mor = s.mor := by
  simp [perfPulse]

@[simp] theorem perfRise_mor (s : State) (b e : Nat) (t : Option Nat) (was is : Bool) :
    (perfRise s b e t was is).mor = s.mor := by
  simp [perfRise]

@[simp] theorem perfClear_mor (s : State) (b : Nat) : (perfClear s b).mor = s.mor := by simp [perfClear]

/-! ### The Skein -/

@[simp] theorem putCtx_mor (s : State) (h i : Nat) (c : Ctx) : (putCtx s h i c).mor = s.mor := by simp [putCtx]
@[simp] theorem ctxTouch_mor (s : State) (h i : Nat) : (ctxTouch s h i).mor = s.mor := by simp [ctxTouch]

@[simp] theorem raiseEvent_mor (s : State) (h : Nat) (e : SkEvent) : (raiseEvent s h e).mor = s.mor := by
  simp [raiseEvent]

@[simp] theorem ctxEvict_mor (s : State) (h i reason : Nat) : (ctxEvict s h i reason).mor = s.mor := by
  unfold ctxEvict
  extract_lets c s₁ s₂
  have h : s₂.mor = s.mor := (putCtx_mor ..).trans (raiseEvent_mor ..)
  split <;> simp only [stick_mor, bump_mor, h]

@[simp] theorem allocate_mor (s : State) (h pf d : Nat) : (allocate s h pf d).1.mor = s.mor := by
  unfold allocate
  dsimp only
  repeat' split
  all_goals simp

@[simp] theorem missEvent_mor (s : State) (h i : Nat) (key : List Nat) : (missEvent s h i key).mor = s.mor := by
  simp [missEvent]

@[simp] theorem skeinHit_mor (s : State) (h i pf len arr : Nat) (pr : Parsed) (disp : Nat) (fd : FilDest) :
    (skeinHit s h i pf len arr pr disp fd).1.mor = s.mor := by
  simp [skeinHit, flowAction]

@[simp] theorem skeinLookup_mor (s : State) (h port pf len arr : Nat) (pr : Parsed) (disp : Nat) (fd : FilDest) :
    (skeinLookup s h port pf len arr pr disp fd).1.mor = s.mor := by
  simp only [skeinLookup]
  split
  · rfl
  · split
    · simp
    · split
      · next heq => simp [mor_of_eq heq]
      · next heq => simp [mor_of_eq heq]

@[simp] theorem sknSweep_mor (s : State) (h n : Nat) : (sknSweep s h n).mor = s.mor := by simp [sknSweep, sweepCtx]
@[simp] theorem sknEnd_mor (s : State) (h result : Nat) : (sknEnd s h result).mor = s.mor := by simp [sknEnd]

@[simp] theorem sknImage_mor (s : State) (h whr loc : Nat) (r : FlowRec) : (sknImage s h whr loc r).mor = s.mor := by
  rw [sknImage, wr_mor, wr_mor, foldl_mor fun _ _ => putWord_mor ..]

@[simp] theorem sknSearch_mor (s : State) (h : Nat) (err : Bool) : (sknSearch s h err).mor = s.mor := by
  unfold sknSearch
  dsimp only
  repeat' split
  all_goals simp

@[simp] theorem sknStage_mor (s : State) (h : Nat) (op : SkOp) : (sknStage s h op).mor = s.mor := by
  simp only [sknStage]
  split <;> simp

@[simp] theorem sknRun_mor (s : State) (h op : Nat) (err : Bool) : (sknRun s h op err).mor = s.mor := by
  unfold sknRun
  split <;> simp [sknRead]

@[simp] theorem sknDo_mor (s : State) (h op : Nat) (err : Bool) : (sknDo s h op err).mor = s.mor := by simp [sknDo]

@[simp] theorem skMerge_mor (s : State) (h : Nat) (c : SkChange) : (skMerge s h c).mor = s.mor := by
  unfold skMerge
  dsimp only
  repeat' split
  all_goals simp

@[simp] theorem execSknOverlayMerge_mor (h : Nat) (s : State) : (after (execSknOverlayMerge h s) s).mor = s.mor := by
  simp only [execSknOverlayMerge]
  split <;> simp

@[simp] theorem sknApplied_mor (s : State) (h : Nat) : (sknApplied s h).mor = s.mor := by simp [sknApplied]
@[simp] theorem sknLost_mor (s : State) (h : Nat) : (sknLost s h).mor = s.mor := by simp [sknLost]

/-! ### Bobbins -/

@[simp] theorem putThr_mor (s : State) (b t : Nat) (x : BobThr) : (putThr s b t x).mor = s.mor := by simp [putThr]
@[simp] theorem setG_mor (s : State) (b t r v : Nat) : (setG s b t r v).mor = s.mor := by simp [setG]
@[simp] theorem setWait_mor (s : State) (b t : Nat) (w : BobWait) : (setWait s b t w).mor = s.mor := by simp [setWait]

@[simp] theorem lmWrite_mor (s : State) (b a : Nat) (xs : List Nat) : (lmWrite s b a xs).mor = s.mor := by
  induction xs generalizing s a with
  | nil => rfl
  | cons x xs ih => simp [lmWrite, ih]

@[simp] theorem lmWords_mor (s : State) (b a : Nat) (ws : List Nat) : (lmWords s b a ws).mor = s.mor := by
  simp [lmWords]

@[simp] theorem putAcc_mor (s : State) (b : Nat) (xs : List BobAcc) : (putAcc s b xs).mor = s.mor := by simp [putAcc]
@[simp] theorem setDone_mor (s : State) (b k : Nat) (d : Bool) : (setDone s b k d).mor = s.mor := by simp [setDone]
@[simp] theorem putFq_mor (s : State) (b : Nat) (xs : List Nat) : (putFq s b xs).mor = s.mor := by simp [putFq]
@[simp] theorem fqAdd_mor (s : State) (b f : Nat) : (fqAdd s b f).mor = s.mor := by simp [fqAdd]

@[simp] theorem putFwait_mor (s : State) (b : Nat) (xs : List Nat) : (putFwait s b xs).mor = s.mor := by
  simp [putFwait]

@[simp] theorem execFrameQueueAdmit_mor (b : Nat) (s : State) : (after (execFrameQueueAdmit b s) s).mor = s.mor := by
  simp only [execFrameQueueAdmit]
  split <;> simp

@[simp] theorem bobDrop_mor (s : State) (f : Nat) : (bobDrop s f).mor = s.mor := by simp [bobDrop]

@[simp] theorem stopThread_mor (b : Nat) (s : State) (t : Nat) : (stopThread b s t).mor = s.mor := by
  simp only [stopThread]
  split <;> simp

@[simp] theorem bobStop_mor (s : State) (b : Nat) : (bobStop s b).mor = s.mor := by simp [bobStop]

@[simp] theorem bobFault_mor (s : State) (b t reason pc addr tok : Nat) :
    (bobFault s b t reason pc addr tok).mor = s.mor := by
  simp [bobFault]

@[simp] theorem bobClear_mor (s : State) (b : Nat) : (bobClear s b).mor = s.mor := by simp [bobClear]
@[simp] theorem orphanAcc_mor (s : State) (b : Nat) : (orphanAcc s b).mor = s.mor := by simp [orphanAcc]

@[simp] theorem startThread_mor (s : State) (b t n source : Nat) (w : BobWork) (hdr : List Nat) :
    (startThread s b t n source w hdr).mor = s.mor := by
  simp [startThread]

@[simp] theorem handlerInvalid_mor (s : State) (b : Nat) : (handlerInvalid s b).mor = s.mor := by
  simp [handlerInvalid]

@[simp] theorem dispatchEvent_mor (s : State) (b t i : Nat) : (dispatchEvent s b t i).mor = s.mor := by
  simp only [dispatchEvent]
  split <;> simp

@[simp] theorem dispatchFrame_mor (s : State) (b t f : Nat) : (dispatchFrame s b t f).mor = s.mor := by
  simp [dispatchFrame]

@[simp] theorem execWorkDispatch_mor (b t : Nat) (s : State) : (after (execWorkDispatch b t s) s).mor = s.mor := by
  unfold execWorkDispatch
  split
  · rfl
  · split <;> simp

@[simp] theorem endCheck_mor (s : State) (b t : Nat) : (endCheck s b t).mor = s.mor := by simp [endCheck, freeTokens]

@[simp] theorem endItem_mor (s : State) (b t : Nat) : (endItem s b t).mor = s.mor := by
  simp only [endItem]
  split <;> simp

@[simp] theorem endRun_mor (s : State) (b : Nat) : (endRun s b).mor = s.mor := by simp [endRun]
@[simp] theorem overrun_mor (s : State) (b : Nat) : (overrun s b).mor = s.mor := by simp [overrun]

@[simp] theorem workLimit_mor (s : State) (b : Nat) : (workLimit s b).mor = s.mor := by
  unfold workLimit
  dsimp only
  repeat' split
  all_goals simp

@[simp] theorem putSeg_mor (s : State) (h k : Nat) (x : MapBlk) : (putSeg s h k x).mor = s.mor := by simp [putSeg]
@[simp] theorem segRefuse_mor (s : State) (h : Nat) : (segRefuse s h).mor = s.mor := by simp [segRefuse]

@[simp] theorem segMapWrite_mor (s : State) (h k w : Nat) : (segMapWrite s h k w).1.mor = s.mor := by
  unfold segMapWrite
  split <;> simp [segRetire, segUnstage, segKeep]

@[simp] theorem segAll_mor (s : State) (h : Nat) (f : MapBlk → MapBlk) : (segAll s h f).mor = s.mor := rfl

@[simp] theorem bobhApplied_mor (old s : State) (h n : Nat) : (bobhApplied old s h n).mor = s.mor := by
  simp [bobhApplied]

@[simp] theorem bobReset_mor (s : State) (h : Nat) : (bobReset s h).mor = s.mor := by
  rw [bobReset, foldl_mor]
  intro s i
  rw [foldl_mor bobDrop_mor, foldl_mor]
  intro s t
  split <;> simp

@[simp] theorem bobSoft_mor (s : State) (b : Nat) : (bobSoft s b).mor = s.mor := by
  simp only [bobSoft]
  rw [wr_mor, orphanAcc_mor, bobClear_mor, putFwait_mor, putFq_mor, foldl_mor bobDrop_mor, foldl_mor]
  intro s t
  split <;> simp

/-! ### Egress -/

@[simp] theorem putLink_mor (s : State) (n : Nat) (x : LinkSt) : (putLink s n x).mor = s.mor := by simp [putLink]

@[simp] theorem linkSend_mor (s : State) (n type hops member ctype : Nat) (body : List Nat) (te : Bool) :
    (linkSend s n type hops member ctype body te).mor = s.mor := by
  simp [linkSend]

@[simp] theorem cellOut_mor (s : State) (n ctype : Nat) (body : List Nat) : (cellOut s n ctype body).mor = s.mor := by
  simp [cellOut]

@[simp] theorem cellSend_mor (s : State) (n ctype : Nat) (body : List Nat) :
    (cellSend s n ctype body).mor = s.mor := by
  simp [cellSend]

@[simp] theorem cellsOut_mor (s : State) (n : Nat) : (cellsOut s n).mor = s.mor := by simp [cellsOut, cellLate]

/-! ### The traffic manager -/

@[simp] theorem putPol_mor (s : State) (i : Nat) (x : PolSt) : (putPol s i x).mor = s.mor := by simp [putPol]
@[simp] theorem polCharge_mor (s : State) (i len : Nat) : (polCharge s i len).1.mor = s.mor := by simp [polCharge]
@[simp] theorem polApplied_mor (old s : State) : (polApplied old s).mor = s.mor := by simp [polApplied]
@[simp] theorem polFill_mor (s : State) : (polFill s).mor = s.mor := by simp [polFill]

@[simp] theorem polError_mor (s : State) (e : MemErr) : (polError s e).mor = s.mor := by
  unfold polError
  split <;> simp

@[simp] theorem tagClass_mor (p : Nat) (s : State) (c : Nat) : (tagClass p s c).mor = s.mor := by
  unfold tagClass
  dsimp only
  repeat' split
  all_goals simp

@[simp] theorem retag_mor (s : State) (p : Nat) : (retag s p).mor = s.mor := by simp [retag]

@[simp] theorem takeTag_mor (s : State) (p c : Nat) : (takeTag s p c).mor = s.mor := by
  simp only [takeTag]
  split <;> simp

@[simp] theorem opportunity_mor (s : State) (p : Nat) : (opportunity s p).mor = s.mor := by
  unfold opportunity
  dsimp only
  repeat' split
  all_goals simp [startFrame]

@[simp] theorem dropOversize_mor (p : Nat) (s : State) (c : Nat) : (dropOversize p s c).mor = s.mor := by
  unfold dropOversize
  dsimp only
  repeat' split
  all_goals simp

@[simp] theorem gateOverrun_mor (s : State) (p : Nat) : (gateOverrun s p).mor = s.mor := by
  unfold gateOverrun
  split <;> simp

@[simp] theorem gateChange_mor (s : State) (p : Nat) : (gateChange s p).mor = s.mor := by simp [gateChange, gateUntag]

@[simp] theorem execGateListStart_mor (p t : Nat) (s : State) : (after (execGateListStart p t s) s).mor = s.mor := by
  simp only [execGateListStart]
  repeat' split
  all_goals simp

@[simp] theorem tmgApplied_mor (old s : State) (p : Nat) : (tmgApplied old s p).mor = s.mor := by
  simp only [tmgApplied]
  split
  · rw [putTm_mor]
  · split
    · split
      · rw [putTm_mor, putTm_mor]
      · rw [putTm_mor]
    · split
      · rw [wr_mor, putTm_mor, stick_mor, bump_mor, putTm_mor]
      · rw [wr_mor, putTm_mor, putTm_mor]

/-! ### MAC ports -/

@[simp] theorem showHeld_mor (s : State) (n c : Nat) (h : Bool) : (showHeld s n c h).mor = s.mor := by simp [showHeld]
@[simp] theorem releaseClass_mor (s : State) (n c : Nat) : (releaseClass s n c).mor = s.mor := by simp [releaseClass]

@[simp] theorem loadClass_mor (s : State) (n c q fin : Nat) : (loadClass s n c q fin).mor = s.mor := by
  simp [loadClass]

@[simp] theorem pauseFrame_mor (s : State) (n q fin : Nat) : (pauseFrame s n q fin).mor = s.mor := by
  simp [pauseFrame]

@[simp] theorem pfcFrame_mor (s : State) (n vec : Nat) (times : List Nat) (fin : Nat) :
    (pfcFrame s n vec times fin).mor = s.mor := by
  simp [pfcFrame]

@[simp] theorem execPauseWdFire_mor (n c t : Nat) (s : State) : (after (execPauseWdFire n c t s) s).mor = s.mor := by
  simp only [execPauseWdFire]
  split
  · exact advance_mor s t
  · rw [after_next, stick_mor, bump_mor, wr_mor, putPause_mor, releaseClass_mor, advance_mor]

@[simp] theorem ctlTry_mor (s : State) (n : Nat) : (ctlTry s n).mor = s.mor := by simp [ctlTry, ctlSend]
@[simp] theorem sendHold_mor (s : State) (n rel : Nat) : (sendHold s n rel).mor = s.mor := by simp [sendHold]
@[simp] theorem putRx_mor (s : State) (n : Nat) (x : Option RxSt) : (putRx s n x).mor = s.mor := by simp [putRx]

@[simp] theorem storeRx_mor (s : State) (n len : Nat) (x : RxSt) : (storeRx s n len x).1.mor = s.mor := by
  unfold storeRx
  dsimp only
  repeat' split
  all_goals simp

@[simp] theorem dropRx_mor (s : State) (x : RxSt) : (dropRx s x).mor = s.mor := by
  unfold dropRx
  split <;> simp

@[simp] theorem keepRx_mor (s : State) (x : RxSt) : (keepRx s x).mor = s.mor := by
  unfold keepRx
  split <;> simp

@[simp] theorem rxEnd_mor (s : State) (n : Nat) (x : RxSt) (tail : RxTail) (fin : Nat) :
    (rxEnd s n x tail fin).mor = s.mor := by
  unfold rxEnd
  dsimp only
  repeat' split
  all_goals simp [countCast, macControl]

@[simp] theorem rxPiece_mor (s : State) (n t : Nat) (ald : Option (Nat × Nat)) (b : List Nat) (tail : RxTail)
    (overrun err : Bool) :
    (rxPiece s n t ald b tail overrun err).mor = s.mor := by
  unfold rxPiece
  dsimp only
  repeat' split
  all_goals simp

@[simp] theorem fecCount_mor (s : State) (n : Nat) (fec : List Nat) : (fecCount s n fec).mor = s.mor := by
  unfold fecCount
  split
  · exact foldl_mor (fun _ _ => bump_mor ..) _ _
  · rfl

@[simp] theorem execRxFrame_mor (n t : Nat) (b : List Nat) (tail : RxTail) (overrun : Bool) (fec : List Nat)
    (s : State) :
    (after (execRxFrame n t b tail overrun fec s) s).mor = s.mor := by
  unfold execRxFrame
  extract_lets s₁
  split
  · rw [after_next, advance_mor]
  · rw [after_next, rxPiece_mor, fecCount_mor, advance_mor]

@[simp] theorem linkDrop_mor (s : State) (n : Nat) (locks : Bool) : (linkDrop s n locks).mor = s.mor := by
  unfold linkDrop
  extract_lets p was s₁ s₂ s₃ s₄ s₅ s₆ s₇ s₈ x s₉ s₁₀ s₁₁
  have h₂ : s₂.mor = s.mor := by
    unfold s₂
    split
    · split
      · rw [rxEnd_mor, settle_mor]
      · rw [putRx_mor, settle_mor]
    · rw [settle_mor]
  have h₃ : s₃.mor = s.mor := by rw [wr_mor, h₂]
  have h₄ : s₄.mor = s.mor := by
    unfold s₄
    split
    · rw [stick_mor, h₃]
    · exact h₃
  have h₅ : s₅.mor = s.mor := by
    unfold s₅
    split
    · exact h₃
    · rw [wr_mor, wr_mor, h₄]
  have h₇ : s₇.mor = s.mor := by
    unfold s₇
    split
    · rw [wr_mor, h₅]
    · rw [wr_mor, wr_mor, h₅]
  have h₈ : s₈.mor = s.mor := by
    unfold s₈
    split
    · rw [dropRef_mor, bump_mor, putTx_mor, h₇]
    · exact h₇
  have h₁₁ : s₁₁.mor = s.mor := by
    unfold s₁₁
    split
    · rw [stick_mor, wr_mor, putPause_mor, h₈]
    · rw [wr_mor, putPause_mor, h₈]
  split
  · rw [flushPort_mor, h₁₁]
  · exact h₁₁

@[simp] theorem linkFall_mor (s : State) (n : Nat) : (linkFall s n).mor = s.mor := by simp [linkFall]
@[simp] theorem macApplied_mor (old s : State) (n : Nat) : (macApplied old s n).mor = s.mor := by simp [macApplied]
@[simp] theorem loseStamps_mor (s : State) (h : Nat) : (loseStamps s h).mor = s.mor := by simp [loseStamps]

@[simp] theorem freeStamp_mor (s : State) (h : Nat) (w : StampFor) : (freeStamp s h w).mor = s.mor := by
  simp [freeStamp]

@[simp] theorem keepStamp_mor (s : State) (h t : Nat) (w : StampFor) : (keepStamp s h t w).mor = s.mor := by
  simp [keepStamp]

@[simp] theorem execTxFrameComplete_mor (n t : Nat) (errs : List MemErr) (s : State) :
    (after (execTxFrameComplete n t errs s) s).mor = s.mor := by
  simp only [execTxFrameComplete]
  split
  · simp
  · split
    · simp
    · simp only [after_next]
      split <;> simp

/-! ### Fences -/

@[simp] theorem dropTx_mor (s : State) (p : Nat) : (dropTx s p).mor = s.mor := by
  unfold dropTx
  split <;> simp

@[simp] theorem putEntry_mor (s : State) (h : Nat) (x : Option HoopEntry) : (putEntry s h x).mor = s.mor := by
  simp [putEntry]

@[simp] theorem restartLanes_mor (s : State) (h : Nat) : (restartLanes s h).mor = s.mor := by simp [restartLanes]

@[simp] theorem recordRefusal_mor (s : State) (h agreed code : Nat) :
    (recordRefusal s h agreed code).mor = s.mor := by
  simp [recordRefusal]

@[simp] theorem endEntry_mor (s : State) (h code : Nat) : (endEntry s h code).mor = s.mor := by
  unfold endEntry
  split <;> simp

@[simp] theorem wakeH2_mor (s : State) (h code : Nat) : (wakeH2 s h code).mor = s.mor := by simp [wakeH2]
@[simp] theorem d3Enter_mor (s : State) : (d3Enter s).mor = s.mor := by simp [d3Enter]

@[simp] theorem hoopFence_mor (s : State) (h detail : Nat) : (hoopFence s h detail).mor = s.mor := by
  simp [hoopFence, failSends, discardLookups]

/-! ### A frame's way through the switch -/

@[simp] theorem dupCheck_mor (s : State) (f : Nat) : (dupCheck s f).1.mor = s.mor := by
  unfold dupCheck
  dsimp only
  repeat' split
  all_goals simp [dupFrame]

@[simp] theorem lookupPolice_mor (s : State) (built : Bool) (len : Nat) (c : ClsResult) (sk : SkResult) :
    (lookupPolice s built len c sk).1.mor = s.mor := by
  unfold lookupPolice
  dsimp only
  repeat' split
  all_goals simp [polFrame]

@[simp] theorem lookupFrame_mor (s : State) (x : Frm) (len : Nat) (b : List Nat) :
    (lookupFrame s x len b).1.mor = s.mor := by
  unfold lookupFrame
  extract_lets h port epoch front prp
  split
  next s₁ pr h₁ =>
  extract_lets trap
  split
  next s₂ c h₂ =>
  extract_lets learns
  split
  next s₃ fd h₃ =>
  have hs : s₃.mor = s.mor := by
    rw [mor_of_eq h₃, filLookup_mor, mor_of_eq h₂, classify_mor, mor_of_eq h₁, parseIn_mor]
  clear_value trap
  cases trap with
  | some k => exact hs
  | none =>
    dsimp only
    rw [lookupPolice_mor, skeinLookup_mor, hs]

@[simp] theorem lookupErr_mor (h : Nat) (s : State) (e : MemErr) : (lookupErr h s e).mor = s.mor := by
  unfold lookupErr
  split <;> simp [sknEntryUncorr, ctxUncorr]

@[simp] theorem discardFrm_mor (s : State) (f : Nat) : (discardFrm s f).mor = s.mor := by
  unfold discardFrm
  dsimp only
  repeat' split
  all_goals simp

@[simp] theorem placeFrm_mor (s : State) (f : Nat) : (placeFrm s f).mor = s.mor := by
  simp only [placeFrm]
  split <;> simp [toBobbin]

@[simp] theorem mirrorEntry_mor (s : State) (f : Nat) : (mirrorEntry s f).mor = s.mor := by
  simp only [mirrorEntry]
  split <;> simp

@[simp] theorem copyTo_mor (f c : Nat) (ps : List Nat) (s : State) : (copyTo f c ps s).1.mor = s.mor := by
  induction ps generalizing s with
  | nil => rfl
  | cons p ps ih => simp [copyTo, ih]

@[simp] theorem replicated_mor (s : State) (f : Nat) : (replicated s f).mor = s.mor := by simp [replicated]

@[simp] theorem execMcReplicate_mor (src : Nat) (errs : List MemErr) (s : State) :
    (after (execMcReplicate src errs s) s).mor = s.mor := by
  unfold execMcReplicate
  dsimp only
  repeat' split
  all_goals simp [makeCopies]

@[simp] theorem execMirrorCopy_mor (k t : Nat) (s : State) : (after (execMirrorCopy k t s) s).mor = s.mor := by
  unfold execMirrorCopy
  extract_lets s₀ p
  split
  · rfl
  · extract_lets fr done
    have hdone (s : State) : (done s).mor = s.mor := by simp [done]
    split_ifs
    · rfl
    · rw [after_next, hdone, bump_mor, advance_mor]
    · rw [after_next, hdone, stick_mor, bump_mor, advance_mor]
    · rfl
    · split <;> next heq => simp [hdone, mor_of_eq heq, s₀]

@[simp] theorem execRecircFeed_mor (p t : Nat) (s : State) : (after (execRecircFeed p t s) s).mor = s.mor := by
  unfold execRecircFeed
  extract_lets port s₀
  split
  · rfl
  · extract_lets fr done
    have hdone (s : State) : (done s).mor = s.mor := by simp [done]
    split_ifs
    · rw [after_next, hdone, bump_mor, advance_mor]
    · rfl
    · rw [after_next, wakeH2_mor]
    · split <;> next heq => simp [hdone, mor_of_eq heq, s₀]

/-! ### The Sampler -/

@[simp] theorem cancelTargeted_mor (s : State) (late : Nat → Bool) : (cancelTargeted s late).mor = s.mor := by
  simp [cancelTargeted]

@[simp] theorem setStatus_mor (s : State) (lo n v : Nat) : (setStatus s lo n v).mor = s.mor := by simp [setStatus]
@[simp] theorem showVote_mor (s : State) : (showVote s).mor = s.mor := by simp [showVote]
@[simp] theorem clearCompares_mor (s : State) : (clearCompares s).mor = s.mor := by simp [clearCompares]
@[simp] theorem chFence_mor (s : State) (i detail : Nat) : (chFence s i detail).mor = s.mor := by simp [chFence]
@[simp] theorem putChTime_mor (s : State) (i v : Nat) : (putChTime s i v).mor = s.mor := by simp [putChTime]

@[simp] theorem loadChannel_mor (t : Nat) (s : State) (i : Nat) : (loadChannel t s i).mor = s.mor := by
  simp [loadChannel]

@[simp] theorem chCount_mor (edges : List (Nat × Nat)) (s : State) (i : Nat) : (chCount edges s i).mor = s.mor := by
  simp [chCount]

@[simp] theorem noteDiv_mor (s : State) (i : Nat) (far : Bool) (dev : Int) : (noteDiv s i far dev).mor = s.mor := by
  simp [noteDiv]

@[simp] theorem compareVote_mor (s : State) (times : List Nat) (devs : List Int) :
    (compareVote s times devs).mor = s.mor := by
  unfold compareVote
  split <;> simp

@[simp] theorem compareRejoin_mor (s : State) (i : Nat) : (compareRejoin s i).mor = s.mor := by simp [compareRejoin]
@[simp] theorem trimChannel_mor (was s : State) (i : Nat) : (trimChannel was s i).mor = s.mor := by simp [trimChannel]
@[simp] theorem setFreq_mor (s : State) (v : Int) : (setFreq s v).mor = s.mor := by simp [setFreq]
@[simp] theorem steer_mor (s : State) (hold : Int) : (steer s hold).mor = s.mor := by simp [steer]

@[simp] theorem compareChannel_mor (times : List Nat) (ok : Nat) (s : State) (i : Nat) :
    (compareChannel times ok s i).mor = s.mor := by
  simp [compareChannel]

@[simp] theorem execVoteCompare_mor (edges : List (Nat × Nat)) (devs : List Int) (hold : Int) (ok aon ppb : Nat)
    (s : State) :
    (after (execVoteCompare edges devs hold ok aon ppb s) s).mor = s.mor := by
  unfold execVoteCompare
  dsimp only
  repeat' split
  all_goals simp

@[simp] theorem putDom_mor (s : State) (j : Nat) (x : DomSt) : (putDom s j x).mor = s.mor := by simp [putDom]
@[simp] theorem showTrace_mor (s : State) : (showTrace s).mor = s.mor := by simp [showTrace]

@[simp] theorem setUtc_mor (s : State) (sw : Bool) (u : UtcNews) : (setUtc s sw u).mor = s.mor := by
  simp [setUtc, putUtc]

@[simp] theorem takeUtc_mor (s : State) : (takeUtc s).mor = s.mor := by
  unfold takeUtc
  simp only [mor_ite]
  repeat' split
  all_goals simp

@[simp] theorem execLeapApply_mor (t : Nat) (s : State) : (after (execLeapApply t s) s).mor = s.mor := by
  unfold execLeapApply
  extract_lets s₁
  rw [after_next]
  split
  · rw [advance_mor]
  · split
    · rw [advance_mor]
    · rw [stick_mor, setLeap_mor, setUtc_mor, advance_mor]

@[simp] theorem pulsesFromNow_mor (s : State) : (pulsesFromNow s).mor = s.mor := by simp [pulsesFromNow]
@[simp] theorem rebase_mor (s : State) (count : Nat) : (rebase s count).mor = s.mor := by simp [rebase]

@[simp] theorem stepTime_mor (s : State) (d : Int) : (stepTime s d).mor = s.mor := by
  simp [stepTime, stepChannel, shiftTimers, regrid]

@[simp] theorem setServo_mor (s : State) (st src : Nat) : (setServo s st src).mor = s.mor := by simp [setServo]
@[simp] theorem lockTo_mor (s : State) (src : Nat) : (lockTo s src).mor = s.mor := by simp [lockTo]
@[simp] theorem switchTo_mor (s : State) (src : Nat) : (switchTo s src).mor = s.mor := by simp [switchTo]
@[simp] theorem holdover_mor (s : State) : (holdover s).mor = s.mor := by simp [holdover]
@[simp] theorem loseSource_mor (s : State) : (loseSource s).mor = s.mor := by simp [loseSource]

@[simp] theorem setDomState_mor (s : State) (j v : Nat) : (setDomState s j v).mor = s.mor := by
  unfold setDomState
  dsimp only
  repeat' split
  all_goals simp

@[simp] theorem execSwitchReq_mor (t : Nat) (s : State) : (after (execSwitchReq t s) s).mor = s.mor := by
  simp [execSwitchReq]

@[simp] theorem execReacq_mor (t : Nat) (s : State) : (after (execReacq t s) s).mor = s.mor := by simp [execReacq]
@[simp] theorem execLatch_mor (t : Nat) (s : State) : (after (execLatch t s) s).mor = s.mor := by simp [execLatch]

@[simp] theorem takeStamps_mor (s : State) (j : Nat) : (takeStamps s j).mor = s.mor := by
  simp only [takeStamps]
  rw [foldl_mor fun _ _ => by rw [wr_mor]]

@[simp] theorem ptpNews_mor (s : State) (j : Nat) (n : PtpNews) : (ptpNews s j n).mor = s.mor := by
  simp only [ptpNews]
  split <;> simp [gather]

@[simp] theorem execPtpMessageRx_mor (j c t : Nat) (news : PtpNews) (s : State) :
    (after (execPtpMessageRx j c t news s) s).mor = s.mor := by
  simp only [execPtpMessageRx]
  split <;> simp

@[simp] theorem execPtpMessageSend_mor (j n kind t : Nat) (b : List Nat) (s : State) :
    (after (execPtpMessageSend j n kind t b s) s).mor = s.mor := by
  simp only [execPtpMessageSend, after_next]
  split
  · rw [takeStamps_mor, advance_mor]
  · have h := openFrame_mor (takeStamps (advance s t) j) 1031
    split
    · next heq =>
      rw [mor_of_eq heq]
      simp
    · next heq =>
      rw [handOver_mor, enqPort_mor, mor_of_eq heq, openFrame_mor, takeStamps_mor, advance_mor]

@[simp] theorem capCross_mor (s : State) : (capCross s).mor = s.mor := by
  unfold capCross
  split <;> simp

@[simp] theorem putPulse_mor (s : State) (i : Nat) (x : PulseSt) : (putPulse s i x).mor = s.mor := by simp [putPulse]

@[simp] theorem execPulseEdge_mor (i t : Nat) (s : State) : (after (execPulseEdge i t s) s).mor = s.mor := by
  simp only [execPulseEdge]
  split <;> simp

@[simp] theorem highClear_mor (s : State) (h : Nat) : (highClear s h).mor = s.mor := by simp [highClear]
@[simp] theorem todApplied_mor (old s : State) : (todApplied old s).mor = s.mor := by simp [todApplied]
@[simp] theorem ptpApplied_mor (old s : State) (j : Nat) : (ptpApplied old s j).mor = s.mor := by simp [ptpApplied]
@[simp] theorem pulseApplied_mor (old s : State) : (pulseApplied old s).mor = s.mor := by simp [pulseApplied]

/-! ### Aladotra -/

@[simp] theorem setMstate_mor (s : State) (v : Nat) : (setMstate s v).mor = s.mor := by simp [setMstate]

@[simp] theorem putMember_mor (s : State) (m : Nat) (x : Member) : (putMember s m x).mor = s.mor := by
  simp [putMember]

@[simp] theorem showMaxLag_mor (s : State) : (showMaxLag s).mor = s.mor := by simp [showMaxLag]
@[simp] theorem setPend_mor (s : State) (ps : List SysCommit) : (setPend s ps).mor = s.mor := by simp [setPend]
@[simp] theorem syncDiscard_mor (s : State) : (syncDiscard s).mor = s.mor := by simp [syncDiscard]
@[simp] theorem missCommit_mor (s : State) : (missCommit s).mor = s.mor := by simp [missCommit]
@[simp] theorem dropCommits_mor (s : State) : (dropCommits s).mor = s.mor := by simp [dropCommits]
@[simp] theorem fwCell_mor (s : State) (n ctype : Nat) : (fwCell s n ctype).mor = s.mor := by simp [fwCell]

@[simp] theorem fwCells_mor (s : State) (ns : List Nat) (ctype : Nat) : (fwCells s ns ctype).mor = s.mor := by
  simp [fwCells]

@[simp] theorem relayUp_mor (s : State) (ctype : Nat) : (relayUp s ctype).mor = s.mor := by
  unfold relayUp
  split <;> simp

@[simp] theorem relayDown_mor (s : State) (ctype : Nat) : (relayDown s ctype).mor = s.mor := by simp [relayDown]
@[simp] theorem cellDone_mor (s : State) (n ctype : Nat) : (cellDone s n ctype).mor = s.mor := by simp [cellDone]

@[simp] theorem onCell_mor (n ctype : Nat) {f : State → State} (h : ∀ s, (f s).mor = s.mor) (s : State) :
    (onCell n ctype f s).mor = s.mor := by
  simp [onCell, h]

@[simp] theorem setLink_mor (s : State) (n v : Nat) : (setLink s n v).mor = s.mor := by simp [setLink]
@[simp] theorem aldFence_mor (s : State) (n detail : Nat) : (aldFence s n detail).mor = s.mor := by simp [aldFence]
@[simp] theorem linkUpCheck_mor (s : State) (n : Nat) : (linkUpCheck s n).mor = s.mor := by simp [linkUpCheck]
@[simp] theorem showLinks_mor (s : State) : (showLinks s).mor = s.mor := by simp [showLinks]

@[simp] theorem execProbeRx_mor (n t : Nat) (s : State) : (after (execProbeRx n t s) s).mor = s.mor := by
  simp only [execProbeRx]
  split <;> simp

@[simp] theorem useExchange_mor (s : State) (n : Nat) (v : Int) : (useExchange s n v).mor = s.mor := by
  simp [useExchange]

@[simp] theorem execProbeRespRx_mor (n t : Nat) (s : State) : (after (execProbeRespRx n t s) s).mor = s.mor := by
  simp only [execProbeRespRx, after_next]
  split
  · exact advance_mor s t
  · split
    · rw [cellDone_mor, advance_mor]
    · split
      · rw [cellDone_mor, advance_mor]
      · split
        · split
          · rw [aldFence_mor, stick_mor, putLink_mor, cellDone_mor, advance_mor]
          · rw [stick_mor, putLink_mor, cellDone_mor, advance_mor]
        · rw [useExchange_mor, cellDone_mor, advance_mor]

@[simp] theorem aldFrame_mor (s : State) (n t : Nat) (b : List Nat) (overrun : Bool) :
    (aldFrame s n t b overrun).mor = s.mor := by
  simp [aldFrame, badHeader, aldCell, aldData]

@[simp] theorem aldHear_mor (s : State) (n : Nat) (xs : List Nat) : (aldHear s n xs).1.mor = s.mor := by
  simp [aldHear]

@[simp] theorem execAldLinkFrameRx_mor (n t : Nat) (pre line : List Nat) (overrun : Bool) (fec : List Nat)
    (s : State) :
    (after (execAldLinkFrameRx n t pre line overrun fec s) s).mor = s.mor := by
  unfold execAldLinkFrameRx
  dsimp only
  repeat' split
  all_goals simp

@[simp] theorem emitBeacon_mor (s : State) (b : Beacon) : (emitBeacon s b).mor = s.mor := by simp [emitBeacon]

@[simp] theorem setParent_mor (s : State) (n : Nat) (b : Beacon) : (setParent s n b).mor = s.mor := by
  simp only [setParent]
  split
  · rw [stick_mor]
  · split
    · split
      · rw [wr_mor, wr_mor, wr_mor]
      · rw [bump_mor, stick_mor, stick_mor, wr_mor, wr_mor, wr_mor]
    · rw [wr_mor, wr_mor, wr_mor]

@[simp] theorem noParent_mor (s : State) : (noParent s).mor = s.mor := by simp [noParent]
@[simp] theorem follow_mor (s : State) : (follow s).mor = s.mor := by simp [follow]

@[simp] theorem tryJoin_mor (s : State) : (tryJoin s).mor = s.mor := by
  unfold tryJoin
  dsimp only
  repeat' split
  all_goals simp

@[simp] theorem parentBeacon_mor (s : State) (n t : Nat) (b : Beacon) : (parentBeacon s n t b).mor = s.mor := by
  simp [parentBeacon, showMgrs]

@[simp] theorem giveUp_mor (s : State) (t : Nat) : (giveUp s t).mor = s.mor := by simp [giveUp]

@[simp] theorem takeCopy_mor (s : State) (n : Nat) (c : Option AldCopy) : (takeCopy s n c).mor = s.mor := by
  unfold takeCopy
  split <;> simp

@[simp] theorem execBeaconRx_mor (n t : Nat) (lower : Bool) (copy : Option AldCopy) (s : State) :
    (after (execBeaconRx n t lower copy s) s).mor = s.mor := by
  simp only [execBeaconRx]
  split <;> simp

@[simp] theorem execJoinGrant_mor (n uid : Nat) (refused : Bool) (member sj : Nat) (s : State) :
    (after (execJoinGrant n uid refused member sj s) s).mor = s.mor := by
  rw [execJoinGrant, after_next, onCell_mor]
  intro s
  split
  · rw [fwCells_mor]
  · split
    · rfl
    · split
      · rw [stick_mor]
      · split
        · rw [wr_mor]
        · rfl

@[simp] theorem chooseStandby_mor (s : State) : (chooseStandby s).mor = s.mor := by simp [chooseStandby]
@[simp] theorem execLeaveReq_mor (s : State) : (after (execLeaveReq s) s).mor = s.mor := by simp [execLeaveReq]

@[simp] theorem execLeave_mor (n member : Nat) (sl : Option Nat) (s : State) :
    (after (execLeave n member sl s) s).mor = s.mor := by
  unfold execLeave
  split <;> simp

@[simp] theorem filStage_mor (s : State) (p op : Nat) (key data : Nat) : (filStage s p op key data).mor = s.mor := by
  simp [filStage]

theorem filStagePanels_mor (s : State) (ps : List Nat) (op k v : Nat) :
    (ps.foldl (fun s p => filStage s p op k v) s).mor = s.mor := foldl_mor (fun _ _ => filStage_mor ..) _ _

theorem filStageRecords_mor (s : State) (ps : List Nat) (op : Nat) (key v : List Nat → Nat) (rs : List (List Nat)) :
    (rs.foldl (fun s r => ps.foldl (fun s p => filStage s p op (key r) (v r)) s) s).mor = s.mor :=
  foldl_mor (fun _ _ => filStagePanels_mor ..) _ _

theorem filStageEntries_mor (s : State) (p op v : Nat) (es : List (Nat × FilEnt)) :
    (es.foldl (fun s e => filStage s p op e.2.key v) s).mor = s.mor := foldl_mor (fun _ _ => filStage_mor ..) _ _
theorem filStageUnsent_mor (s : State) (ps : List Nat) (op v : Nat) (es : State → Nat → List (Nat × FilEnt)) :
    (ps.foldl (fun s p => (es s p).foldl (fun s e => filStage s p op e.2.key v) s) s).mor = s.mor :=
  foldl_mor (fun _ _ => filStageEntries_mor ..) _ _

@[simp] theorem ownAck_mor (s : State) (cid : Nat) (refuse : Bool) : (ownAck s cid refuse).mor = s.mor := by
  simp [ownAck]

@[simp] theorem takeCommit_mor (s : State) (c : SysCommit) : (takeCommit s c).mor = s.mor := by
  simp [takeCommit, stageRecord]

@[simp] theorem issueCommit_mor (s : State) (c : SysCommit) (state : Nat) : (issueCommit s c state).mor = s.mor := by
  simp [issueCommit]

@[simp] theorem execScRequest_mor (s : State) : (after (execScRequest s) s).mor = s.mor := by simp [execScRequest]
@[simp] theorem execScAckWrite_mor (s : State) : (after (execScAckWrite s) s).mor = s.mor := by simp [execScAckWrite]

@[simp] theorem requestGroup_mor (s : State) (g target : Nat) : (requestGroup s g target).mor = s.mor := by
  simp [requestGroup]

@[simp] theorem execTsync_mor (n dst : Nat) (records : List (List Nat)) (last : Bool) (cid sa : Nat) (s : State) :
    (after (execTsync n dst records last cid sa s) s).mor = s.mor := by
  unfold execTsync
  rw [after_next]
  split
  · rfl
  · rw [onCell_mor]
    intro s
    split
    · rw [relayDown_mor]
    · extract_lets key s₁ sent s₂
      have h₁ : s₁.mor = s.mor := filStageRecords_mor s _ 3 key (·.getD 3 0) records
      have h₂ : s₂.mor = s₁.mor := by
        unfold s₂
        split
        · exact filStageUnsent_mor s₁ _ 4 0 _
        · rfl
      rw [requestGroup_mor, setAld_mor, h₂, h₁]

@[simp] theorem takeoverCommits_mor (s : State) (upto : Nat) (gap : Bool) :
    (takeoverCommits s upto gap).mor = s.mor := by
  simp [takeoverCommits, reissue]

@[simp] theorem standalone_mor (s : State) : (standalone s).mor = s.mor := by simp [standalone]
@[simp] theorem takePeriod_mor (s : State) (ns : Nat) : (takePeriod s ns).mor = s.mor := by simp [takePeriod]

@[simp] theorem joinNow_mor (s : State) (sj t : Nat) : (joinNow s sj t).mor = s.mor := by
  simp only [joinNow]
  split <;> simp

@[simp] theorem catchUp_mor (s : State) : (catchUp s).mor = s.mor := by
  unfold catchUp
  split <;> simp

@[simp] theorem memberChanges_mor (s : State) : (memberChanges s).mor = s.mor := by simp [memberChanges]
@[simp] theorem handoverNow_mor (s : State) : (handoverNow s).mor = s.mor := by simp [handoverNow]

@[simp] theorem commitBoundary_mor (s : State) (done : Bool) : (commitBoundary s done).mor = s.mor := by
  unfold commitBoundary
  extract_lets pend s₁
  rw [foldl_mor, setPend_mor]
  intro s c
  split
  · extract_lets s₂ s₃
    have h : s₃.mor = s.mor := by
      unfold s₃
      split <;> simp [s₂]
    split <;> simp [h]
  · rw [missCommit_mor, syncDiscard_mor]

@[simp] theorem syncBoundary_mor (s : State) (applied : Nat → Bool) : (syncBoundary s applied).mor = s.mor := by
  unfold syncBoundary
  split <;> simp

@[simp] theorem aldStep1_mor (s : State) (applied : Nat → Bool) : (aldStep1 s applied).mor = s.mor := by
  simp only [aldStep1]
  split <;> simp [apply_ite State.mor]

@[simp] theorem parentBoundary_mor (s : State) : (parentBoundary s).mor = s.mor := by
  unfold parentBoundary
  dsimp only
  repeat' split
  all_goals simp [isolate]

@[simp] theorem decideArms_mor (s : State) : (decideArms s).mor = s.mor := by simp [decideArms]
@[simp] theorem passArms_mor (s : State) : (passArms s).mor = s.mor := by simp [passArms]
@[simp] theorem showLags_mor (s : State) : (showLags s).mor = s.mor := by simp [showLags]

@[simp] theorem aldStep6_mor (s : State) : (aldStep6 s).mor = s.mor := by
  unfold aldStep6
  dsimp only
  repeat' split
  all_goals simp

@[simp] theorem aldApplied_mor (old s : State) : (aldApplied old s).mor = s.mor := by simp [aldApplied]

/-! ### Instructions of the bobbins -/

@[simp] theorem hoopErr_mor (s : State) (h space loc : Nat) : (hoopErr s h space loc).mor = s.mor := by simp [hoopErr]

@[simp] theorem storeErr_mor (s : State) (h a : Nat) (e : BobErr) : (storeErr s h a e).mor = s.mor := by
  unfold storeErr
  split <;> simp

@[simp] theorem fetch_mor (s : State) (b t : Nat) (e : BobErr) : (fetch s b t e).1.mor = s.mor := by simp [fetch]

@[simp] theorem issue_mor (op : BobOp) {f : State → Nat → State} (h : ∀ s w, (f s w).mor = s.mor) (b t t4 : Nat)
    (e : BobErr) (s : State) :
    (after (issue op f b t t4 e s) s).mor = s.mor := by
  have hf := fetch_mor (advance s t4) b t (if op = .ldi then .ok else e)
  unfold issue
  split
  · rfl
  · split <;> simp_all

@[simp] theorem retireTo_mor (s : State) (b t a : Nat) : (retireTo s b t a).mor = s.mor := by simp [retireTo]
@[simp] theorem retire_mor (s : State) (b t : Nat) : (retire s b t).mor = s.mor := by simp [retire]

@[simp] theorem faultHere_mor (s : State) (b t reason addr tok : Nat) :
    (faultHere s b t reason addr tok).mor = s.mor := by
  simp [faultHere]

@[simp] theorem aluR_mor (b t : Nat) (f : Nat → Nat → Nat) (s : State) (w : Nat) : (aluR b t f s w).mor = s.mor := by
  simp [aluR]

@[simp] theorem aluI_mor (b t : Nat) (f : Nat → Nat → Nat) (s : State) (w : Nat) : (aluI b t f s w).mor = s.mor := by
  simp [aluI]

@[simp] theorem branch_mor (b t : Nat) (f : Nat → Nat → Bool) (s : State) (w : Nat) :
    (branch b t f s w).mor = s.mor := by
  simp [branch]

@[simp] theorem lmErr_mor (s : State) (b t a : Nat) (e : BobErr) : (lmErr s b t a e).1.mor = s.mor := by
  unfold lmErr
  split <;> simp

@[simp] theorem lmAccess_mor (b t n : Nat) (e : BobErr) {f : State → Nat → State} (h : ∀ s w, (f s w).mor = s.mor)
    (s : State) (w : Nat) :
    (lmAccess b t n e f s w).mor = s.mor := by
  have hl := lmErr_mor s b t (unsigned 64 ((gReg s b t (fRs1 w) : Int) + fSimm w)) e
  unfold lmAccess
  dsimp only
  repeat' split
  all_goals simp_all

@[simp] theorem metaSlot_mor (s : State) (x : Frm) (th : BobThr) (i : Nat) : (metaSlot s x th i).1.mor = s.mor := by
  unfold metaSlot
  dsimp only
  repeat' split
  all_goals simp

@[simp] theorem execBobHld_mor (b t t4 : Nat) (e : BobErr) (s : State) :
    (after (execBobHld b t t4 e s) s).mor = s.mor := by
  refine issue_mor _ (fun s w => ?_) b t t4 e s
  dsimp only
  split
  · split_ifs <;> simp
  · simp

@[simp] theorem execBobHst_mor (b t t4 : Nat) (e : BobErr) (s : State) :
    (after (execBobHst b t t4 e s) s).mor = s.mor := by
  refine issue_mor _ (fun s w => ?_) b t t4 e s
  dsimp only
  split
  · split_ifs <;> simp
  · simp

@[simp] theorem tableOp_mor (s : State) (b t w v : Nat) : (tableOp s b t w v).mor = s.mor := by simp [tableOp]

@[simp] theorem execTableOpComplete_mor (b t : Nat) (s : State) :
    (after (execTableOpComplete b t s) s).mor = s.mor := by
  simp only [execTableOpComplete]
  split <;> simp

@[simp] theorem skInstall_mor (s : State) (h i d pf rcd : Nat) (transient : Bool) (merge : Option FlowRec) :
    (skInstall s h i d pf rcd transient merge).1.mor = s.mor := by
  simp [skInstall]

@[simp] theorem execBobInstall_mor (b t t4 : Nat) (e : BobErr) (s : State) :
    (after (execBobInstall b t t4 e s) s).mor = s.mor := by
  refine issue_mor _ (fun s w => ?_) b t t4 e s
  split
  · next heq => simp [mor_of_eq heq]
  · next heq => simp [mor_of_eq heq]

@[simp] theorem execBobCtxrd_mor (b t t4 : Nat) (e : BobErr) (s : State) :
    (after (execBobCtxrd b t t4 e s) s).mor = s.mor := by
  refine issue_mor _ (fun s w => ?_) b t t4 e s
  split
  · simp
  · split <;> next heq => simp [mor_of_eq heq]

@[simp] theorem execBobCtxwr_mor (b t t4 : Nat) (e : BobErr) (s : State) :
    (after (execBobCtxwr b t t4 e s) s).mor = s.mor := by
  refine issue_mor _ (fun s w => ?_) b t t4 e s
  split
  · next heq => simp [mor_of_eq heq]
  · next heq =>
    dsimp only
    split <;> simp [mor_of_eq heq]

@[simp] theorem execBobCtxevict_mor (b t t4 : Nat) (e : BobErr) (s : State) :
    (after (execBobCtxevict b t t4 e s) s).mor = s.mor := by
  refine issue_mor _ (fun s w => ?_) b t t4 e s
  dsimp only
  split
  · simp
  · split_ifs <;> simp

@[simp] theorem execBobFsearch_mor (b t t4 : Nat) (e : BobErr) (s : State) :
    (after (execBobFsearch b t t4 e s) s).mor = s.mor := by
  refine issue_mor _ (fun s w => ?_) b t t4 e s
  dsimp only
  split
  · split <;> next heq => simp [mor_of_eq heq]
  · simp

@[simp] theorem execBobPread_mor (b t t4 : Nat) (e : BobErr) (s : State) :
    (after (execBobPread b t t4 e s) s).mor = s.mor := by
  refine issue_mor _ (fun s w => ?_) b t t4 e s
  split <;> next heq => simp [mor_of_eq heq]

@[simp] theorem winErr_mor (s : State) (h i : Nat) (e : BobErr) : (winErr s h i e).mor = s.mor := by
  unfold winErr
  split <;> simp

@[simp] theorem issueAccess_mor (write : Bool) (b t : Nat) (e : BobErr) (s : State) (w : Nat) :
    (issueAccess write b t e s w).mor = s.mor := by
  unfold issueAccess
  extract_lets h a n tok
  split
  · next s₁ d _ _ _ _ _ _ _ =>
    split <;> simp [s₁, d]
  · next _ _ e' s₁ addr _ _ _ =>
    have h₁ : s₁.mor = s.mor := winErr_mor ..
    split
    · rw [faultHere_mor, setWait_mor, h₁]
    · split
      · rw [setWait_mor, h₁]
      · have h₂ : (if write then lmErr s₁ b t (fLm w) e' else (s₁, true)).1.mor = s.mor := by
          split
          · rw [lmErr_mor, h₁]
          · exact h₁
        split
        · next heq => rw [mor_of_eq heq, h₂]
        · next heq =>
          rw [retire_mor, setWait_mor, perfPulse_mor, bump_mor, perfRise_mor, putAcc_mor, mor_of_eq heq, h₂]

@[simp] theorem execDramIssueAccepted_mor (b t t4 : Nat) (e : BobErr) (s : State) :
    (after (execDramIssueAccepted b t t4 e s) s).mor = s.mor := by
  unfold execDramIssueAccepted
  extract_lets th go
  have hgo : go.mor = s.mor := by simp [go]
  split
  · rfl
  · split
    · next heq => rw [after_next, mor_of_eq heq, fetch_mor, advance_mor, hgo]
    · next heq =>
      split
      · rw [after_next, issueAccess_mor, mor_of_eq heq, fetch_mor, advance_mor, hgo]
      · rw [after_next, issueAccess_mor, mor_of_eq heq, fetch_mor, advance_mor, hgo]
      · rfl

@[simp] theorem tokDone_mor (s : State) (b k : Nat) : (tokDone s b k).mor = s.mor := by
  unfold tokDone
  split <;> simp

@[simp] theorem accError_mor (s : State) (b : Nat) (x : BobAcc) : (accError s b x).mor = s.mor := by
  unfold accError
  split <;> simp

@[simp] theorem execDrdComplete_mor (b i : Nat) (err : Bool) (e : BobErr) (s : State) :
    (after (execDrdComplete b i err e s) s).mor = s.mor := by
  simp only [execDrdComplete]
  repeat' split
  all_goals simp [endChecks]

@[simp] theorem execDwrComplete_mor (b i : Nat) (s : State) : (after (execDwrComplete b i s) s).mor = s.mor := by
  simp only [execDwrComplete]
  repeat' split
  all_goals simp

@[simp] theorem execBobDawait_mor (b t t4 : Nat) (e : BobErr) (s : State) :
    (after (execBobDawait b t t4 e s) s).mor = s.mor := by
  refine issue_mor _ (fun s w => ?_) b t t4 e s
  dsimp only
  split
  · simp
  · split <;> simp

@[simp] theorem readTo_mor (b t : Nat) (f : State → Nat) (s : State) (w : Nat) : (readTo b t f s w).mor = s.mor := by
  simp [readTo]

@[simp] theorem execBobRdperf_mor (b t t4 : Nat) (e : BobErr) (s : State) :
    (after (execBobRdperf b t t4 e s) s).mor = s.mor := by
  simp [execBobRdperf, perfRead]

@[simp] theorem headOverride_mor (s : State) (b c f : Nat) (th : BobThr) :
    (headOverride s b c f th).1.mor = s.mor := by
  simp only [headOverride]
  split
  · rfl
  · split
    · rfl
    · split
      · next heq => rw [mor_of_eq heq, takeCell_mor]
      · next heq => rw [putFrm_mor, mor_of_eq heq, takeCell_mor]

@[simp] theorem execBobFwd_mor (b t t4 : Nat) (e : BobErr) (s : State) :
    (after (execBobFwd b t t4 e s) s).mor = s.mor := by
  refine issue_mor _ (fun s w => ?_) b t t4 e s
  extract_lets port c th
  split
  · extract_lets x cls dest y
    split_ifs
    · simp
    · rfl
    · split <;> next heq => simp [mor_of_eq heq]
  · simp

@[simp] theorem execBobDrop_mor (b t t4 : Nat) (e : BobErr) (s : State) :
    (after (execBobDrop b t t4 e s) s).mor = s.mor := by
  refine issue_mor _ (fun s w => ?_) b t t4 e s
  split <;> simp

@[simp] theorem execBobNew_mor (b t t4 : Nat) (e : BobErr) (s : State) :
    (after (execBobNew b t t4 e s) s).mor = s.mor := by
  refine issue_mor _ (fun s w => ?_) b t t4 e s
  extract_lets r port c n
  split_ifs
  · simp
  · simp
  · simp
  · split
    · next heq => simp [mor_of_eq heq]
    · next heq =>
      extract_lets y
      split_ifs
      · simp [mor_of_eq heq]
      · split <;> next heq' => simp [mor_of_eq heq, mor_of_eq heq']

@[simp] theorem execIllegalInstruction_mor (b t t4 : Nat) (e : BobErr) (s : State) :
    (after (execIllegalInstruction b t t4 e s) s).mor = s.mor := by
  unfold execIllegalInstruction
  split
  · rfl
  · split <;> next heq => simp [mor_of_eq heq]

/-! ### Host DMA -/

@[simp] theorem putTxEng_mor (s : State) (f q : Nat) (x : TxEng) : (putTxEng s f q x).mor = s.mor := by
  simp [putTxEng]

@[simp] theorem putRxEng_mor (s : State) (f q : Nat) (x : RxEng) : (putRxEng s f q x).mor = s.mor := by
  simp [putRxEng]

@[simp] theorem hostOut_mor (s : State) (w : List HostWrite) : (hostOut s w).mor = s.mor := by simp [hostOut]

@[simp] theorem fnFence_mor (s : State) (f reason q : Nat) (rx : Bool) (idx addr : Nat) :
    (fnFence s f reason q rx idx addr).mor = s.mor := by
  simp [fnFence]

@[simp] theorem txBadDue_mor (s : State) (f q : Nat) : (txBadDue s f q).mor = s.mor := by
  unfold txBadDue
  split <;> simp

@[simp] theorem txMalformed_mor (s : State) (f q reason idx addr : Nat) :
    (txMalformed s f q reason idx addr).mor = s.mor := by
  simp [txMalformed]

@[simp] theorem putIrq_mor (s : State) (f q : Nat) (rx : Bool) (x : IrqSrc) : (putIrq s f q rx x).mor = s.mor := by
  simp [putIrq]

@[simp] theorem irqFire_mor (s : State) (f q : Nat) (rx : Bool) : (irqFire s f q rx).mor = s.mor := by simp [irqFire]

@[simp] theorem irqCheck_mor (s : State) (f q : Nat) (rx : Bool) : (irqCheck s f q rx).mor = s.mor := by
  simp [irqCheck]

@[simp] theorem irqCount_mor (s : State) (f q : Nat) (rx : Bool) : (irqCount s f q rx).mor = s.mor := by
  simp [irqCount]

@[simp] theorem irqArm_mor (s : State) (f q : Nat) (rx : Bool) : (irqArm s f q rx).mor = s.mor := by simp [irqArm]

@[simp] theorem qpEnableWrite_mor (s : State) (f : Nat) (hi : Bool) (w : Nat) :
    (qpEnableWrite s f hi w).mor = s.mor := by
  simp [qpEnableWrite, qpEnable]

@[simp] theorem txDoorbell_mor (s : State) (f q w : Nat) : (txDoorbell s f q w).mor = s.mor := by
  simp [txDoorbell, txRing]

@[simp] theorem rxDoorbell_mor (s : State) (f q w : Nat) : (rxDoorbell s f q w).mor = s.mor := by simp [rxDoorbell]

@[simp] theorem txOwned_mor (s : State) (f q : Nat) (ws : List Nat) : (txOwned s f q ws).mor = s.mor := by
  simp only [txOwned]
  split <;> simp

@[simp] theorem execTxEntryFetched_mor (f q : Nat) (ws : List Nat) (err : Option Nat) (s : State) :
    (after (execTxEntryFetched f q ws err s) s).mor = s.mor := by
  simp only [execTxEntryFetched]
  repeat' split
  all_goals simp

@[simp] theorem sendFrame_mor (s : State) (f q : Nat) (x : Send) (b : List Nat) :
    (sendFrame s f q x b).1.mor = s.mor := by
  unfold sendFrame
  extract_lets dest
  split
  · split
    · rw [wakeH2_mor]
    · extract_lets y
      split <;> next heq => rw [mor_of_eq heq, openFrame_mor]
  · split
    · rfl
    · split
      · next heq => rw [mor_of_eq heq, openFrame_mor]
      · next heq => rw [handOver_mor, enqPort_mor, mor_of_eq heq, openFrame_mor]

@[simp] theorem sendLoop_mor (f q : Nat) (b : List Nat) (n : Nat) (s : State) (x : Send) :
    (sendLoop f q b n s x).1.mor = s.mor := by
  induction n generalizing s x with
  | zero => rfl
  | succ n ih =>
    have h := sendFrame_mor s f q x (sendBytes x b x.frames)
    unfold sendLoop
    dsimp only
    repeat' split
    all_goals simp_all

@[simp] theorem execSendEnter_mor (f q t : Nat) (b : List Nat) (err : Option Nat) (s : State) :
    (after (execSendEnter f q t b err s) s).mor = s.mor := by
  simp only [execSendEnter]
  repeat' split
  all_goals simp [sendRun, putSend, rrServed]

theorem sendOutcome_mor {s : State} {f q : Nat} {x : Send} {r : Nat × Nat × State} (h : sendOutcome s f q x = some r) :
    r.2.2.mor = s.mor := by
  unfold sendOutcome at h
  dsimp only at h
  repeat' split at h
  all_goals simp_all
  all_goals (subst h; simp)

@[simp] theorem execTxCompletion_mor (f q t : Nat) (err : Option Nat) (s : State) :
    (after (execTxCompletion f q t err s) s).mor = s.mor := by
  unfold execTxCompletion
  split
  · rfl
  · split
    · rfl
    · split
      · rfl
      · next heq =>
        have h := sendOutcome_mor heq
        rw [advance_mor] at h
        split <;> simpa using h

@[simp] theorem putStore_mor (s : State) (f p : Nat) (x : List Nat) : (putStore s f p x).mor = s.mor := by
  simp [putStore]

@[simp] theorem putShare_mor (s : State) (n c : Nat) : (putShare s n c).mor = s.mor := by simp [putShare]
@[simp] theorem flsFree_mor (s : State) (f w : Nat) : (flsFree s f w).mor = s.mor := by simp [flsFree, storePut]
@[simp] theorem putWait_mor (s : State) (m : Nat) (x : RxWait) : (putWait s m x).mor = s.mor := by simp [putWait]
@[simp] theorem cpuDone_mor (s : State) (m f : Nat) : (cpuDone s m f).mor = s.mor := by simp [cpuDone]

@[simp] theorem abandonDelivery_mor (s : State) (e : Nat × RxWait) : (abandonDelivery s e).mor = s.mor := by
  unfold abandonDelivery
  split <;> simp

@[simp] theorem cpuTake_mor (s : State) (k c : Nat) : (cpuTake s k c).mor = s.mor := by
  unfold cpuTake
  dsimp only
  repeat' split
  all_goals simp

@[simp] theorem rxTake_mor (s : State) (m f p : Nat) (qs : List Nat) (owns : List Bool) :
    (rxTake s m f p qs owns).mor = s.mor := by
  unfold rxTake
  dsimp only
  repeat' split
  all_goals simp [rxWaitShare, rxWaitPool, rxWaitRing]

@[simp] theorem rxBegin_mor (s : State) (m : Nat) (own own2 : Bool) : (rxBegin s m own own2).mor = s.mor := by
  unfold rxBegin
  dsimp only
  repeat' split
  all_goals simp

@[simp] theorem rxFinish_mor (s : State) (m g : Nat) (d : Deliv) : (rxFinish s m g d).mor = s.mor := by simp [rxFinish]

@[simp] theorem execRxDelivery_mor (k c t : Nat) (own own2 : Bool) (err : Option Nat) (s : State) :
    (after (execRxDelivery k c t own own2 err s) s).mor = s.mor := by
  simp only [execRxDelivery]
  repeat' split
  all_goals simp

@[simp] theorem priSend_mor (s : State) (f : Nat) : (priSend s f).mor = s.mor := by simp [priSend]

@[simp] theorem transFail_mor (s : State) (f q : Nat) (rx : Bool) (addr : Nat) :
    (transFail s f q rx addr).mor = s.mor := by
  simp [transFail]

@[simp] theorem priNext_mor (s : State) (f : Nat) : (priNext s f).mor = s.mor := by
  unfold priNext
  split <;> simp

@[simp] theorem execPageRequestResponse_mor (f q : Nat) (rx ok : Bool) (s : State) :
    (after (execPageRequestResponse f q rx ok s) s).mor = s.mor := by
  simp only [execPageRequestResponse]
  repeat' split
  all_goals simp

@[simp] theorem dropStamps_mor (s : State) (f : Nat) : (dropStamps s f).mor = s.mor := by
  simp only [dropStamps]
  rw [foldl_mor fun _ _ => by rw [wr_mor]]

@[simp] theorem flr_mor (s : State) (f : Nat) : (flr s f).mor = s.mor := by simp [flr, flrOne]

/-! ### Commits -/

@[simp] theorem putGroup_mor (s : State) (g : Nat) (x : GroupSt) : (putGroup s g x).mor = s.mor := by simp [putGroup]

@[simp] theorem pageClose_mor (s : State) (p : Page) : (pageClose s p).mor = s.mor := by
  unfold pageClose
  split <;> simp [segClose, sknClose, clsClose, filClose]

@[simp] theorem pageApplied_mor (old : State) (n : Nat) (s : State) (p : Page) :
    (pageApplied old n s p).mor = s.mor := by
  unfold pageApplied
  split <;> simp

@[simp] theorem settleFor_mor (s : State) (p : Page) : (settleFor s p).mor = s.mor := by
  unfold settleFor
  split <;> simp

@[simp] theorem applyPages_mor (s : State) (ps : List Page) (n : Nat) : (applyPages s ps n).mor = s.mor := by
  simp [applyPages, takeLatched]

@[simp] theorem noteSleepDue_mor (n : Nat) (s : State) (p : Page) : (noteSleepDue n s p).mor = s.mor := by
  unfold noteSleepDue
  split <;> simp

@[simp] theorem wakeCommits_mor (s : State) (h : Nat) : (wakeCommits s h).mor = s.mor := by simp [wakeCommits]

@[simp] theorem takeAt_mor (s : State) (p : Page) (atEn : Bool) (at16 : Nat) :
    (takeAt s p atEn at16).mor = s.mor := by
  simp [takeAt]

@[simp] theorem commitGo_mor (s : State) (p : Page) (atEn : Bool) (at16 : Nat) :
    (commitGo s p atEn at16).mor = s.mor := by
  simp [commitGo, commitRequest]

@[simp] theorem commitCancel_mor (s : State) (p : Page) (atEn : Bool) (at16 : Nat) :
    (commitCancel s p atEn at16).mor = s.mor := by
  simp [commitCancel]

/-! ### Error containment -/

@[simp] theorem execCeRateCheck_mor (c n : Nat) (s : State) : (after (execCeRateCheck c n s) s).mor = s.mor := by
  simp only [execCeRateCheck]
  split <;> simp

@[simp] theorem execSpareCopyDone_mor (lines : Nat) (bad : List Nat) (s : State) :
    (after (execSpareCopyDone lines bad s) s).mor = s.mor := by
  simp [execSpareCopyDone, copyLines, poisonLine]

@[simp] theorem putRun_mor (s : State) (p n : Nat) : (putRun s p n).mor = s.mor := by simp [putRun]
@[simp] theorem retrain_mor (s : State) (p : Nat) : (retrain s p).mor = s.mor := by simp [retrain]
@[simp] theorem rearm_mor (s : State) (f : Nat) : (rearm s f).mor = s.mor := by simp [rearm]

/-! ### Levels and throttling -/

@[simp] theorem putThrottle_mor (s : State) (p : Nat) (x : Throttle) : (putThrottle s p x).mor = s.mor := by
  simp [putThrottle]

@[simp] theorem putSeq_mor (s : State) (p : Nat) (x : Option LevelSeq) : (putSeq s p x).mor = s.mor := by
  simp [putSeq]

@[simp] theorem switchClock_mor (s : State) (p l : Nat) : (switchClock s p l).mor = s.mor := by simp [switchClock]
@[simp] theorem seqStart_mor (s : State) (p l : Nat) : (seqStart s p l).mor = s.mor := by simp [seqStart, requestMv]
@[simp] theorem relevel_mor (old s : State) (p : Nat) : (relevel old s p).mor = s.mor := by simp [relevel]
@[simp] theorem seqEnd_mor (s : State) (p l : Nat) : (seqEnd s p l).mor = s.mor := by simp [seqEnd]

@[simp] theorem execAvsAck_mor (p : Nat) (s : State) : (after (execAvsAck p s) s).mor = s.mor := by
  simp only [execAvsAck]
  split <;> simp

@[simp] theorem execAvsTimeout_mor (p t : Nat) (s : State) : (after (execAvsTimeout p t s) s).mor = s.mor := by
  simp only [execAvsTimeout]
  split <;> simp

@[simp] theorem lowerPanel_mor (s : State) (p : Nat) (kinds : List Nat) : (lowerPanel s p kinds).mor = s.mor := by
  simp [lowerPanel]

@[simp] theorem execSensorScan_mor (t : Nat) (temps : List Int) (volts : List Nat) (s : State) :
    (after (execSensorScan t temps volts s) s).mor = s.mor := by
  simp [execSensorScan, calmTimes, scanPanel]

/-! ### Soft resets -/

@[simp] theorem softRequest_mor (s : State) (atEn : Bool) (at16 : Nat) : (softRequest s atEn at16).mor = s.mor := by
  unfold softRequest
  dsimp only
  repeat' split
  all_goals simp

@[simp] theorem softClose_mor (s : State) : (softClose s).mor = s.mor := by
  unfold softClose
  split <;> simp

@[simp] theorem transmitClear_mor (mine : Nat → Bool) (s : State) : (transmitClear mine s).mor = s.mor := rfl
@[simp] theorem clearTransmit_mor (s : State) : (clearTransmit s).mor = s.mor := by simp [clearTransmit]
@[simp] theorem softHoop_mor (s : State) (h : Nat) : (softHoop s h).mor = s.mor := by simp [softHoop]

/-! ### Events that the shells hold -/

@[simp] theorem eventAwake_mor (s : State) (p : Page) (f : Field) {act : State → State}
    (h : ∀ s, (act s).mor = s.mor) :
    (eventAwake s p f act).mor = s.mor := by
  simp [eventAwake, h]

@[simp] theorem cntClear_mor (s : State) (p : Page) : (cntClear s p).mor = s.mor := by
  unfold cntClear
  split <;> simp [rsxCntClr]

@[simp] theorem execCntClr_mor (a : Nat) (s : State) : (after (execCntClr a s) s).mor = s.mor := by
  unfold execCntClr
  split <;> simp

@[simp] theorem fenceReq_mor (s : State) (p : Page) : (fenceReq s p).mor = s.mor := by
  unfold fenceReq
  split <;> simp [bobFenceReq, fnFenceReq]

@[simp] theorem execFenceReq_mor (a : Nat) (s : State) : (after (execFenceReq a s) s).mor = s.mor := by
  unfold execFenceReq
  split <;> simp

@[simp] theorem fenceRelease_mor (s : State) (p : Page) : (fenceRelease s p).mor = s.mor := by
  unfold fenceRelease
  dsimp only
  repeat' split
  all_goals simp [chRelease, hoopRelease, aldRelease]

@[simp] theorem execFenceRelease_mor (a : Nat) (s : State) : (after (execFenceRelease a s) s).mor = s.mor := by
  unfold execFenceRelease
  split <;> simp

@[simp] theorem reachValue_mor (s : State) (p : Page) (f : Field) (v : Nat) : (reachValue s p f v).mor = s.mor := by
  unfold reachValue
  split <;> simp [chkReach, perfNote]

@[simp] theorem hoopEvent_mor (s : State) (p : Page) (f : Field) : (hoopEvent s p f).mor = s.mor := by
  unfold hoopEvent
  simp only [mor_ite]
  repeat' split
  all_goals simp [sknGo]

/-- What an item that reaches the page keeps of the Mordant is what its event keeps. -/
theorem reachItem_keeps {α : Type} {π : MorSt → α} {event : State → Field → State}
    (h : ∀ s f, π (event s f).mor = π s.mor) (s : State) (p : Page) (x : Xing) :
    π (reachItem event s p x).mor = π s.mor := by
  unfold reachItem; dsimp only
  repeat' split
  all_goals simp [h]

@[simp] theorem pageDeliver_mor (s : State) (p : Page) : (pageDeliver s p).mor = s.mor := by
  rw [pageDeliver, foldl_mor fun s x => reachItem_keeps (π := id) (fun s f => hoopEvent_mor s p f) s p x,
    putXing_mor]

/-! ### Sleep and wake -/

@[simp] theorem startEntry_mor (s : State) (h : Nat) (h2 : Bool) : (startEntry s h h2).mor = s.mor := by
  simp [startEntry]

@[simp] theorem portsDown_mor (s : State) (h : Nat) : (portsDown s h).mor = s.mor := by simp [portsDown]
@[simp] theorem startH2_mor (s : State) (h : Nat) : (startH2 s h).mor = s.mor := by simp [startH2]
@[simp] theorem h2Request_mor (s : State) (h : Nat) : (h2Request s h).mor = s.mor := by simp [h2Request]

@[simp] theorem hoopRuns_mor (s : State) (h : Nat) : (hoopRuns s h).mor = s.mor := by
  simp [hoopRuns, scanResume, wakeSoft, hoopDeliver]

@[simp] theorem abortEntry_mor (s : State) (h code : Nat) : (abortEntry s h code).mor = s.mor := by simp [abortEntry]
@[simp] theorem putDet_mor (s : State) (n : Nat) (x : Detector) : (putDet s n x).mor = s.mor := by simp [putDet]
@[simp] theorem armDetector_mor (s : State) (n : Nat) : (armDetector s n).mor = s.mor := by simp [armDetector]

@[simp] theorem enterH2_mor (s : State) (h : Nat) : (enterH2 s h).mor = s.mor := by
  rw [enterH2, bump_mor, wr_mor, foldl_mor laneDown_mor, wr_mor, scanSettle_mor, transmitClear_mor,
    foldl_mor armDetector_mor]

@[simp] theorem hoopAnswer_mor (s : State) (h : Nat) : (hoopAnswer s h).mor = s.mor := by
  unfold hoopAnswer
  split <;> simp [completeEntry]

@[simp] theorem wakeHoop_mor (s : State) (h code : Nat) : (wakeHoop s h code).mor = s.mor := by
  unfold wakeHoop
  split <;> simp [wakeH1]

@[simp] theorem padRelease_mor (s : State) (h : Nat) : (padRelease s h).mor = s.mor := by simp [padRelease]
@[simp] theorem putD3_mor (s : State) (x : D3Stage) : (putD3 s x).mor = s.mor := by simp [putD3]

@[simp] theorem d3Abort_mor (s : State) (code hoop : Nat) : (d3Abort s code hoop).mor = s.mor := by
  simp only [d3Abort]
  split
  · rw [stick_mor, bump_mor, countSat_mor, wr_mor, wr_mor, foldl_mor fun _ _ => wr_mor ..]
  · rfl

@[simp] theorem wholeH2_mor (s : State) (h : Nat) : (wholeH2 s h).1.mor = s.mor := by
  unfold wholeH2
  dsimp only
  repeat' split
  all_goals simp

@[simp] theorem sleepRecord_mor (s : State) : (sleepRecord s).mor = s.mor := by simp [sleepRecord]

@[simp] theorem d3Answer_mor (s : State) : (d3Answer s).mor = s.mor := by
  unfold d3Answer
  split
  · split
    · split <;> next heq => simp [mor_of_eq heq]
    · split
      · simp
      · split
        · simp
        · split <;> simp
  · rfl

@[simp] theorem restoreTime_mor (s : State) (ledger : Nat) : (restoreTime s ledger).mor = s.mor := by
  unfold restoreTime
  split <;> simp

@[simp] theorem softLate_mor (s : State) : (softLate s).mor = s.mor := by
  unfold softLate
  split <;> simp

@[simp] theorem seen_mor (s : State) (src : Nat) : (seen s src).mor = s.mor := by simp [seen]

@[simp] theorem wakeSource_mor (s : State) (src detail ledger : Nat) :
    (wakeSource s src detail ledger).mor = s.mor := by
  unfold wakeSource
  split <;> simp [d3Wake]

@[simp] theorem devicePads_mor (s : State) : (devicePads s).mor = s.mor := by simp [devicePads]

/-! ### Resets of hoops and functions -/

@[simp] theorem bootCopies_mor (s : State) (b : BootPins) : (bootCopies s b).mor = s.mor := by simp [bootCopies]
@[simp] theorem bootRole_mor (s : State) (sel : Bool) : (bootRole s sel).mor = s.mor := by simp [bootRole]
@[simp] theorem bootLanes_mor (s : State) : (bootLanes s).mor = s.mor := by simp [bootLanes]
@[simp] theorem tripSticky_mor (s : State) (trip : Bool) : (tripSticky s trip).mor = s.mor := by simp [tripSticky]
@[simp] theorem functionReset_mor (s : State) (f : Nat) : (functionReset s f).mor = s.mor := by simp [functionReset]

@[simp] theorem execHoopResetDone_mor (h : Nat) (s : State) : (after (execHoopResetDone h s) s).mor = s.mor := by
  simp [execHoopResetDone, hoopReset, hoopClear, hoopTransmit]

/-! ### Indirect tables -/

@[simp] theorem putPair_mor (s : State) (p : Page) (x : IndSt) : (putPair s p x).mor = s.mor := by simp [putPair]
@[simp] theorem indAdvance_mor (s : State) (p : Page) : (indAdvance s p).mor = s.mor := by simp [indAdvance]
@[simp] theorem indFail_mor (s : State) (p : Page) (err : Nat) : (indFail s p err).mor = s.mor := by simp [indFail]

@[simp] theorem fetchEntry_mor (s : State) (p : Page) (n e : Nat) (sp : Space) :
    (fetchEntry s p n e sp).2.mor = s.mor := by
  unfold fetchEntry
  split <;> simp

@[simp] theorem fifoPop_mor (s : State) (p : Page) : (fifoPop s p).mor = s.mor := by
  unfold fifoPop
  split <;> simp [capPop]

@[simp] theorem fetchErrs_mor (s : State) (p : Page) (errs : List MemErr) : (fetchErrs s p errs).mor = s.mor := by
  simp [fetchErrs]

@[simp] theorem fetchDone_mor (s : State) (p : Page) : (fetchDone s p).mor = s.mor := by
  unfold fetchDone
  dsimp only
  repeat' split
  all_goals simp

@[simp] theorem fifoRead_mor (s : State) (p : Page) (n : Nat) : (fifoRead s p n).2.mor = s.mor := by
  unfold fifoRead
  split <;> simp

@[simp] theorem tableRead_mor (s : State) (p : Page) (n : Nat) (sp : Space) : (tableRead s p n sp).2.mor = s.mor := by
  unfold tableRead
  dsimp only
  repeat' split
  all_goals simp

@[simp] theorem indRead_mor (s : State) (p : Page) : (indRead s p).2.mor = s.mor := by
  unfold indRead
  dsimp only
  repeat' split
  all_goals simp

@[simp] theorem entryRewrite_mor (s : State) (p : Page) (n e : Nat) : (entryRewrite s p n e).mor = s.mor := by
  simp [entryRewrite]

@[simp] theorem putEntryWords_mor (s : State) (p : Page) (n e : Nat) (sp : Space) (ws : List Nat) :
    (putEntryWords s p n e sp ws).mor = s.mor := by
  unfold putEntryWords
  dsimp only
  split
  · rw [entryRewrite_mor, foldl_mor fun _ _ => putWordS_mor ..]
  · exact foldl_mor (fun _ _ => putWord_mor ..) _ _

@[simp] theorem writeEntry_mor (s : State) (p : Page) (n e : Nat) (sp : Space) (ws : List Nat) :
    (writeEntry s p n e sp ws).1.mor = s.mor := by
  unfold writeEntry
  split <;> simp [segWrite, syncRecord, putRuleCounter]

@[simp] theorem landWrite_mor (s : State) (p : Page) : (landWrite s p).mor = s.mor := by
  unfold landWrite
  dsimp only
  repeat' split
  all_goals simp [writeFail]

@[simp] theorem landAll_mor (s : State) (p : Page) : (landAll s p).mor = s.mor := by simp [landAll]

@[simp] theorem indWrite_mor (s : State) (p : Page) (v : Nat) : (indWrite s p v).mor = s.mor := by
  unfold indWrite
  dsimp only
  repeat' split
  all_goals simp [stageWord]

@[simp] theorem indClear_mor (s : State) (p : Page) : (indClear s p).mor = s.mor := by simp [indClear]

@[simp] theorem indCtrl_mor (s : State) (p : Page) (space step : Nat) (dir : Bool) :
    (indCtrl s p space step dir).mor = s.mor := by
  simp [indCtrl, stepCheck]

@[simp] theorem indAddrWrite_mor (s : State) (p : Page) (a : Nat) : (indAddrWrite s p a).mor = s.mor := by
  simp [indAddrWrite]

@[simp] theorem onPage_mor (s : State) (a : Nat) {f : Page → State} (h : ∀ p, (f p).mor = s.mor) :
    (onPage s a f).mor = s.mor := by
  unfold onPage
  split <;> simp [h]

@[simp] theorem answer_mor (r : Nat × State) : (answer r).mor = r.2.mor := rfl

@[simp] theorem execIndFetchDone_mor (a : Nat) (errs : List MemErr) (s : State) :
    (after (execIndFetchDone a errs s) s).mor = s.mor := by
  exact onPage_mor s a fun p => by rw [fetchDone_mor, fetchErrs_mor]

@[simp] theorem mapCommand_mor (s : State) (p : Page) (n e cmd : Nat) : (mapCommand s p n e cmd).mor = s.mor := by
  unfold mapCommand
  split <;> simp

/-! ### Registers -/

@[simp] theorem msixWrite_mor (s : State) (f off x : Nat) : (msixWrite s f off x).mor = s.mor := by simp [msixWrite]
@[simp] theorem noteUnmapped_mor (s : State) (a : Nat) : (noteUnmapped s a).mor = s.mor := by simp [noteUnmapped]

@[simp] theorem readReg_mor (s : State) (a : Nat) : (readReg s a).2.mor = s.mor := by
  unfold readReg
  split <;> simp

@[simp] theorem periodIssue_mor (s : State) (ns t : Nat) : (periodIssue s ns t).mor = s.mor := by simp [periodIssue]

@[simp] theorem periodRequest_mor (s : State) (ns : Nat) : (periodRequest s ns).mor = s.mor := by
  unfold periodRequest
  dsimp only
  repeat' split
  all_goals simp [periodRefuse]

@[simp] theorem storeValue_mor (s : State) (p : Page) (f : Field) (v : Nat) : (storeValue s p f v).mor = s.mor := by
  unfold storeValue
  split <;> simp [sendSplit, sendValue]

@[simp] theorem ownerFixed_mor (s : State) (p : Page) (off v : Nat) : (ownerFixed s p off v).mor = s.mor := by
  simp [ownerFixed]

@[simp] theorem writeField_mor (s : State) (p : Page) (f : Field) (v : Nat) (pl : Plane) :
    (writeField s p f v pl).mor = s.mor := by
  unfold writeField
  simp only [mor_ite]
  repeat' split
  all_goals simp [ownerRefuse, clearBits]

@[simp] theorem writeCommit_mor (s : State) (p : Page) (v : Nat) : (writeCommit s p v).mor = s.mor := by
  simp [writeCommit, setPageGroup]

@[simp] theorem writeDoorbell_mor (s : State) (f off v : Nat) : (writeDoorbell s f off v).mor = s.mor := by
  simp [writeDoorbell]

@[simp] theorem badAccess_mor (s : State) (a : Nat) : (badAccess s a).mor = s.mor := by
  unfold badAccess
  split
  · simp
  · split <;> simp

@[simp] theorem execMalformedAccess_mor (a : Nat) (k : BadAccess) (s : State) :
    (after (execMalformedAccess a k s) s).mor = s.mor := by
  unfold execMalformedAccess
  dsimp only
  repeat' split
  all_goals simp

@[simp] theorem voteLost_mor (s : State) (p : Page) : (voteLost s p).mor = s.mor := by
  simp only [voteLost]
  split
  · rw [chFence_mor, stick_mor, wr_mor]
  · rw [fatalReport_mor, stick_mor, wr_mor]

@[simp] theorem scrub_mor (s : State) (p : Page) (f : Field) (active : Bool) (u : Vote) :
    (scrub s p f active u).mor = s.mor := by
  unfold scrub
  dsimp only
  repeat' split
  all_goals simp

@[simp] theorem execScrubVisit_mor (a lo : Nat) (active : Bool) (u : Vote) (s : State) :
    (after (execScrubVisit a lo active u s) s).mor = s.mor := by
  refine onPage_mor s a fun p => ?_
  split <;> simp

/-! ### Closes and boundaries -/

@[simp] theorem closeStitch_mor (s : State) : (closeStitch s).mor = s.mor := by
  simp [closeStitch, commitClose, latchShadows]

@[simp] theorem applyPeriod_mor (s : State) : (applyPeriod s).mor = s.mor := by
  unfold applyPeriod
  split <;> simp

@[simp] theorem periodFollow_mor (s : State) : (periodFollow s).mor = s.mor := by
  unfold periodFollow
  split <;> simp

@[simp] theorem boundaryStep1_mor (s : State) : (boundaryStep1 s).mor = s.mor := by
  simp [boundaryStep1, retagAll, segFree, levelsApplied, commitApply]

@[simp] theorem boundaryStep4_mor (s : State) : (boundaryStep4 s).mor = s.mor := by
  simp [boundaryStep4, bobStep4, bobStitch, startRun]

@[simp] theorem boundaryStep5_mor (s : State) : (boundaryStep5 s).mor = s.mor := by simp [boundaryStep5]

@[simp] theorem boundarySteps2to5_mor (s : State) : (boundarySteps2to5 s).mor = s.mor := by
  simp [boundarySteps2to5, cqfStep, boundaryStep2]

@[simp] theorem softBoundary_mor (s : State) : (softBoundary s).mor = s.mor := by
  simp [softBoundary, softStart, dropFrames]

@[simp] theorem execStitchBoundary_mor (errs : List (Nat × MemErr)) (s : State) :
    (after (execStitchBoundary errs s) s).mor = s.mor := by
  simp [execStitchBoundary, runBoundary, stitchAdvance, startWanted, auditStart]

end Sys2Proof.Machine
end

section
/-! The life cycle (R558 to R560, R566): no command unburns a fuse, and only the burn of a TRANSITION changes the
state. -/

namespace Sys2Proof.Machine

open Sys2Proof.Safety

/-! ### Bits of numbers and of hashes -/

theorem bit_eq_testBit (w i : Nat) : bit w i = w.testBit i := by
  rw [bit, Nat.testBit_eq_decide_div_mod_eq]
  rfl

/-- A bit that is set leaves the others as they were. -/
theorem bit_setBit_true (w i j : Nat) : bit (setBit w i true) j = (bit w j || decide (i = j)) := by
  have hw : setBit w i true = 2 ^ (i + 1) * (w / 2 ^ (i + 1)) + (2 ^ i * 1 + w % 2 ^ i) := by
    simp [setBit, setBits, b2n, Nat.mul_comm, Nat.add_assoc]
  have hlow : w % 2 ^ i < 2 ^ i := Nat.mod_lt _ (by positivity)
  have hmid : 2 ^ i * 1 + w % 2 ^ i < 2 ^ (i + 1) := by omega
  rw [bit_eq_testBit, bit_eq_testBit, hw, Nat.testBit_two_pow_mul_add _ hmid, Nat.testBit_two_pow_mul_add _ hlow,
    Nat.testBit_div_two_pow, Nat.testBit_mod_two_pow]
  rcases Nat.lt_trichotomy i j with h | rfl | h
  · have hj : j - (i + 1) + (i + 1) = j := by omega
    simp [hj, h.ne, show ¬ j < i + 1 by omega]
  · simp
  · simp [h, h.ne', show j < i + 1 by omega]

theorem wordsNat_leWords (n x : Nat) : wordsNat (leWords n x) = x % 2 ^ (32 * n) := by
  induction n generalizing x with
  | zero => simp [leWords, wordsNat, Nat.mod_one]
  | succ n ih => rw [leWords, wordsNat, ih, Nat.mod_mod, Nat.mul_succ, Nat.add_comm (32 * n), Nat.pow_add, Nat.mod_mul]

/-- Every bit of a hash that is burned stays burned. -/
def hashKept (old new : List Nat) : Prop := ∀ b < 384, bit (wordsNat old) b = true → bit (wordsNat new) b = true

/-- Every burned bit of every key slot stays burned. -/
def slotsKept (t u : Tab (List Nat)) : Prop := ∀ k, hashKept (tabGet t [] k) (tabGet u [] k)

theorem hashKept_burnHash (old new : List Nat) (burned : Nat → Bool) : hashKept old (burnHash old new burned) := by
  intro b hb h
  have hn := List.foldlRecOn (List.range 384)
    (fun n b => if bit (wordsNat new) b && burned b then n ||| 2 ^ b else n)
    (b := wordsNat old) (motive := fun n => bit n b = true) h fun n hn c _ => by
      split
      · rw [bit_eq_testBit, Nat.testBit_or, ← bit_eq_testBit, hn, Bool.true_or]
      · exact hn
  unfold burnHash
  dsimp only
  split
  · next h0 =>
    rw [h0] at hn
    simp [bit] at hn
  · rw [wordsNat_leWords, bit_eq_testBit, Nat.testBit_mod_two_pow, ← bit_eq_testBit, hn]
    simpa using hb

theorem slotsKept_refl (t : Tab (List Nat)) : slotsKept t t := fun _ _ _ h => h

theorem slotsKept_trans {t u v : Tab (List Nat)} (h₁ : slotsKept t u) (h₂ : slotsKept u v) : slotsKept t v :=
  fun k b hb h => h₂ k b hb (h₁ k b hb h)

theorem slotsKept_put {t : Tab (List Nat)} {k : Nat} {v : List Nat} (h : hashKept (tabGet t [] k) v) :
    slotsKept t (tabPut t [] k v) := by
  intro j
  by_cases hj : j = k
  · subst hj
    rwa [tabGet_put_same]
  · rw [tabGet_put_other _ _ _ _ hj]
    exact slotsKept_refl t j

/-! ### Fuses that stand -/

/-- No fuse of `m` is unburned in `n` (R558, R565 to R567). -/
structure BankKept (m n : MorSt) : Prop where
  t : ∀ b, bit m.t b = true → bit n.t b = true
  role : m.role ≤ n.role
  arb : m.arb ≤ n.arb
  lanes : m.lanes <+: n.lanes
  log : m.log <+: n.log
  revoked : ∀ k, tabGet m.revoked false k = true → tabGet n.revoked false k = true
  keys : slotsKept m.keys n.keys
  debugKey : hashKept m.debugKey n.debugKey

theorem BankKept.refl (m : MorSt) : BankKept m m :=
  ⟨fun _ h => h, le_rfl, le_rfl, List.prefix_rfl, List.prefix_rfl, fun _ h => h, slotsKept_refl _, fun _ _ h => h⟩

theorem BankKept.trans {l m n : MorSt} (h₁ : BankKept l m) (h₂ : BankKept m n) : BankKept l n where
  t b h := h₂.t b (h₁.t b h)
  role := h₁.role.trans h₂.role
  arb := h₁.arb.trans h₂.arb
  lanes := h₁.lanes.trans h₂.lanes
  log := h₁.log.trans h₂.log
  revoked k h := h₂.revoked k (h₁.revoked k h)
  keys k b hb h := h₂.keys k b hb (h₁.keys k b hb h)
  debugKey b hb h := h₂.debugKey b hb (h₁.debugKey b hb h)

theorem fusesKept_of_bankKept {s u : State} (h : BankKept s.mor u.mor) : fusesKept s u :=
  ⟨h.t, h.role, h.arb, h.lanes, h.log, h.revoked, h.keys, h.debugKey⟩

/-- The fuses and their log alone: the Mordant without its request, its grant, the flash and what has no entry yet. -/
def fuseBank (m : MorSt) : MorSt :=
  { m with lost := [], req := none, resetDue := none, served := 0, grant := false, flash := [] }

/-- No fuse is unburned, and no transition bit burns. -/
structure LifeKept (m n : MorSt) : Prop where
  same : n.t = m.t
  kept : BankKept m n

theorem LifeKept.refl (m : MorSt) : LifeKept m m := ⟨rfl, .refl m⟩

theorem LifeKept.trans {l m n : MorSt} (h₁ : LifeKept l m) (h₂ : LifeKept m n) : LifeKept l n :=
  ⟨h₂.same.trans h₁.same, h₁.kept.trans h₂.kept⟩

theorem LifeKept.of_fuseBank {m n : MorSt} (h : fuseBank n = fuseBank m) : LifeKept m n := by
  simp only [fuseBank, MorSt.mk.injEq, and_true] at h
  obtain ⟨ht, hrole, hkeys, hrev, hdebug, harb, hlanes, hlog⟩ := h
  refine ⟨ht, fun b hb => ht ▸ hb, hrole.ge, harb.ge, hlanes ▸ List.prefix_rfl, hlog ▸ List.prefix_rfl,
    fun k hk => hrev ▸ hk, hkeys ▸ fun _ _ _ hb => hb, hdebug ▸ fun _ _ hb => hb⟩

theorem LifeKept.of_eq {m n : MorSt} (h : n = m) : LifeKept m n := h ▸ .refl m

/-! ### The state of the life cycle (R558) -/

theorem lt_morState_of_bit {s : State} {n : Nat} (hn : n < 5) (h : bit s.mor.t n = true) : n < morState s := by
  unfold morState
  interval_cases n <;> simp only [h] <;> split_ifs <;> decide

theorem morState_of_top {s : State} {n : Nat} (hn : n < 5) (h : bit s.mor.t n = true)
    (above : ∀ m < 5, n < m → bit s.mor.t m = false) : morState s = n + 1 := by
  unfold morState
  interval_cases n <;> simp [h, above]

theorem morState_of_clear {s : State} (h : ∀ n < 5, bit s.mor.t n = false) : morState s = 0 := by
  simp [morState, h]

theorem morState_congr {s u : State} (h : ∀ n < 5, bit u.mor.t n = bit s.mor.t n) : morState u = morState s := by
  simp [morState, h]

theorem four_le_morState_iff (s : State) : 4 ≤ morState s ↔ bit s.mor.t 3 = true ∨ bit s.mor.t 4 = true := by
  unfold morState
  split_ifs <;> simp_all

/-- Every row of Table 18.1 leads forward. -/
theorem lt_of_transitionOk {m a : Nat} (h : transitionOk m a = true) : m < a ∧ a ≤ 5 := by
  unfold transitionOk at h
  split at h <;> simp at h <;> omega

/-! ### Burns (R560, R565, R566) -/

theorem slotsKept_burnSlots (burned : Nat → Nat → Bool) (ks : List Nat) (t : Tab (List Nat)) :
    slotsKept t (ks.foldl (fun t k => tabPut t [] k (burnHash (tabGet t [] k) allOnes (burned k))) t) :=
  ks.foldlRecOn _ (motive := slotsKept t) (slotsKept_refl t) fun _ ht _ _ =>
    slotsKept_trans ht (slotsKept_put (hashKept_burnHash _ _ _))

theorem revoked_burnSlots (burned : Nat → Bool) (ks : List Nat) {t : Tab Bool} {j : Nat} (h : tabGet t false j = true) :
    tabGet (ks.foldl (fun t k => if burned k then tabPut t false k true else t) t) false j = true := by
  refine ks.foldlRecOn _ (motive := fun t => tabGet t false j = true) h fun t ht k _ => ?_
  split
  · by_cases hj : j = k
    · rw [hj, tabGet_put_same]
    · rwa [tabGet_put_other _ _ _ _ hj]
  · exact ht

theorem bankKept_keys {m : MorSt} {keys : Tab (List Nat)} {rev : Tab Bool} {debug : List Nat}
    (hkeys : slotsKept m.keys keys) (hrev : ∀ k, tabGet m.revoked false k = true → tabGet rev false k = true)
    (hdebug : hashKept m.debugKey debug) :
    BankKept m { m with keys := keys, revoked := rev, debugKey := debug } :=
  { BankKept.refl m with revoked := hrev, keys := hkeys, debugKey := hdebug }

/-- Entering RETURN burns bits and unburns none. -/
theorem bankKept_eraseKeys (m : MorSt) (burned : Nat → Bool) : BankKept m (eraseKeys m burned) :=
  bankKept_keys (slotsKept_burnSlots (fun k b => burned (1 + 384 * k + b)) _ _)
    (fun _ h => revoked_burnSlots (fun k => burned (1 + 384 * 10 + k)) _ h) (hashKept_burnHash _ _ _)

theorem bankKept_setBit {m n : MorSt} (i : Nat) (h : BankKept m n) :
    BankKept m { n with t := setBit m.t i true } :=
  { h with t := fun b hb => by simp [bit_setBit_true, hb] }

/-- No burn unburns a fuse, whatever its OP and whichever of its bits burn. -/
theorem bankKept_morBurn (s : State) (op : Nat) (burned : Nat → Bool) : BankKept s.mor (morBurn s op burned) := by
  have stands := BankKept.refl s.mor
  unfold morBurn
  split <;> dsimp only
  · split_ifs
    · exact bankKept_setBit _ (bankKept_eraseKeys _ _)
    · exact bankKept_setBit _ stands
    · exact bankKept_eraseKeys _ _
    · exact stands
  · split_ifs
    · exact { stands with role := Nat.le_succ _ }
    · exact stands
  · exact bankKept_keys (slotsKept_put (hashKept_burnHash _ _ _)) stands.revoked stands.debugKey
  · exact bankKept_keys (slotsKept_put (hashKept_burnHash _ _ _)) stands.revoked stands.debugKey
  · exact { stands with arb := Nat.le_add_right _ _ }
  · split_ifs
    · exact stands
    · exact { stands with lanes := List.prefix_append _ _ }
  · exact bankKept_keys stands.keys stands.revoked (hashKept_burnHash _ _ _)
  · exact stands

/-- Of the transition bits a burn can add the one of the target, where its OP is TRANSITION. -/
theorem morBurn_t (s : State) (op : Nat) (burned : Nat → Bool) :
    (morBurn s op burned).t = s.mor.t ∨ op = 1 ∧ (morBurn s op burned).t = setBit s.mor.t (reqArg s 0 - 1) true := by
  unfold morBurn
  split
  · dsimp only
    split_ifs <;> simp [eraseKeys]
  · split_ifs <;> exact .inl rfl
  · exact .inl rfl
  · exact .inl rfl
  · exact .inl rfl
  · dsimp only
    split_ifs <;> exact .inl rfl
  · exact .inl rfl
  · exact .inl rfl

theorem transitionOk_of_morCheck {s : State} {cs : List FlashCopy} (h : morCheck s 1 cs = 0) :
    transitionOk (morState s) (reqArg s 0) = true := by
  have h3 : check3 s 1 = true := by
    by_contra h3
    simp only [Bool.not_eq_true] at h3
    unfold morCheck at h
    split_ifs at h
    simp_all
  simp only [check3, Bool.and_eq_true] at h3
  exact h3.2

/-- What a burn of the operation `op` does: no fuse is unburned, and a transition bit burns only for a TRANSITION of
Table 18.1, whose target it is. -/
structure BurnStep (s : State) (op : Nat) (u : State) : Prop where
  kept : BankKept s.mor u.mor
  enters : ∀ n < 5, bit s.mor.t n = false → bit u.mor.t n = true →
    op = 1 ∧ s.mor.req = some 1 ∧ morState u = n + 1 ∧ transitionOk (morState s) (n + 1) = true

theorem BurnStep.of_kept {s u : State} (op : Nat) (h : LifeKept s.mor u.mor) : BurnStep s op u :=
  ⟨h.kept, fun n _ h0 h1 => by simp [h.same, h0] at h1⟩

theorem BurnStep.then_kept {s t u : State} {op : Nat} (h₁ : BurnStep s op t) (h₂ : LifeKept t.mor u.mor) :
    BurnStep s op u := by
  refine ⟨h₁.kept.trans h₂.kept, fun n hn h0 h1 => ?_⟩
  rw [h₂.same] at h1
  rw [morState_congr (s := t) (u := u) fun m _ => by rw [h₂.same]]
  exact h₁.enters n hn h0 h1

/-- The burn of a request that passed the checks. -/
theorem burnStep_morBurn {s u : State} {op : Nat} {cs : List FlashCopy} {burned : Nat → Bool}
    (hreq : s.mor.req = some op) (h : morCheck s op cs = 0) (hu : u.mor = morBurn s op burned) : BurnStep s op u := by
  refine ⟨hu ▸ bankKept_morBurn s op burned, fun n hn h0 h1 => ?_⟩
  rcases morBurn_t s op burned with ht | ⟨rfl, ht⟩
  · simp [hu, ht, h0] at h1
  · rw [← hu] at ht
    have hok := transitionOk_of_morCheck h
    obtain ⟨hlt, -⟩ := lt_of_transitionOk hok
    have ha : reqArg s 0 = n + 1 := by
      simp only [ht, bit_setBit_true, h0, Bool.false_or, decide_eq_true_eq] at h1
      omega
    rw [ha] at hok hlt
    refine ⟨rfl, hreq, morState_of_top hn h1 fun m hm hnm => ?_, hok⟩
    have hclear : bit s.mor.t m = false := by
      by_contra hb
      have := lt_morState_of_bit hm (by simpa using hb)
      omega
    simp [ht, bit_setBit_true, hclear, ha, hnm.ne]

/-! ### Requests that start and end (R563, R564) -/

theorem morEnd_mor (s : State) (r : Nat) :
    (morEnd s r).mor = { s.mor with req := none, served := s.mor.served + 1 } := by
  simp [morEnd]

theorem fuseBank_morGo (s : State) : fuseBank (morGo s).mor = fuseBank s.mor := by
  unfold morGo
  dsimp only
  split_ifs
  · rw [stick_mor]
  · rw [morEnd_mor]
    rfl
  · rw [wr_mor]
    rfl

theorem fuseBank_trigger (s : State) (p : Page) (f : Field) (v : Nat) :
    fuseBank (trigger s p f v).mor = fuseBank s.mor := by
  unfold trigger
  repeat' split
  all_goals simp [fuseBank_morGo, execLatch, execReacq, execSwitchReq, execLeaveReq, execScRequest, execScAckWrite]

theorem fuseBank_raiseXing (s : State) (p : Page) (f : Field) (v : Nat) :
    fuseBank (raiseXing s p f v).mor = fuseBank s.mor := by
  unfold raiseXing
  split
  · exact fuseBank_trigger s p f v
  · rw [queueEvent_mor]

theorem fuseBank_foldl {α : Type} {f : State → α → State} (h : ∀ s x, fuseBank (f s x).mor = fuseBank s.mor)
    (l : List α) (s : State) : fuseBank (l.foldl f s).mor = fuseBank s.mor :=
  l.foldlRecOn f (motive := fun t => fuseBank t.mor = fuseBank s.mor) rfl fun t ht x _ => (h t x).trans ht

theorem fuseBank_writeWord (s : State) (p : Page) (off v : Nat) (pl : Plane) :
    fuseBank (writeWord s p off v pl).mor = fuseBank s.mor := by
  unfold writeWord
  extract_lets host dead fs part s₁ s₂ s₃
  have h₁ : s₁.mor = s.mor := by
    unfold s₁
    split
    · rw [ownerFixed_mor]
    · rfl
  have h₃ : fuseBank s₃.mor = fuseBank s.mor := by
    rw [fuseBank_foldl fun s f => fuseBank_raiseXing s p f (part f),
      foldl_mor fun s f => writeField_mor s p f (part f) pl, h₁]
  split_ifs
  · rfl
  · rw [writeCommit_mor]
  · rw [indAddrWrite_mor]
  · rfl
  · rw [indWrite_mor]
  · rfl
  · rw [indCtrl_mor]
  · rfl
  · split
    · rw [msixWrite_mor, rearm_mor]
      exact h₃
    · exact h₃
  · split
    · rw [msixWrite_mor]
      exact h₃
    · exact h₃

theorem fuseBank_writeReg (s : State) (a v : Nat) (pl : Plane) :
    fuseBank (writeReg s a v pl).mor = fuseBank s.mor := by
  unfold writeReg
  split
  · exact fuseBank_writeWord ..
  · split <;> simp

theorem fuseBank_onPage (s : State) (a : Nat) {f : Page → State} (h : ∀ p, fuseBank (f p).mor = fuseBank s.mor) :
    fuseBank (onPage s a f).mor = fuseBank s.mor := by
  unfold onPage
  split
  · exact h _
  · rfl

theorem fuseBank_deliver (s : State) (p : Page) : fuseBank (deliver s p).mor = fuseBank s.mor := by
  unfold deliver
  split
  · rfl
  · split
    · rfl
    · rw [reachItem_keeps fun s f => fuseBank_trigger s p f 1, putXing_mor]

theorem fuseBank_execCrossingDeliver (a : Nat) (s : State) :
    fuseBank (after (execCrossingDeliver a s) s).mor = fuseBank s.mor := by
  refine fuseBank_onPage s a fun p => ?_
  rw [fuseBank_deliver]
  split
  · rw [capCross_mor]
  · rfl

theorem fuseBank_execFirmwareReady (s : State) : fuseBank (after (execFirmwareReady s) s).mor = fuseBank s.mor := by
  unfold execFirmwareReady
  rw [after_next]
  split
  · rw [fuseBank_foldl, wr_mor]
    intro s e
    split
    · exact fuseBank_foldl (fun s _ => fuseBank_deliver s _) _ _
    · rfl
  · rfl

theorem fuseBank_execRegisterWrite (a v : Nat) (pl : Plane) (parity : Bool) (s : State) :
    fuseBank (after (execRegisterWrite a v pl parity s) s).mor = fuseBank s.mor := by
  unfold execRegisterWrite
  rw [after_next]
  split
  · exact fuseBank_onPage s a fun p => by rw [stick_mor]
  · exact fuseBank_writeReg s a v pl

theorem fuseBank_execSplitHiWrite (a v : Nat) (pl : Plane) (s : State) :
    fuseBank (after (execSplitHiWrite a v pl s) s).mor = fuseBank s.mor := by
  refine fuseBank_onPage s a fun p => ?_
  dsimp only
  split
  · exact fuseBank_writeWord ..
  · rfl

/-! ### Resets and the boot (R566, R568, R582) -/

/-- The log only grows (R567). -/
theorem lifeKept_morLog (s : State) (e : List Nat) : LifeKept s.mor (morLog s e).mor := by
  unfold morLog
  split
  · exact ⟨rfl, { BankKept.refl s.mor with log := List.prefix_append .. }⟩
  · exact .refl s.mor

theorem lifeKept_morRecover (s : State) : LifeKept s.mor (morRecover s).mor := by
  have hlog := s.mor.lost.foldlRecOn (motive := fun t : State => LifeKept s.mor t.mor)
    (fun s x =>
      let d := draw s 15 32
      morLog d.2 (morEntry d.2 true x.1 x.2.1 x.2.2 d.1))
    (.refl s.mor) fun t ht x _ => ht.trans (lifeKept_morLog (draw t 15 32).2 _)
  exact hlog.trans (.of_fuseBank rfl)

theorem lifeKept_boot (s : State) (b : BootPins) : LifeKept s.mor (boot s b).mor := by
  rw [boot, bootCopies_mor, bootRole_mor, bootLanes_mor]
  exact lifeKept_morRecover s

theorem lifeKept_survivors (s : State) : LifeKept s.mor (survivors s).mor := .of_fuseBank rfl

theorem lifeKept_coldReset (s : State) (b : BootPins) : LifeKept s.mor (coldReset s b).mor :=
  (lifeKept_survivors s).trans (lifeKept_boot (wr (survivors s) .glb Fld.GLB_RESET_CAUSE_CAUSE 1) b)

theorem lifeKept_warmState (s : State) (cause : Nat) : LifeKept s.mor (warmState s cause).mor := by
  unfold warmState
  rw [wr_mor]
  exact lifeKept_survivors s

theorem lifeKept_warmReset (s : State) (b : BootPins) (cause : Nat) : LifeKept s.mor (warmReset s b cause).mor :=
  (lifeKept_warmState s cause).trans (lifeKept_boot ..)

theorem lifeKept_execWarmReset (b : BootPins) (s : State) : LifeKept s.mor (after (execWarmReset b s) s).mor := by
  unfold execWarmReset
  split
  · exact .refl s.mor
  · rw [after_next]
    split
    · rw [tripSticky_mor]
      exact lifeKept_warmReset s b 3
    · exact .refl s.mor
  · split_ifs
    · exact .refl s.mor
    · exact .of_fuseBank rfl
    · exact lifeKept_warmReset s b 2

theorem lifeKept_execThermalTrip (s : State) : LifeKept s.mor (after (execThermalTrip s) s).mor := by
  unfold execThermalTrip
  split
  · extract_lets w
    have hw : w.mor = (warmState s 3).mor := tripSticky_mor ..
    clear_value w
    have hkept := lifeKept_warmState s 3
    rw [← hw] at hkept
    exact hkept
  · exact .refl s.mor

theorem lifeKept_morWaited (s : State) : LifeKept s.mor (morWaited s).mor := by
  unfold morWaited
  split
  · exact lifeKept_warmReset ..
  · exact .refl s.mor

theorem lifeKept_morEnd (s : State) (r : Nat) : LifeKept s.mor (morEnd s r).mor :=
  .of_fuseBank (by rw [morEnd_mor]; rfl)

/-! ### Requests that burn (R566) and power loss during a burn -/

theorem burnStep_morChange {s : State} {op : Nat} {cs : List FlashCopy} (hreq : s.mor.req = some op)
    (h : morCheck s op cs = 0) (burned : Nat → Bool) : BurnStep s op (morChange s op (morBurn s op burned)) := by
  unfold morChange
  split
  · exact .of_kept op (.refl s.mor)
  · exact (burnStep_morBurn (u := { s with mor := morBurn s op burned }) hreq h rfl).then_kept (lifeKept_morLog ..)

/-- A request runs to its end; what follows a verified change burns nothing more. -/
theorem burnStep_morRun (s : State) (op : Nat) (cs : List FlashCopy) (b : Burn) {next : State → State}
    (hnext : ∀ t, LifeKept t.mor (next t).mor) : BurnStep s op (morRun s op cs b next) := by
  unfold morRun
  split
  · exact .of_kept op (.refl s.mor)
  · next hreq =>
    split
    · next hcheck =>
      have hburn := burnStep_morChange (not_not.mp hreq) hcheck (burnedBits b)
      extract_lets t
      split
      · exact hburn.then_kept ((lifeKept_morEnd t 0).trans (hnext _))
      · exact hburn.then_kept ((lifeKept_morEnd t 7).trans (lifeKept_morWaited _))
    · exact .of_kept op ((lifeKept_morEnd s _).trans (lifeKept_morWaited _))

theorem burnStep_cutBurn (s : State) (bs : List Nat) : ∃ op, BurnStep s op (cutBurn s bs) := by
  unfold cutBurn
  split
  · exact ⟨0, .of_kept 0 (.refl s.mor)⟩
  · next op hreq =>
    refine ⟨op, ?_⟩
    extract_lets m t
    split
    · exact .of_kept op (.refl s.mor)
    · next h =>
      have hcheck : morCheck s op [] = 0 := by
        by_contra hne
        exact h (.inl hne)
      exact (burnStep_morBurn (u := t) hreq hcheck rfl).then_kept (.of_fuseBank rfl)

theorem burnStep_powerOff (s : State) (bs : List Nat) : ∃ op, BurnStep s op (powerOff s bs) := by
  obtain ⟨op, h⟩ := burnStep_cutBurn s bs
  exact ⟨op, h.then_kept (lifeKept_survivors (cutBurn s bs))⟩

/-! ### The obligation -/

/-- What O60 says of a command `c` that leads from `s` to `u`. -/
def lifeStep (c : Instr) (s u : State) : Prop :=
  fusesKept s u ∧
  (∀ n < 5, bit s.mor.t n = false → bit u.mor.t n = true →
    morState u = n + 1 ∧ transitionOk (morState s) (n + 1) = true ∧ morState s < n + 1 ∧ s.mor.req = some 1 ∧
    ((∃ b pins, c = .transition b pins) ∨ ∃ bs, c = .powerLoss bs ∨ c = .supplyRailFall bs)) ∧
  ((∀ n < 5, bit u.mor.t n = bit s.mor.t n) → morState u = morState s) ∧
  (4 ≤ morState s → 4 ≤ morState u)

theorem lifeStep_of_burnStep {c : Instr} {s u : State} {op : Nat} (h : BurnStep s op u)
    (hc : op = 1 → (∃ b pins, c = .transition b pins) ∨ ∃ bs, c = .powerLoss bs ∨ c = .supplyRailFall bs) :
    lifeStep c s u := by
  refine ⟨fusesKept_of_bankKept h.kept, fun n hn h0 h1 => ?_, morState_congr, fun h4 => ?_⟩
  · obtain ⟨hop, hreq, hstate, hok⟩ := h.enters n hn h0 h1
    exact ⟨hstate, hok, (lt_of_transitionOk hok).1, hreq, hc hop⟩
  · rw [four_le_morState_iff] at h4 ⊢
    exact h4.imp (h.kept.t 3) (h.kept.t 4)

theorem lifeStep_of_lifeKept {c : Instr} {s u : State} (h : LifeKept s.mor u.mor) : lifeStep c s u :=
  lifeStep_of_burnStep (.of_kept 0 h) fun h0 => absurd h0 (by decide)

theorem lifeStep_powerOff {c : Instr} {s : State} {bs : List Nat} (hc : c = .powerLoss bs ∨ c = .supplyRailFall bs) :
    lifeStep c s (powerOff s bs) := by
  obtain ⟨op, h⟩ := burnStep_powerOff s bs
  exact lifeStep_of_burnStep h fun _ => .inr ⟨bs, hc⟩

/-- The commands of the Mordant's requests but TRANSITION. -/
theorem lifeStep_request {c : Instr} {s : State} {op : Nat} {cs : List FlashCopy} {b : Burn} {next : State → State}
    (hc : exec c s = .next (morRun s op cs b next)) (hop : op ≠ 1) (hnext : ∀ t, LifeKept t.mor (next t).mor) :
    lifeStep c s (after (exec c s) s) := by
  rw [hc, after_next]
  exact lifeStep_of_burnStep (burnStep_morRun s op cs b hnext) fun h => absurd h hop

theorem lifeKept_openDebug (s : State) : LifeKept s.mor (openDebug s).mor :=
  .of_fuseBank (by simp [openDebug, fuseBank])

theorem lifeKept_flashWrite (s : State) : LifeKept s.mor (flashWrite s).mor := .of_fuseBank rfl

theorem lifeStep_exec (c : Instr) (s : State) : lifeStep c s (after (exec c s) s) := by
  cases c with
  | coldReset b => exact lifeStep_of_lifeKept (lifeKept_coldReset s b)
  | warmReset b => exact lifeStep_of_lifeKept (lifeKept_execWarmReset b s)
  | thermalTrip => exact lifeStep_of_lifeKept (lifeKept_execThermalTrip s)
  | firmwareReady => exact lifeStep_of_lifeKept (.of_fuseBank (fuseBank_execFirmwareReady s))
  | registerWrite a v pl parity =>
    exact lifeStep_of_lifeKept (.of_fuseBank (fuseBank_execRegisterWrite a v pl parity s))
  | splitHiWrite a v pl => exact lifeStep_of_lifeKept (.of_fuseBank (fuseBank_execSplitHiWrite a v pl s))
  | crossingDeliver a => exact lifeStep_of_lifeKept (.of_fuseBank (fuseBank_execCrossingDeliver a s))
  | transition b pins =>
    simp only [exec, execTransition, after_next]
    exact lifeStep_of_burnStep (burnStep_morRun s 1 [] b fun t => lifeKept_warmReset t pins 2)
      fun _ => .inl ⟨b, pins, rfl⟩
  | powerLoss bs => exact lifeStep_powerOff (.inl rfl)
  | supplyRailFall bs =>
    simp only [exec, execSupplyRailFall, after_next]
    split
    · exact lifeStep_of_lifeKept (.refl s.mor)
    · exact lifeStep_powerOff (.inr rfl)
  | role b pins => exact lifeStep_request rfl (by decide) fun t => lifeKept_warmReset t pins 2
  | keyInit b => exact lifeStep_request rfl (by decide) lifeKept_morWaited
  | keyRotate b copyA copyB => exact lifeStep_request rfl (by decide) lifeKept_morWaited
  | arbAdvance b copyA copyB => exact lifeStep_request rfl (by decide) lifeKept_morWaited
  | laneFuse b => exact lifeStep_request rfl (by decide) lifeKept_morWaited
  | debugKey b => exact lifeStep_request rfl (by decide) lifeKept_morWaited
  | debugGrant =>
    exact lifeStep_request rfl (by decide) fun t => (lifeKept_openDebug t).trans (lifeKept_morWaited _)
  | flashWrite =>
    exact lifeStep_request rfl (by decide) fun t => (lifeKept_flashWrite t).trans (lifeKept_morWaited _)
  | reboot pins => exact lifeStep_request rfl (by decide) fun t => lifeKept_warmReset t pins 2
  -- Every other command is made of operations that leave the Mordant alone.
  | _ =>
    refine lifeStep_of_lifeKept (.of_eq ?_)
    simp [exec, execPrkSyncDone, execFilSearch, execFilNext, execFilInsert, execFilDelete, execFlushByPort,
      execFilDiscardStaged, execFilCleanupDone, execFilCmdResume, execSignalRise, execSignalFall,
      execCdrLockAcquired, execAdaptComplete, execTrainDone, execTrainStepRequest, execStuffDiscard,
      execQuietEntry, execQuietExit, execQuietExitBoundary, execQuietMaxExit, execBurstEnd, execChkSyncAcquired,
      execChkSyncLost, execChkClr, execEvtClr, execInjOne, execInjectPeriodic, execInternalSourceResume,
      execHoldEvaluate, execPerfClr, execPerfCounterWrap, execSknSearch, execSknRead, execSknUpdate,
      execSknEvict, execSknPin, execSknUnpin, execSknDiscardStaged, execBobReleaseEffect, execThread0Overrun,
      execPolicerRefresh, execTxOpportunity, execShaperCreditZero, execGateEdge, execGlSyncDone, execPauseRx,
      execPfcRx, execPauseTimerExpiry, execPauseWdIgnoreEnd, execPauseHoldRequest, execPauseReleaseRequest,
      execPauseRepeat, execLinkUp, execLinkDown, execFecUnlock, execRemoteFaultRx, execRemoteFaultEnd,
      execIngressLookup, execEnqueue, execClockLost, execChannelRejoin, execServoAcquire, execSourceLost,
      execSourceRegained, execHoldoverTraceExpiry, execAutoRevert, execSwitchSettled, execReplicaRefresh,
      execCaptureEdge, execPulseWidthEnd, execIrigBSecond, execHighClr, execProbeSend, execHelloRx,
      execManagerElection, execJoinReqSend, execJoinReq, execStatusSend, execStatusRx, execMemberAbsent,
      execScDist, execScAck, execMgrLost, execTakeoverActive, execTakeover, execHandoverStart, execHandover,
      execBobAdd, execBobSub, execBobAnd, execBobOr, execBobXor, execBobShl, execBobShr, execBobSar, execBobMul,
      execBobMulhu, execBobMin, execBobMax, execBobMinu, execBobMaxu, execBobSlt, execBobSltu, execBobPopcnt,
      execBobBswap, execBobAddi, execBobAndi, execBobOri, execBobXori, execBobShiftiShl, execBobShiftiShr,
      execBobShiftiSar, execBobLui, execBobInsi, execBobBeq, execBobBne, execBobBlt, execBobBge, execBobBltu,
      execBobBgeu, execBobJal, execBobJr, execBobLd, execBobLw, execBobSd, execBobSw, execBobLdi, execBobFlearn,
      execBobPcharge, execBobDrd, execBobDwr, execBobDatest, execBobTimeNs, execBobTimeStitch, execBobTimePhase,
      execBobTimeEpoch, execBobTimeStatus, execBobRdid, execBobEnd, execBobYield, execModTimerExpiry,
      execQpEnable, execTxDoorbell, execRxDoorbell, execFlsFree, execAtsTranslationComplete, execAtsInvalidate,
      execSurpriseDown, execPcieLinkReturn, execDdrPhyFailure, execD2dCrcFail, execD2dRetrainDone,
      execFwRestart, execFwRestartDone, execIrq0Rearm, execThrottleStep, execThrottleRecover, execD2dDeskew,
      execSoftResetRequest, execSoftResetDone, execH1EntryAttempt, execH2IdleEntry, execH2Req, execWakeReq,
      execHoopH1Wake, execH2PowerUpDone, execH2PowerUpTimeout, execHoopPadRelease, execD3hotEntry,
      execHandshakeAnswer, execHandshakeTimeout, execPmeTurnOff, execPerstDeassert, execSmbusWakeMatch,
      execGpioWake, execWakeTimer, execDevicePadRelease, execWakePatternMatch, execFunctionLevelReset,
      execPerstAssert, execIndCtrlWrite, execIndAddrWrite, execIndDataRead, execIndDataWrite, execIndWriteDone,
      execClsRetire, execClsUnstage, execClsKeep, execSegRetire, execSegUnstage, execSegKeep,
      execUnmappedAccess, execCommitGo, execCommitCancel, execPeriodReq, execCommitClose]

/-- Settles O60: a burn unburns nothing and sets a transition bit only as the checks of a TRANSITION allow; what the
Mordant does beside burning, resets, the boot and every other command leave the fuses as they are. -/
theorem lifeCycle : Obligations.LifeCycle := by
  refine ⟨rfl, fun _ => morState_of_clear, fun _ _ => morState_of_top, fun c s u h => ?_⟩
  have hstep := lifeStep_exec c s
  rw [h] at hstep
  exact hstep

end Sys2Proof.Machine
end
